-- ==== Sys2Proof/Word.lean ====
section
/-! DEFINITION. The word types of the SK-720 model: a register is 64 bits wide (R11), memory is byte addressed
and little-endian (R11), a vector register is 256 bits wide (R98). -/
namespace Sys2Proof

/-- One byte. -/
abbrev Byte := BitVec 8

/-- A control-space register, and a general register of an array core (R11, R98). -/
abbrev W64 := BitVec 64

/-- A vector register (R98). -/
abbrev Vec256 := BitVec 256

/-- A FP32 bit pattern. -/
abbrev F32 := BitVec 32

/-- A logical core of the module: 32 × logical cluster + logical core (R20, R22). -/
abbrev CoreId := Fin 4096

/-- A logical cluster (R21). -/
abbrev ClusterId := Fin 128

/-- A logical crossbar of the module: 512 × logical cluster + logical array slot (R22). -/
abbrev XbId := Fin 65536

/-- A physical crossbar by the number of R458: 612 × (17 × py + px) + 18 × pcore + pxb. -/
abbrev PxbId := Fin 83232

/-- A general register g0 to g31 of a core. -/
abbrev GReg := BitVec 5

/-- A vector register v0 to v31 of a core. -/
abbrev VReg := BitVec 5

end Sys2Proof
end

