-- ==== Sys2Proof/Syntax.lean ====
section
/-! DEFINITION. The commands of the SK-720: one constructor of `Instr` per row of spec/opcode_table.json, in the
table's order, with the operands the row's rules give it. The table gives no row an encoding. -/
namespace Sys2Proof

/-- Who makes a control-space access (R19, R50, R324). -/
inductive Accessor where
  | custodian
  | host (p : Fin 4)
  | vf (p : Fin 4) (fn : Fin 256)
deriving DecidableEq, Repr

/-- Who delivers a partial catalogue (R315): a CATALOGUE_STAGE descriptor of a host port, or custodian firmware for a partition. -/
inductive StageSource where
  | port (p : Fin 4)
  | custodian (part : Fin 16)
deriving DecidableEq, Repr

/-- Destination or source of a load or store: a general register (8 bytes) or a vector register (32 bytes), R98, R109. -/
inductive RegRef where
  | g (r : GReg)
  | v (r : VReg)
deriving DecidableEq, Repr

/-- Scalar operations of R100's class "Scalar and control". The instruction set is not reproduced in the spec;
log entry 14 names the list taken. -/
inductive ScalarOp where
  | add | sub | mul | and | or | xor | shl | shr | sar
  | eq | ne | lt | ltu | ge | geu
deriving DecidableEq, Repr

/-- Second operand of a scalar operation. -/
inductive Src where
  | reg (r : GReg)
  | imm (v : W64)
deriving DecidableEq, Repr

/-- Branch, call and jump (R100, R111): distinct signed and unsigned conditions over 64 bits. -/
inductive BranchOp where
  | cond (c : ScalarOp) (a b : GReg) (target : Nat)
  | jump (target : Nat)
  | jumpReg (r : GReg)
  | call (link : GReg) (target : Nat)
  | callReg (link : GReg) (r : GReg)
deriving DecidableEq, Repr

/-- Lane types of the vector unit (R98). -/
inductive Lane where
  | i8 | i16 | i32 | bf16 | f32
deriving DecidableEq, Repr

/-- Vector operations: lane arithmetic, multiply-accumulate, conversion, reduction (R102; log entry 14). -/
inductive VecOp where
  | add | sub | mul | max | min
  | mac
  | cvt (dst : Lane)
  | redSum | redMax
deriving DecidableEq, Repr

/-- Input formats of an array issue (R60). -/
inductive InFmt where
  | uint8 | int8 | uint4 | int4
deriving DecidableEq, Repr

/-- Direction of a block move (R101). -/
inductive BlkDir where
  | toScratch | toCluster
deriving DecidableEq, Repr

/-- The kinds of calibration gap (R465). -/
inductive GapKind where
  | skip | phase | idle
deriving DecidableEq, Repr

/-- What a memory read or a scrub finds in a word (R143, R206). -/
inductive Upset where
  | corrected | uncorrectable
deriving DecidableEq, Repr

/-- A residue disagreement of one tile of an exact-engine job: persistent when the second computation disagrees too (R186). -/
structure ResidueFault where
  row : Nat
  col : Nat
  persistent : Bool
deriving DecidableEq, Repr

/-- The fabric packet header and data (R378); `poison` holds the POISON bit of each 56-byte unit. -/
structure Packet where
  cls : Nat
  op : Nat
  dstPart : Nat
  dest : Nat
  src : Nat
  job : Nat
  pool : Nat
  tag : Nat
  tick : Nat
  offset : Nat
  check : BitVec 32
  data : List Byte
  poison : List Bool
deriving DecidableEq, Repr

/-- A flit as the receiver sees it (R365, R366, R369): the header of its codeword, the fields of the flit, its USED payload bytes and the POISON bit of each
56-byte unit of them; whether the codeword decoded and LCRC is right. -/
structure Flit where
  header : BitVec 20
  seq : Nat
  ack : Nat
  type : Nat
  cls : Nat
  vc : Nat
  first : Bool
  last : Bool
  decoded : Bool
  lcrcOk : Bool
  payload : List Byte
  poison : List Bool
deriving DecidableEq, Repr

/-- The IDENT message (R377). -/
structure Ident where
  module : Nat
  port : Nat
  sync : Nat
  domain : Nat
  kind : Nat
  amode : Nat
  tickUs : Nat
  x : Nat
  y : Nat
  z : Nat
deriving DecidableEq, Repr

/-- The TIME message (R398) with `arrive`, the LT at which the receiving port saw it (R397). -/
structure TimeMsg where
  n : Nat
  nLast : Nat
  t1Prev : Int
  t2Last : Int
  depth : Nat
  pri : Nat
  root : Nat
  tick : Nat
  bound : Int
  cum : Int
  tickUs : Nat
  arrive : Int
deriving DecidableEq, Repr

/-- How a MCTP message reached the custodian (R534) and whether it came inside an SPDM secured session (R535);
`lenOk` is clear when the message does not have its command's length (R535). -/
structure Mgmt where
  pcie : Bool
  secured : Bool
  lenOk : Bool
deriving DecidableEq, Repr

/-- The fields of a debug token (R540); `signed` is the 40 bytes the signature covers, `r` and `s` the signature. -/
structure Token where
  magic : BitVec 32
  format : Nat
  rights : Nat
  uid : List Byte
  nonce : W64
  seconds : Nat
  signed : List Byte
  r : List Byte
  s : List Byte
deriving DecidableEq, Repr

/-- The request fields of SET_PLAN (R535). -/
structure Plan where
  coord : W64
  neighbour : List W64
  secret : Option (List W64)
  limits : Option W64
  bridge : Option W64
deriving DecidableEq, Repr

/-- The device side of a PORT_RESET (R327, R528, R562): a function level reset of a VF, or an event of the whole port. -/
inductive PortResetKind where
  | flrVf (fn : Fin 256)
  | flrPf | hotReset | linkDown | perst | refclkLoss
deriving DecidableEq, Repr

/-- Components of a PLDM Type 5 update (R536). -/
inductive Component where
  | firmware | keys | catalogue
deriving DecidableEq, Repr

/-- What a stage's own sensing reports when its trip latch fires (R489). -/
inductive TripCause where
  | overCurrent | overTemperature | critTimer
deriving DecidableEq, Repr

/-- The outcome of a DMA read of host memory: the bytes, or an error (R332, R574). -/
abbrev Dma := Option (List Byte)

/-- A step of debug-port access (R539). -/
inductive DbAccess where
  | read (off : Nat)
  | write (off : Nat) (v : W64)
deriving DecidableEq, Repr

/-- The commands. -/
inductive Instr where
  | tickBoundary
  | guardBand
  | ld (c : CoreId) (dst : RegRef) (base : GReg) (off : W64) (agree : Bool)
  | st (c : CoreId) (src : RegRef) (base : GReg) (off : W64) (agree : Bool)
  | cld (c : CoreId) (dst : RegRef) (base : GReg) (off : W64) (agree : Bool)
  | cst (c : CoreId) (src : RegRef) (base : GReg) (off : W64) (agree : Bool)
  | blk (c : CoreId) (dir : BlkDir) (dst src : GReg) (len : Nat) (agree : Bool)
  | ctl (c : CoreId) (rd base : GReg) (off : W64) (agree : Bool)
  | ctlw (c : CoreId) (rs base : GReg) (off : W64) (agree : Bool)
  | scalarArithmetic (c : CoreId) (op : ScalarOp) (rd ra : GReg) (b : Src)
  | branch (c : CoreId) (op : BranchOp)
  | vectorArithmetic (c : CoreId) (op : VecOp) (lane : Lane) (sat : Bool) (vd va vb : VReg)
  | vseal (c : CoreId) (gs gp : GReg) (vx : VReg) (a : BitVec 2)
  | saddm (c : CoreId) (gd ga gb : GReg)
  | schk (c : CoreId) (gd ga gb gm : GReg)
  | xphase (c : CoreId) (d : BitVec 2)
  | xissue (c : CoreId) (j : Fin 16) (vec : GReg) (fmt : InFmt) (res : GReg) (acc : Bool)
  | xsync (c : CoreId) (j : Fin 16)
  | xstat (c : CoreId) (rd : GReg) (j : Fin 16)
  | qpush (c : CoreId) (rd : GReg) (q : Fin 512) (src : GReg) (len : Nat) (tag : BitVec 16)
  | qpop (c : CoreId) (rd : GReg) (q : Fin 512)
  | tsig (c : CoreId) (k : Fin 256) (n : BitVec 16)
  | twait (c : CoreId) (k : Fin 256) (n : BitVec 16) (d : Nat)
  | tokenDeadline (c : CoreId)
  | msend (c : CoreId) (e : Nat)
  | mcast (c : CoreId) (tree : Fin 4) (e : Nat)
  | gsend (c : CoreId) (e : Nat)
  | esub (c : CoreId) (rd : GReg) (desc : GReg)
  | job (c : CoreId) (n : BitVec 12)
  | tmark (c : CoreId) (due : Nat)
  | tend (c : CoreId)
  | wait (c : CoreId)
  | csrr (c : CoreId) (rd : GReg) (csr : BitVec 12)
  | csrw (c : CoreId) (csr : BitVec 12) (rs : GReg)
  | productRelease (x : XbId)
  | reEvaluation (x : XbId)
  | arbitration (l : ClusterId) (engineOk : Bool)
  | calibrationStep (x : XbId) (gap : GapKind) (abandoned : Bool)
  | slotOpen (e : Nat) (addrAgree : Bool)
  | transferLanding (e : Nat)
  | spillSlot (l : ClusterId)
  | returnsSlot (l : ClusterId)
  | qpushCopyComplete (l : ClusterId) (q : Fin 512)
  | exactJobStart (l : ClusterId)
  | exactJobComplete (l : ClusterId) (faults : List ResidueFault)
  | kvAppend (stk : Fin 16)
  | attend (stk : Fin 16)
  | gather (stk : Fin 16)
  | streamEngineFailure (stk : Fin 16)
  | scrub (stk : Fin 16) (found : Option Upset)
  | hbmStackHot (stk : Fin 16) (temp : Int)
  | coreHardFailure (c : CoreId)
  | coreSubstitution (c : CoreId)
  | clusterFailure (px : Fin 17) (py : Fin 8)
  | placementDemand (h : Nat)
  | tileWriteComplete (n : PxbId) (passed : Bool)
  | shardVerify (h : Nat) (shard : Nat) (received : Dma)
  | stagingTimeout (h : Nat)
  | twinWriteComplete (x : XbId) (passed : Bool)
  | driftReverify (x : XbId) (pulsed : Bool) (reached : Bool)
  | masterRestore (sec : Nat) (tile : Nat) (peer : Option (List Byte))
  | adapterCopyComplete (a : Fin 8192) (received : Dma)
  | shVolumeStateQuery (acc : Accessor) (v : W64)
  | shLoanCountQuery (acc : Accessor) (v : W64)
  | shMapQuery (acc : Accessor) (v : W64)
  | partialSwap (acc : Accessor) (part : Fin 16) (target : BitVec 32)
  | throttle (acc : Accessor) (arg : BitVec 16) (target : BitVec 32)
  | announceExit (acc : Accessor) (target : BitVec 32)
  | discard (acc : Accessor) (part : Fin 16)
  | partialCheckComplete
  | hpDoorbell (acc : Accessor) (p : Fin 4) (k : Fin 256) (tail : BitVec 16)
  | descriptorFetch (p : Fin 4) (k : Fin 256) (d : Dma)
  | openRequest (p : Fin 4)
  | append (p : Fin 4)
  | chunkReadComplete (p : Fin 4) (k : Fin 256) (data : Dma)
  | generate (p : Fin 4)
  | close (p : Fin 4)
  | cancel (p : Fin 4)
  | volumeStage (p : Fin 4)
  | volumePlace (p : Fin 4)
  | volumeRelease (p : Fin 4)
  | adapterStage (p : Fin 4)
  | adapterRelease (p : Fin 4)
  | catalogueStage (from_ : StageSource) (image : Dma)
  | outputRecordComplete (svc : Nat) (n : Nat) (b : Nat) (j : Nat)
  | hpCancel (acc : Accessor) (p : Fin 4) (k : Fin 256) (req : BitVec 32)
  | hpCplHead (acc : Accessor) (p : Fin 4) (k : Fin 256) (head : BitVec 16)
  | ringEnable (acc : Accessor) (p : Fin 4) (k : Fin 256)
  | ringDisable (acc : Accessor) (p : Fin 4) (k : Fin 256)
  | portReset (p : Fin 4) (kind : PortResetKind)
  | flitReceive (p : Fin 8) (f : Flit)
  | nak (p : Fin 8) (expect : BitVec 16)
  | credit (p : Fin 8) (cls : Fin 4) (vc : Fin 2) (n : Nat)
  | poolAdv (p : Fin 8) (pool : Nat) (capacity : Nat) (withdraw : Bool)
  | poolRet (p : Fin 8) (pool : Nat) (cells : Nat)
  | ident (p : Fin 8) (m : Ident)
  | time (p : Fin 8) (m : TimeMsg)
  | announce (p : Fin 8) (module : Nat) (aseq : Nat) (action : Nat) (arg : Nat) (tgt : Nat)
  | exit (p : Fin 8) (module : Nat) (cause : Nat) (tgt : Nat)
  | ctick (p : Fin 8) (module : Nat) (tick : Nat) (edges : Nat)
  | queuePacket (p : Fin 8) (k : Packet)
  | write (p : Fin 8) (k : Packet)
  | readReq (p : Fin 8) (k : Packet)
  | readResp (p : Fin 8) (k : Packet)
  | shardReq (p : Fin 8) (k : Packet)
  | shardData (p : Fin 8) (k : Packet)
  | shardNone (p : Fin 8) (k : Packet)
  | fabricSlotOpen (p : Fin 8) (e : Fin 256)
  | replayTimeout (p : Fin 8)
  | trainingComplete (p : Fin 8)
  | retrainTimeout (p : Fin 8)
  | identTimeout (p : Fin 8)
  | identResend (p : Fin 8)
  | timeSend (p : Fin 8) (lt : Int)
  | ctickSend (p : Fin 8) (edges : Nat)
  | creditReturnTimer (p : Fin 8)
  | linkDown (p : Fin 8)
  | holdoverExpiry
  | portDisable (acc : Accessor) (p : Fin 8) (disable : Bool)
  | syncRefWindow
  | syncRefMissing
  | fabricRefMissing
  | fabricRefRestore
  | recordMirror
  | inErrHead (acc : Accessor) (rd : BitVec 32)
  | resume (acc : Accessor) (part : Fin 16)
  | monitorMeasurement (x : XbId) (sumSq : Nat)
  | recalibration (n : PxbId) (theta : Int) (codes : List (BitVec 32)) (refs : List (BitVec 5)) (q : Nat) (vxb : Nat) (indexOk : Bool)
  | trimRecompute (px : Fin 17) (py : Fin 8)
  | calibrationSnapshot
  | laneEyeMeasurement (lane : Fin 64) (height width : BitVec 8)
  | sensorSample (counts : List Nat)
  | fastClear
  | thermCapRise
  | critTimeout
  | surveyConversion (code : BitVec 12)
  | svStart (acc : Accessor)
  | svUrgent (acc : Accessor) (ch : BitVec 7)
  | overcurrentWatcher (stage : Fin 2)
  | budgetAverage (meas : Nat)
  | pwDomainFreq (acc : Accessor) (d : Fin 8) (target : BitVec 11)
  | pwDomainVolt (acc : Accessor) (d : Fin 8) (target : BitVec 10)
  | regulatorRampDone (d : Fin 8)
  | stageTrip (stage : Fin 2) (cause : TripCause)
  | stageLockout (stage : Fin 2) (millivolt : Nat)
  | clPstate (acc : Accessor) (l : ClusterId) (v : W64)
  | throtNChange (low : Bool)
  | throtStuck
  | modRstAssert
  | modRstRelease
  | modRstHeld
  | powerOn
  | bootStep (ok : Bool)
  | resetStart (full : Bool)
  | getBoot (m : Mgmt)
  | setPlan (m : Mgmt) (p : Plan)
  | readLog (m : Mgmt) (first : BitVec 32) (count : Nat)
  | getEvents (m : Mgmt)
  | setAlert (m : Mgmt) (sev : Nat)
  | setTime (m : Mgmt) (seconds : W64)
  | getDebugNonce (m : Mgmt)
  | setDebugToken (m : Mgmt) (t : Token)
  | revokeDebug (m : Mgmt)
  | resetModule (m : Mgmt)
  | resetFull (m : Mgmt)
  | debugTokenExpiry
  | mctpControl (m : Mgmt) (command : Nat) (arg : Nat)
  | getTid (m : Mgmt)
  | getPldmVersion (m : Mgmt)
  | getPldmTypes (m : Mgmt)
  | getPldmCommands (m : Mgmt) (type : Nat)
  | pdrRepository (m : Mgmt)
  | getSensorReading (m : Mgmt) (sensor : Nat)
  | getStateSensorReadings (m : Mgmt) (sensor : Nat)
  | requestUpdate (m : Mgmt)
  | passComponentTable (m : Mgmt) (comps : List Component)
  | updateComponent (m : Mgmt) (comp : Component) (size : Nat)
  | requestFirmwareData (m : Mgmt) (data : List Byte)
  | transferComplete (m : Mgmt) (ok : Bool)
  | verifyComplete
  | applyComplete
  | activateFirmware (m : Mgmt)
  | getStatus (m : Mgmt)
  | cancelUpdateComponent (m : Mgmt)
  | cancelUpdate (m : Mgmt)
  | getMeasurements (m : Mgmt)
  | dbacc (j5 : Bool) (a : DbAccess)
  | extest (j5 : Bool)
  | clamp (j5 : Bool)
  | highz (j5 : Bool)
  | bypass (j5 : Bool)
  | idcode (j5 : Bool)
  | samplePreload (j5 : Bool)
  | dbgPrsntNChange (low : Bool)
  | registerWrite (acc : Accessor) (off : Nat) (width : Nat) (v : W64)
  | stackFailure (stk : Fin 16)
  | standbySupplyLoss
  | perstpNRelease (p : Fin 4)
  | hostLinkUp (p : Fin 4) (speed : BitVec 3) (width : BitVec 4)
  | syncRefEdge (sinceLast : Nat)
  | throtUnstableClear
  | keyEx (m : Mgmt)
  | manifestReadComplete (h : Nat) (manifest : Dma)
  | readbackComplete (n : PxbId) (matched : Bool)
  | stagingBufferVerified (c : CoreId)
  | reverifyOverdue (x : XbId) (hours : Nat)
  | monitorOverdue (x : XbId)
deriving DecidableEq, Repr

end Sys2Proof
end

