-- ==== Sys2Proof/Config.lean ====
section
/-! DEFINITION. What the spec leaves open, as uninterpreted constants: nothing in Lean can evaluate them, so a
statement about them holds whatever they are. Each is named in a row of notes/assumptions. -/
namespace Sys2Proof

/-- Departure of the n-th conversion from its ideal code, in converter steps (R70, R94: the actual code departs
from the ideal by residual and read noise; no value is given). Log entry 4. -/
opaque Config.convError : Nat → Int

/-- The n-th value the spec leaves open, where a number is needed (a timestamp, a measured figure). Log entry 5. -/
opaque Config.freeNat : Nat → Nat

/-- The n-th 64-bit value the spec leaves open. Log entry 5. -/
opaque Config.freeWord : Nat → W64

/-- Which of the FP32 numbers within 1 ulp of e to its operand the stream engine's exponential gives (R224: deterministic and accurate to 1 ulp).
Log entry 6. -/
opaque Config.expChoice : F32 → Nat

/-- SHA-384 of a byte string, little-endian as a number (R242, R438). An external standard the spec names only. Log entry 7. -/
opaque Config.sha384 : List Byte → BitVec 384

/-- ECDSA P-384: does (r, s) sign this digest under this key (R242, R291, R521, R540)? Log entry 7. -/
opaque Config.ecdsaOk : List Byte → BitVec 384 → List Byte → List Byte → Bool

/-- The four Reed–Solomon check symbols of R205 over 64 data bytes and metadata bytes 0 to 7: no generator is given. Log entry 8. -/
opaque Config.rsCode : List Byte → BitVec 32

/-- A shift of a general register by 64 or more places (R100 gives no result). Log entry 9. -/
opaque Config.wideShift : Nat → W64 → W64 → W64

/-- Does a multiply-accumulate of floating-point lanes round once (fused) or twice (R102 does not say)? Log entry 10. -/
opaque Config.macFused : Bool

/-- A conversion of a floating-point lane to an integer lane of the width, outside its range or of a NaN (R102 gives no value): a function of the
operand, so that it reproduces (R7). Log entry 10. -/
opaque Config.cvtInvalid : Nat → F32 → BitVec 32

/-- A floating-point lane reduction over lanes of the width: the order of its additions is not given (R102), and the result reproduces (R7). Log
entry 10. -/
opaque Config.fpReduce : Nat → Vec256 → BitVec 32

/-- The fused module identifier UID, 16 bytes (R521); each module has its own. Log entry 11. -/
opaque Config.uid : List Byte

/-- The fused digest of the root public key (R521). Log entry 11. -/
opaque Config.rootKeyDigest : BitVec 384

/-- The factory repair fuses: failed physical columns of a row (R24, R26). Log entry 12. -/
opaque Config.factoryFailedColumn : Nat → Nat → Bool

/-- The factory two-point trim of a sensor: the counts at 30 °C and at 90 °C (R475). Log entry 12. -/
opaque Config.sensorC30 : Nat → Nat
/-- See `Config.sensorC30`. -/
opaque Config.sensorC90 : Nat → Nat

/-- The factory value V25 of a stage diode, in 0.1 mV (R517). Log entry 12. -/
opaque Config.diodeV25 : Nat → Nat

/-- The factory store of calibration sets in NAND: the 12,288 bytes of a physical crossbar's record (R459). Log entry 12. -/
opaque Config.factoryRecord : Nat → Nat → Byte

/-- Order code SK-720-AD (J5 fitted) rather than SK-720-A (R3, R4). Log entry 13. -/
opaque Config.isAD : Bool

/-- Bytes of a SHARD_REQ, SHARD_DATA or SHARD_NONE for (VOLUME_ID, VERSION, shard, byte offset, shard bytes): the spec names
the packets and gives their data no layout (R249, R378). Log entry 32. -/
opaque Config.shardEncode : Nat → Nat → Nat → Nat → List Byte → List Byte

/-- The same fields as a receiver reads them: VOLUME_ID, VERSION, shard, byte offset, shard bytes. Log entry 32. -/
opaque Config.shardFields : List Byte → Nat × Nat × Nat × Nat × List Byte

/-- The value a port forms from its last 16 raw link delays or offsets, newest first: corrected for the rate ratio and smoothed
(R400 gives neither the correction nor the filter). Log entry 46. -/
opaque Config.timeSmooth : List Int → Int

/-- Data of management answers that the spec names and does not state: PLDM versions, PDRs, MCTP discovery answers, ROM version and fuse state, IDCODE
(R534, R536, R537, R539). Log entry 68. -/
opaque Config.answer : Nat → List Nat

end Sys2Proof
end

