-- ==== Sys2Proof/Machine/Bits.lean ====
section
/-! DEFINITION. Bit fields, byte order, two's complement, saturation, integer roots, sparse tables and CRC-32C: the
helpers every meaning rests on. Bytes are little-endian (R11). -/
namespace Sys2Proof.Machine
open Sys2Proof

/-- Bits [lo + w − 1 : lo] of a number. -/
def bitsOf (v lo w : Nat) : Nat := (v >>> lo) % 2 ^ w

/-- Bit i of a number. -/
def bitOf (v i : Nat) : Bool := v.testBit i

/-- A Bool as a bit. -/
def bitNat (b : Bool) : Nat := if b then 1 else 0

/-- The number a little-endian byte string spells (R11). -/
def leNat : List Byte → Nat
  | [] => 0
  | b :: r => b.toNat + 256 * leNat r

/-- The n little-endian bytes of a number (R11). -/
def leBytes : Nat → Nat → List Byte
  | 0, _ => []
  | n + 1, v => BitVec.ofNat 8 v :: leBytes n (v / 256)

/-- n bytes of a byte string from an offset, zero past its end. -/
def bytesAt (l : List Byte) (off n : Nat) : List Byte :=
  let r := (l.drop off).take n
  r ++ List.replicate (n - r.length) 0

/-- The little-endian number of n bytes at an offset. -/
def numAt (l : List Byte) (off n : Nat) : Nat := leNat (bytesAt l off n)

/-- A w-bit two's complement field as an integer. -/
def signed (w v : Nat) : Int :=
  let u := v % 2 ^ w
  if u < 2 ^ (w - 1) then (u : Int) else (u : Int) - (2 ^ w : Nat)

/-- The w-bit two's complement pattern of an integer: the low w bits. -/
def pattern (w : Nat) (x : Int) : Nat := (x % ((2 ^ w : Nat) : Int)).toNat

/-- The integer nearest x in [lo, hi]. -/
def clamp (lo hi x : Int) : Int := if x < lo then lo else if hi < x then hi else x

/-- The nearest w-bit signed integer. -/
def satSigned (w : Nat) (x : Int) : Int := clamp (-((2 ^ (w - 1) : Nat) : Int)) ((2 ^ (w - 1) : Nat) - 1) x

/-- The w-bit signed integer congruent to x. -/
def wrapSigned (w : Nat) (x : Int) : Int := signed w (pattern w x)

/-- a + n, held at 2^w − 1. -/
def satAdd (w a n : Nat) : Nat := Nat.min (a + n) (2 ^ w - 1)

/-- Nearest integer of n / d for d > 0, ties to even. -/
def divRNE (n : Int) (d : Nat) : Int :=
  let q := n / (d : Int)
  let r := n % (d : Int)
  if 2 * r < d then q else if 2 * r > d then q + 1 else if q % 2 = 0 then q else q + 1

/-- n / d rounded up, for naturals. -/
def ceilDiv (n d : Nat) : Nat := (n + d - 1) / d

/-- Integer square root by bisection on the bits of the result (31 down to 0). -/
def isqrtBits : Nat → Nat → Nat → Nat
  | 0, _, r => r
  | k + 1, v, r => let r' := r + 2 ^ k; isqrtBits k v (if r' * r' ≤ v then r' else r)

/-- ⌊√v⌋ for v below 2^128. -/
def isqrt (v : Nat) : Nat := isqrtBits 64 v 0

/-- Sum of a list of integers. -/
def sumInt (l : List Int) : Int := l.foldl (· + ·) 0

/-- Sum of a list of naturals. -/
def sumNat (l : List Nat) : Nat := l.foldl (· + ·) 0

/-- Insertion into a list sorted by `key`, after entries of the same key. -/
def insertBy {α : Type} (key : α → Nat) (x : α) : List α → List α
  | [] => [x]
  | y :: r => if key x < key y then x :: y :: r else y :: insertBy key x r

/-- Sort by `key`, stable. -/
def sortBy {α : Type} (key : α → Nat) (l : List α) : List α := l.foldl (fun acc x => insertBy key x acc) []

/-- Median of a list (the lower middle of an even count). -/
def medianInt (l : List Int) : Int :=
  let shift : Int := l.foldl (fun a x => if x < a then x else a) 0
  let s := sortBy (fun x : Int => (x - shift).toNat) l
  s.getD ((s.length - 1) / 2) 0

/-- The first element that satisfies p, and the list without it. -/
def takeFirst {α : Type} (p : α → Bool) : List α → Option (α × List α)
  | [] => none
  | x :: r =>
    if p x then some (x, r)
    else match takeFirst p r with
      | none => none
      | some (y, r') => some (y, x :: r')

/-- Replace element i of a list. -/
def setAt {α : Type} : List α → Nat → α → List α
  | [], _, _ => []
  | _ :: r, 0, y => y :: r
  | x :: r, i + 1, y => x :: setAt r i y

/-! Sparse tables. -/

/-- The entry listed under key k. -/
def tabFind {α : Type} : List (Nat × α) → Nat → Option α
  | [], _ => none
  | (j, v) :: r, k => if j = k then some v else tabFind r k

/-- Insert a key that is not listed, keeping keys rising. -/
def tabInsert {α : Type} : List (Nat × α) → Nat → α → List (Nat × α)
  | [], k, v => [(k, v)]
  | (j, u) :: r, k, v => if k < j then (k, v) :: (j, u) :: r else (j, u) :: tabInsert r k v

/-- The list without key k. -/
def tabErase {α : Type} (t : List (Nat × α)) (k : Nat) : List (Nat × α) := t.filter fun e => decide (e.1 ≠ k)

/-- What a table holds at k: its entry, else the default. -/
def tabGet {α : Type} (d : α) (t : List (Nat × α)) (k : Nat) : α := (tabFind t k).getD d

/-- Write v at k: the default is not listed. -/
def tabSet {α : Type} [DecidableEq α] (d : α) (t : List (Nat × α)) (k : Nat) (v : α) : List (Nat × α) :=
  if v = d then tabErase t k else tabInsert (tabErase t k) k v

/-- Write f 0 … f (n − 1) at keys lo … lo + n − 1. -/
def tabBlock {α : Type} [DecidableEq α] (d : α) (t : List (Nat × α)) (lo n : Nat) (f : Nat → α) : List (Nat × α) :=
  (t.filter fun e => decide (e.1 < lo)) ++ (((List.range n).map fun i => (lo + i, f i)).filter fun e => decide (e.2 ≠ d))
    ++ t.filter fun e => decide (lo + n ≤ e.1)

/-- Keys strictly rising from `from_` on. -/
def tabRising {α : Type} : Nat → List (Nat × α) → Bool
  | _, [] => true
  | n, (k, _) :: r => decide (n ≤ k) && tabRising (k + 1) r

/-- The canonical form: keys strictly rising, no entry equal to the default. -/
def tabWf {α : Type} [DecidableEq α] (d : α) (t : List (Nat × α)) : Bool :=
  tabRising 0 t && t.all fun e => decide (e.2 ≠ d)

/-! CRC-32C (R425). -/

/-- One bit of the reflected CRC-32C register, polynomial 0x1EDC6F41 (reflected 0x82F63B78). -/
def crcBit (c : Nat) : Nat := if c % 2 = 1 then (c / 2) ^^^ 0x82F63B78 else c / 2

/-- One byte of the CRC-32C register. -/
def crcByte (c : Nat) (b : Byte) : Nat :=
  crcBit (crcBit (crcBit (crcBit (crcBit (crcBit (crcBit (crcBit (c ^^^ b.toNat))))))))

/-- CRC-32C of a byte string: initial value and final exclusive-or all ones (R425). -/
def crc32c (l : List Byte) : BitVec 32 := BitVec.ofNat 32 ((l.foldl crcByte 0xFFFFFFFF) ^^^ 0xFFFFFFFF)

end Sys2Proof.Machine
end

