-- ==== Sys2Proof/Machine/State.lean ====
section
/-! DEFINITION. The state of the SK-720 as plain data. Every numbered register of control space is held in `State.regs`
by its control-space offset (R46), under the reset value its heading gives (`Machine/Regs.lean`); what the spec describes
and gives no register is held in the structures below. A table (`Tab`) lists only entries that differ from its default,
keys strictly rising. -/
namespace Sys2Proof.Machine
open Sys2Proof

/-- A sparse table: keys strictly rising, no entry equal to the table's default. -/
abbrev Tab (α : Type) := List (Nat × α)

/-- HBM and the cluster memories by device address (R43), each 64-byte word's poison mark (R143), the words that end a check unit with
the unit's first word and CHECK (R205, R426), and the bit errors a word carries until it is read or written (R143, R206). `upset` is the environment's: no command
plants an entry. -/
structure Mem where
  bytes : List Host.Cell
  poison : Tab Bool
  check : Tab (Nat × BitVec 32)
  upset : Tab Upset
deriving DecidableEq, Repr

/-- Why a core does not issue its next instruction (R73, R106, R120, R123, R124, R502). -/
inductive CoreWait where
  | xissue (x : Nat)
  | xsync (x : Nat)
  | twait (k n d : Nat)
  | tmark (due : Nat)
  | tend
  | powerWait
deriving DecidableEq, Repr

/-- What a logical core does in the tick (R114, R122, R124, R126, R502, R573). -/
inductive CoreRun where
  | off
  | executing
  | waiting (w : CoreWait)
  | ended
  | parked
  | stopped
  | imageEnd
  | failed
deriving DecidableEq, Repr

/-- A logical array core beside its registers and memories (R98, R111, R118, R123, R126, R136). `posted` holds the transfers it
posted in the tick, each with its latch at the posting. -/
structure CoreSt where
  run : CoreRun := .off
  job : BitVec 12 := 0
  latch : Bool := false
  sat : Bool := false
  phase : BitVec 2 := 3
  ia : Nat := 0
  entered : List Nat := []
  ovrJobs : List Nat := []
  posted : List (Nat × Bool) := []
  slack : Option Nat := none
  agTick : Option Nat := none
  imgLen : Nat := 0
  imgEntry : Nat := 0
  bufVerified : Bool := false
  ktick : Nat := 0
  waited : Bool := false
deriving DecidableEq, Repr

/-- The cores' register files and private memories, by 32 × core + register, 65,536 × core + address,
1,024 × core + 64-byte word, 32,768 × core + byte, 512 × core + 64-byte instruction word (R98, R109, R429). -/
structure CoreFile where
  st : Tab CoreSt
  gpr : Tab W64
  gprPoison : Tab Bool
  vr : Tab Vec256
  vrPoison : Tab Bool
  scratch : List Host.Cell
  scratchPoison : Tab Bool
  scratchUpset : Tab Upset
  imem : List Host.Cell
  ibuf : List Host.Cell
  imemUpset : Tab Upset
deriving DecidableEq, Repr

/-- How a product meets its slot (R96). -/
inductive ProductKind where
  | normal
  | fenced
  | empty
deriving DecidableEq, Repr

/-- A product from issue to release (R72, R104): `need` is N, `reserved` is B, `t0` its start in ns of the tick,
`base` the free-value counter of its conversions, `redo` the conversion periods converted again (R431), `settled` the periods
whose disagreement persisted, `suspect` release with SUSPECT, `hold` a release that waits for the verdict, `earliest` a release
time put off by re-evaluation (R434), `verdict` the exact results that take a group's place, `allPoison` a poisoned master. -/
structure Product where
  core : Nat
  job : Nat
  fmt : InFmt
  vecAddr : Nat
  vec : List Byte
  vecPoison : Bool
  res : Nat
  acc : Bool
  d : Nat
  t0 : Nat
  need : Nat
  reserved : Nat
  kind : ProductKind
  prec : Nat
  base : Nat
  redo : List (Nat × Nat)
  settled : List Nat
  suspect : Bool
  hold : Bool
  earliest : Nat
  verdict : Option (List (Nat × Int))
  allPoison : Bool
deriving DecidableEq, Repr

/-- A disagreement that persisted, in the crossbar's arbitration latch (R85, R431, R434): the product with its latched input,
the conversion period, the first free value of its re-evaluation, the group, and the policy in force in the tick in which it persisted. -/
structure Dispute where
  prod : Product
  period : Nat
  base : Nat
  group : Nat
  policy : Nat
deriving DecidableEq, Repr

/-- What runs on a logical crossbar: the product in conversion, the one queued, the one whose issue stalls the core (R73),
the disagreement in arbitration (R436), the conversion period that waits for re-evaluation (R85), a product whose conversions have
ended and whose release waits for the verdict (R434), whether nothing has started since (R106), a product whose conversions have ended
and whose results are due (R72), the ns of `now` at which its converters were last given up (R465), the monitor measurement's completed steps (R468). -/
structure XbRun where
  conv : Option Product := none
  queued : Option Product := none
  stalled : Option Product := none
  dispute : Option Dispute := none
  failing : Option Nat := none
  held : Option Product := none
  heldLast : Bool := false
  out : Option Product := none
  idle : Nat := 0
  monSteps : Nat := 0
deriving DecidableEq, Repr

/-- States of a physical crossbar (R276). -/
inductive XState where
  | serving | fenced | writing | reserve | twinPrep | twin | held | weeded
deriving DecidableEq, Repr

/-- Causes of weeding (R275). -/
inductive WeedCause where
  | calibration | writeFail | drift | endurance
deriving DecidableEq, Repr

/-- Why the shelver writes a crossbar (R258). -/
inductive WriteFor where
  | none | placement | replacement | twin | substitution
deriving DecidableEq, Repr

/-- A physical crossbar beside its cells and corrections (R232, R271, R273, R276, R433, R458, R464). `forXb` is the logical
crossbar it is written for or serves; `handle`, `tile` what is being written; `prec` the precision of its content; `reading` a readback or re-verify read under way,
`checked` the re-verify of this hold done (R469 step 1), `clearIdx` a recalibration in which every group passed step 7, so that IDX_OFF clears when it serves
again (R83); `monUp` the monitor's result under the trims in force; `noRecal` the ns of `now` before which it is not recalibrated again (R471). -/
structure PhysXb where
  st : XState := .reserve
  writes : Nat := 0
  cause : Option WeedCause := none
  prec : Nat := 0
  quality : Nat := 0
  qSet : Nat := 0
  reverified : Option Nat := none
  stale : Bool := true
  overdue : Bool := false
  wrongTick : Option Nat := none
  writeFor : WriteFor := .none
  forXb : Nat := 0
  handle : Nat := 0
  tile : Nat := 0
  passed : Bool := false
  reading : Bool := false
  checked : Bool := false
  recal : Bool := false
  clearIdx : Bool := false
  monUp : Nat := 0
  noRecal : Nat := 0
  staged : Bool := false
  stagedQ : Nat := 0
deriving DecidableEq, Repr

/-- The crossbars: cell levels by 270,336 × n + 528 × row + column (R52, R53), column words in force and staged by
528 × n + column (R456 to R458), converter trims by 8 × n + g, the physical units, the shelver's map and the twin by
logical crossbar (R232, R270), what runs on each logical crossbar, verdicts that act at the boundary as (crossbar, verdict, group) (R433). -/
structure XbFile where
  cells : Tab (BitVec 4)
  corr : Tab (BitVec 32)
  shadow : Tab (BitVec 32)
  refTrim : Tab (BitVec 5)
  refShadow : Tab (BitVec 5)
  phys : Tab PhysXb
  map : Tab Nat
  twin : Tab Nat
  run : Tab XbRun
  effects : List (Nat × Nat × Nat)
deriving DecidableEq, Repr

/-- A packet held by a queue: its pool cells in order, whether its ending notice has been popped (R147, R148). -/
structure QPacket where
  seq : Nat
  tag : Nat
  len : Nat
  cells : List Nat
  cut : Bool
  popped : Bool
deriving DecidableEq, Repr

/-- A packet arriving into a queue (R147, R152): the data and the poison of each cell, its check value, the threshold under which
it began, the cells written, the core whose QPUSH it copies and the job it was pushed for (R111), the ns of the tick at which it began, the credit
pool it came from (R158). -/
structure QArrival where
  pkt : QPacket
  push : Bool
  data : List Byte
  poison : List Bool
  check : BitVec 32
  thresh : Nat
  written : Nat
  core : Nat
  job : Nat
  start : Nat
  pool : Option Nat
deriving DecidableEq, Repr

/-- A packet in spill staging, in the returns bin or waiting for its gate slot (R150, R163): the credit pool it came from, if any; of one in the
bin the 64-byte words of the partition's RETURNS_BIN region that hold its cells, in order, which then hold its data. -/
structure QSpill where
  q : Nat
  seq : Nat
  tag : Nat
  len : Nat
  data : List Byte
  poison : List Bool
  check : BitVec 32
  pool : Option Nat
  binCells : List Nat := []
deriving DecidableEq, Repr

/-- A queue beside QM_QCFG, QM_CUT_THRESH and QM_QSTAT: notices in order (R154, R155), packets, the arriving packet, the
queue's packets in the bin in SEQ order, the discards a GAP will report (R159, R163), `gapWaits` when it waits for the queue to be in
use in P0, its reserved cells now free and all of them (R153). -/
structure QueueSt where
  notices : List W64 := []
  pkts : List QPacket := []
  arriving : Option QArrival := none
  bin : List QSpill := []
  gapCount : Nat := 0
  gapSeq : Nat := 0
  gapWaits : Bool := false
  reserved : List Nat := []
  home : List Nat := []
deriving DecidableEq, Repr

/-- The pool of a cluster: shared free list, cells that join it at the boundary, spill staging (R144, R148, R163). -/
structure PoolSt where
  free : List Nat := []
  freed : List Nat := []
  staging : List QSpill := []
deriving DecidableEq, Repr

/-- An exact-engine job: the eight descriptor words, the job and core that posted it, whether its results carry poison (R170, R200). -/
structure XeJob where
  words : List W64
  job : Nat
  core : Nat
  poisonAll : Bool
deriving DecidableEq, Repr

/-- The exact engine of a cluster beside the XE registers (R171, R187, R195, R197). `arb` lists logical crossbars. -/
structure XeSt where
  queue : List XeJob := []
  running : Option XeJob := none
  arb : List Nat := []
  persist : List Nat := []
  failed : Bool := false
deriving DecidableEq, Repr

/-- A scheduled transfer under way: its slot entry, bytes with a poison bit each, check value, whether it is a stand-in, whether it
lands, and for a queue the packets that follow the first (R125, R131, R299, R427). -/
structure Xfer where
  entry : Nat
  data : List Byte
  poison : List Bool
  check : BitVec 32
  standIn : Bool
  lands : Bool
  pkts : List QSpill
deriving DecidableEq, Repr

/-- A credit pool: cells out with the producer, cells returned and owed to the producer, packets waiting for their GATE_IN slot
(R150, R164, R375). -/
structure CreditSt where
  out : Nat := 0
  owed : Nat := 0
  waiting : List QSpill := []
deriving DecidableEq, Repr

/-- Cluster-level units by cluster, by 512 × cluster + queue, by pool number; slot entries opened in the tick, and those whose
missing post has been charged to a core (R125, R126); the tick's overruns as (core, kind, job), newest first, which CL_OVERRUN reports once
the tick is completed (R138); the corrected errors of each cluster memory (R143). -/
structure ClusterFile where
  queue : Tab QueueSt
  pool : Tab PoolSt
  xe : Tab XeSt
  xfers : List Xfer
  opened : List Nat
  charged : List Nat
  credit : Tab CreditSt
  arbData : Tab Bool
  overruns : List (Nat × Nat × Nat)
  ecc : Tab Nat
deriving DecidableEq, Repr

/-- A stream-engine command (R222): fields of its header, its payload with a poison bit for each byte, whether its header is poisoned or
its check value failed (`bad`), the cluster it came from, the tick in which it arrived, whether its return slot has opened without it. -/
structure SeCmd where
  kind : Nat
  job : Nat
  slot : Nat
  layer : Nat
  first : Nat
  count : Nat
  length : Nat
  ret : Nat
  reservedZero : Bool
  payload : List Byte
  marks : List Bool
  bad : Bool
  cluster : Nat
  tick : Nat
  late : Bool
deriving DecidableEq, Repr

/-- A stream-engine result waiting for its return slot or pool (R226, R299), with a poison bit for each byte. -/
structure SeResult where
  eng : Nat
  ret : Nat
  data : List Byte
  marks : List Bool
  tick : Nat
deriving DecidableEq, Repr

/-- A decode slot beside SE_SLOT_STAT: page list as (TPN, frame) by logical page, WRITTEN by layer (R217, R219). -/
structure SlotSt where
  pages : Tab (Nat × Nat) := []
  written : Tab Nat := []
deriving DecidableEq, Repr

/-- The stream engines and memory controllers (R202 to R226): commands held, results ready, slots by 256 × engine + slot,
free frames by 16 × engine + partition (R221), TPNs in use by tenant as a list (R220), corrections of a controller since
its last 1,024 (R206), decode slots that admission has given and that become OPEN at the boundary, as (256 × engine + slot, partition, tenant)
(R214), stack sensors in 0.25 °C, the command-rate limit (R204), failures. -/
structure StreamFile where
  cmds : Tab (List SeCmd)
  results : List SeResult
  slot : Tab SlotSt
  free : Tab (List Nat)
  tpn : Tab (List Nat)
  corr : Tab Nat
  opening : List (Nat × Nat × Nat)
  temp : Tab Int
  limited : Tab Bool
  failed : Tab Bool
  rebuild : List Nat
deriving DecidableEq, Repr

/-- A staging request that waits for its DONE entry (R336, R340): where it came from and what the entry copies. -/
structure StageReq where
  port : Nat
  ring : Nat
  req : Nat
  user : W64
  irq : Bool
deriving DecidableEq, Repr

/-- Volume states (R262). -/
inductive VolState where
  | absent | staging | staged | placing | shelved | retiring | unavailable
deriving DecidableEq, Repr

/-- A directory entry (R240 to R263): its partition, state and reason; the manifest's fields; the shards' lengths and digests, those
verified and the attempts made; the 1 MiB frames that hold its library copy, and the shards of that copy being restored with the peers tried
(R248, R272); the frames charged to its quota, whether the library copy is whole; peers; loans, pin, the section it is placed
in; of the placement under way the tiles done with the physical crossbar that holds each, the tiles copied to the master area, begun, found
to differ from the retained content, those whose write has failed, whether the blobs are copied; the shard that each tile lies in; the layer table as (engine, precision, first, count); shard bytes received
so far from a peer; the timeout that its staging was given; the staging request that waits and the placement requests. -/
structure Volume where
  st : VolState := .absent
  reason : Nat := 0
  part : Nat := 0
  id : Nat := 0
  version : Nat := 0
  shape : Nat := 0
  tiles : Nat := 0
  resident : Bool := false
  shards : List (Nat × BitVec 384) := []
  verified : List Nat := []
  libFrames : List Nat := []
  mending : Tab Nat := []
  attempts : Tab Nat := []
  peers : List Nat := []
  frames : Nat := 0
  lib : Bool := false
  pin : Bool := false
  place : Bool := false
  loans : Nat := 0
  returned : Nat := 0
  sec : Option Nat := none
  done : List (Nat × Nat) := []
  copied : List Nat := []
  begun : List Nat := []
  differ : List Nat := []
  failed : List Nat := []
  blobs : Bool := false
  tileAt : Tab Nat := []
  layers : List (Nat × Nat × Nat × Nat) := []
  partials : Tab (List Byte) := []
  released : Bool := false
  timeoutMs : Nat := 0
  manifestLen : Nat := 0
  stager : Option StageReq := none
  watch : List StageReq := []
deriving DecidableEq, Repr

/-- A section beside its catalogue record (R235, R237, R253, R254, R262): the volume it holds, the version it retains (R277), LIVE
and RETIRING of its word, the section being evicted for a demand. -/
structure SectionSt where
  vol : Option Nat := none
  retained : Option (Nat × Nat) := none
  live : Bool := false
  retiring : Bool := false
  evicting : Bool := false
deriving DecidableEq, Repr

/-- Adapter slot states (R268). -/
inductive ASlotState where
  | unassigned | free | writing | current | retiring
deriving DecidableEq, Repr

/-- An adapter slot (R266 to R269): owner, adapter, tenant, generation, loans, frames in stack a mod 16, whether its checks have passed,
whether it was released, and the staging request that waits. -/
structure ASlot where
  st : ASlotState := .unassigned
  part : Nat := 0
  adapter : Nat := 0
  tenant : Nat := 0
  gen : Nat := 0
  loans : Nat := 0
  frame : Nat := 0
  frames : Nat := 0
  passed : Bool := false
  release : Bool := false
  stager : Option StageReq := none
deriving DecidableEq, Repr

/-- A change of the map, a twin or the serving crossbar, a core's switch-over, or an adapter slot's change that the commit row of the guard band has
committed for the boundary (R283). -/
inductive Commit where
  | xb (n : Nat)
  | core (c : Nat)
  | aslot (a : Nat)
deriving DecidableEq, Repr

/-- The shelver: directory, sections, adapter slots, waiting demands in order (R252), tile check values by 65,536 × section + tile
(R255), tiles to restore (R272), logical crossbars that wait for a twin, with its precedence (R258, R270), those that wait for a
replacement (R275), volumes being placed in the order served (R252), substitutions under way as logical core and spare (R29), physical cores that have been left (34 × cluster +
core), last generation of each adapter by 2³² × partition + adapter (R269), tiles of master areas that peers have been asked for (R272), what the guard
band has committed (R283). -/
structure ShelverFile where
  vol : Tab Volume
  sec : Tab SectionSt
  aslot : Tab ASlot
  demands : List Nat
  tileCheck : Tab (BitVec 32)
  restore : List (Nat × Nat)
  twinWanted : Tab Nat
  replace : List Nat
  placing : List Nat
  subst : Tab Nat
  usedCores : List Nat
  agen : Tab Nat
  asked : List (Nat × Nat)
  commits : List Commit
deriving DecidableEq, Repr

/-- PARTITION record (R293). -/
structure PartRec where
  part : Nat
  valid : Bool
  host : Nat
  policy : Nat
  first : Nat
  count : Nat
deriving DecidableEq, Repr

/-- HOST record (R294). -/
structure HostRec where
  port : Nat
  enabled : Bool
  control : Bool
  vfs : Nat
  tenantFirst : Nat
  tenantCount : Nat
deriving DecidableEq, Repr

/-- TENANT record (R294). -/
structure TenantRec where
  tenant : Nat
  valid : Bool
  weight : Nat
  budget : Nat
  limit : List Nat
deriving DecidableEq, Repr

/-- REGION record (R295). -/
structure RegionRec where
  base : Nat
  size : Nat
  kind : Nat
  owner : Nat
deriving DecidableEq, Repr

/-- CLUSTER record (R296). -/
structure ClusterRec where
  cluster : Nat
  arb : Bool
  swap : Bool
  poolBase : Nat
  poolBanks : Nat
  stageCells : Nat
  freeCycles : Nat
  imgAddr : Nat
  swapAddr : Nat
  arbBuf : Nat
  arbPeriod : Nat
  xe : Nat
deriving DecidableEq, Repr

/-- QUEUE record (R297). -/
structure QueueRec where
  cluster : Nat
  thresh : Nat
  q : Nat
  cfg : W64
deriving DecidableEq, Repr

/-- Core entry of a leaf block (R298). -/
structure LeafCore where
  len : Nat
  entry : Nat
  code : Nat
  check : BitVec 32
  signals : List Nat
deriving DecidableEq, Repr

/-- Output region of a leaf block (R298). -/
structure OutRegion where
  job : Nat
  core : Nat
  addr : Nat
  len : Nat
deriving DecidableEq, Repr

/-- Leaf block (R298), at byte `base` of its image. -/
structure LeafRec where
  cluster : Nat
  base : Nat
  jobs : Nat
  resEnd : Nat
  latest : Nat
  cores : List LeafCore
  regions : List OutRegion
  code : List Byte
deriving DecidableEq, Repr

/-- SLOT entry (R299). -/
structure SlotRec where
  entry : Nat
  kind : Nat
  part : Nat
  job : Nat
  src : Nat
  dst : Nat
  start : Nat
  length : Nat
  bytes : Nat
  srcAddr : Nat
  dstAddr : Nat
  token : Nat
  tag : Nat
  dstQueue : Bool
  east : Bool
  hops : Nat
  path : Nat
  far : Nat
  tree : Nat
deriving DecidableEq, Repr

/-- MCAST record (R301). -/
structure McastRec where
  tree : Nat
  part : Nat
  lead : Nat
  token : Nat
  dstAddr : Nat
  members : List Nat
  parent : List Nat
deriving DecidableEq, Repr

/-- FABRIC entry (R302). -/
structure FabricRec where
  port : Nat
  part : Nat
  job : Nat
  start : Nat
  length : Nat
  cls : Nat
deriving DecidableEq, Repr

/-- STREAM record (R303). -/
structure StreamRec where
  part : Nat
  valid : Bool
  layers : Nat
  hkv : Nat
  hq : Nat
  dhead : Nat
  ctxMax : Nat
  scale : F32
  frames : List (Nat × Nat)
  slots : List (List Nat)
deriving DecidableEq, Repr

/-- Quota record (R304). -/
structure QuotaRec where
  dirLimit : Nat
  aslotFirst : Nat
  aslotCount : Nat
  libraryMib : Nat
  adapterMib : List Nat
deriving DecidableEq, Repr

/-- Section record and slot list (R304). -/
structure SectionRec where
  sec : Nat
  part : Nat
  resident : Bool
  shape : Nat
  tiles : Nat
  blobBytes : Nat
  masterAddr : Nat
  wordAddr : Nat
  volume : Nat
  version : Nat
  slots : List Nat
deriving DecidableEq, Repr

/-- PRECISION record (R305). -/
structure PrecRec where
  shape : Nat
  layer : Nat
  engine : Nat
  prec : Nat
  phases : Nat
deriving DecidableEq, Repr

/-- CREDIT record (R306). -/
structure CreditRec where
  pool : Nat
  source : Nat
  id : Nat
  cls : Nat
  part : Nat
  cluster : Nat
  queue : Nat
  capacity : Nat
deriving DecidableEq, Repr

/-- SERVICE record (R341). -/
structure ServiceRec where
  service : Nat
  part : Nat
  valid : Bool
  input : Bool
  gen : Bool
  adapt : Bool
  stages : Nat
  maxUnits : Nat
  batch : Nat
  engines : Nat
  maxOpen : Nat
  shape : Nat
  chunkMax : Nat
  unitBytes : Nat
  cost : Nat
  inputAddr : Nat
  outAddr : Nat
  batchAddr : Nat
  job : Nat
  layers : List Nat
deriving DecidableEq, Repr

/-- A catalogue image as its sections give it (R289 to R306, R341). `present` lists the section types it carries. -/
structure Cat where
  partial_ : Bool := false
  part : Nat := 0
  catId : Nat := 0
  gen : Nat := 0
  baseGen : Nat := 0
  tickUs : Nat := 64
  floorMhz : Nat := 800
  syncMode : Nat := 0
  acceptDegraded : Bool := false
  refillTicks : Nat := 1
  present : List Nat := []
  parts : List PartRec := []
  hosts : List HostRec := []
  regions : List RegionRec := []
  tenants : List TenantRec := []
  clusters : List ClusterRec := []
  queues : List QueueRec := []
  leaves : List LeafRec := []
  slots : List SlotRec := []
  mcasts : List McastRec := []
  fabrics : List FabricRec := []
  streams : List StreamRec := []
  share : Nat := 4
  requireSigned : Bool := false
  volKeys : List (List Byte) := []
  quotas : List QuotaRec := []
  sections : List SectionRec := []
  precs : List PrecRec := []
  credits : List CreditRec := []
  services : List ServiceRec := []
deriving DecidableEq, Repr

/-- A pending announcement (R311, R314). -/
structure Announce where
  tgt : Nat
  action : Nat
  part : Nat
  arg : Nat
  module : Nat
  remote : Bool
  aseq : Nat
deriving DecidableEq, Repr

/-- Catalogue state beside the CT registers: the full catalogue in force with applied partials merged, the partial staged,
its image bytes, its requester, the two announcement lists, the bytes of new code that have reached each cluster
(R311, R314, R315, R317), the catalogue that a swap applied in the guard band has replaced, and its partition, until the boundary (R318). -/
structure CatFile where
  cur : Option Cat
  staged : Option Cat
  incoming : List Byte
  stager : Option StageReq
  local_ : List Announce
  domain : List Announce
  imgSent : Tab Nat
  stopped : List Nat
  requests : Tab W64
  announcedIn : Nat
  swapping : Option (Cat × Nat)
  applied : List (BitVec 384)
deriving DecidableEq, Repr

/-- A descriptor in a port's rank 1 store (R334); an OPEN's request-table entry and open index, reserved at its fetch (R330). -/
structure Desc where
  ring : Nat
  kind : Nat
  irq : Bool
  endInput : Bool
  tenant : Nat
  req : Nat
  part : Nat
  deadline : Nat
  body : List Byte
  user : W64
  tick : Nat
  order : Nat
  entry : Nat
  openIx : Nat
deriving DecidableEq, Repr

/-- How a REQ_ID stands on its ring pair (R333). -/
inductive ReqUse where
  | stream (r : Nat)
  | staging (part : Nat)
  | ended (cplIndex : Nat)
deriving DecidableEq, Repr

/-- A ring pair beside its HP registers: the host's tail, the phase it writes, fetch in progress of an APPEND chunk, REQ_IDs in use. -/
structure RingSt where
  tail : Nat := 0
  phase : Bool := true
  chunk : Option Desc := none
  wrote : Bool := false
  ids : List (Nat × ReqUse) := []
deriving DecidableEq, Repr

/-- An input chunk of a request (R344): buffer, length, END_INPUT, the USER of its APPEND and its place in fetch order, whether it has been
written. -/
structure Chunk where
  buf : Nat
  len : Nat
  last : Bool
  user : W64
  irq : Bool
  order : Nat
  ready : Bool
deriving DecidableEq, Repr

/-- Units a GENERATE asked for that are not yet produced (R336, R359), its USER and its place in fetch order. -/
structure Gen where
  units : Nat
  user : W64
  irq : Bool
  order : Nat
deriving DecidableEq, Repr

/-- A step in flight (R343, R353, R354): its cohort and batch slot, the boundary at which it ends, hold, COST, units charged, the buffer
of the chunk it consumed, USER and IRQ of its APPEND or GENERATE, completion entries reserved and not written, units it may still take off the GENERATEs
that it began with (R359). -/
structure Step where
  cohort : Nat
  batch : Nat
  ends : Nat
  hold : Nat
  cost : Nat
  used : Nat
  chunk : Option Nat
  user : W64
  irq : Bool
  resv : Nat
  owed : Nat
deriving DecidableEq, Repr

/-- A stream request (R330, R339, R347 to R358): where it came from, service and open index, what its OPEN names, its loans and decode slot
(256 × engine + slot), work waiting, the step in flight, the buffer of a step that ends at the coming boundary (R344); `ended` is the tick whose next boundary frees what it holds, `status` what it ended with, `muted` once the
port delivers nothing more of it, `why` the REASON of its volume once that has left the directory (R351). -/
structure Request where
  port : Nat
  ring : Nat
  req : Nat
  tenant : Nat
  part : Nat
  svc : Nat
  openIx : Nat
  volId : Nat
  adapter : Nat
  vol : Option Nat
  aslot : Option Nat
  agen : Nat
  dslot : Option Nat
  user : W64
  irq : Bool
  deadline : Option Nat
  gens : List Gen
  closing : Bool
  chunks : List Chunk
  nextBuf : Nat
  oldBuf : Option Nat
  admitted : Bool
  step : Option Step
  delivered : Nat
  suspect : Bool
  ctxLimit : Bool
  ended : Option Nat
  status : Nat
  muted : Bool
  why : Nat := 6
deriving DecidableEq, Repr

/-- A completion entry as the port writes it to host memory (R337). -/
structure CplEntry where
  port : Nat
  ring : Nat
  index : Nat
  kind : Nat
  status : Nat
  flags : Nat
  phase : Bool
  req : Nat
  tick : Nat
  units : Nat
  reason : Nat
  payload : List Byte
  user : W64
deriving DecidableEq, Repr

/-- A host port beside its HP registers: rank 1 store, chunk bytes held, last ring pair served (R330), link and PERSTp_N (R527). -/
structure PortSt where
  store : List Desc := []
  bytes : Nat := 0
  last : Nat := 255
  perst : Bool := true
  link : Bool := false
  ready : Bool := false
deriving DecidableEq, Repr

/-- Host serving: ports, ring pairs by 256 × port + ring pair, requests by 4,096 × port + entry of its request table, RR of R354 by service,
completion entries and interrupt vectors sent as (port, 512 × function + vector) (newest first; the model's record of what left the
port), the fetch counter that orders descriptors. -/
structure ServeFile where
  port : Tab PortSt
  ring : Tab RingSt
  req : Tab Request
  rr : Tab Nat
  out : List CplEntry
  msix : List (Nat × Nat)
  fetches : Nat
deriving DecidableEq, Repr

/-- A message or packet a fabric port has sent (newest first; the model's record of what left the port), R377, R378. -/
inductive FbOut where
  | nak (expect : Nat)
  | credit (cls vc n : Nat)
  | poolAdv (pool cap : Nat) (withdraw : Bool)
  | poolRet (pool cells : Nat)
  | ident (m : Ident)
  | time (m : TimeMsg)
  | announce (module aseq action arg tgt : Nat)
  | exit (module cause tgt : Nat)
  | ctick (module tick edges : Nat)
  | resend (seq : Nat)
  | packet (k : Packet) (seq : Nat)
deriving DecidableEq, Repr

/-- A packet of which a port has received its first flits (R378, R394): its VC and LEN, header and data so far. -/
structure PartialPkt where
  vc : Nat
  len : Nat
  pkt : Packet
deriving DecidableEq, Repr

/-- A packet waiting at a port with its VC (R376): the FABRIC entry it goes out in and the GATE_OUT slot entry it came from, or none in
transit (R379, R384, R386); `any` once the slot of its entry has ended; the port and VC it arrived by, whose ingress it holds (R374). -/
structure Egress where
  pkt : Packet
  vc : Nat
  entry : Option (Nat × Nat)
  any : Bool
  from_ : Option (Nat × Nat)
deriving DecidableEq, Repr

/-- A fabric port beside its FB registers: link sequence state, the replay buffer and the replay under way as (first SEQ, 0.1 ns of `now` at
its start) (R369, R370, R423), control messages that wait for room in it, credits by 2 × class + VC and credits owed (R374), far pools as
credit + 1 by number (R375), egress, the slot that is open with the 0.1 ns until which its flits are placed (R372, R384), packets in transit,
packets held for a GATE_IN (R382), packets a bridge holds (R422), a packet being received (R394), time
messages sent as (N, LT) and the last received, raw link delays and offsets (R397 to R400); `rejoin` and `retraining` how it comes UP
again (R371, R393, R394), `inertAt` the boundary from which its entries are INERT (R411); the next codeword it may fill and CW_COUNT of the last one that
its lanes were aligned by (R365), data flits since its last control flit (R367). `sent` holds what left with the header of its first codeword. -/
structure FabPort where
  expect : Nat := 0
  nakSent : Bool := false
  next : Nat := 0
  replay : List Nat := []
  resent : Tab Nat := []
  replayAt : Option (Nat × Nat) := none
  ctl : List FbOut := []
  credits : Tab Nat := []
  owed : Tab Nat := []
  pools : Tab Nat := []
  egress : List Egress := []
  open_ : Option Nat := none
  busy : Nat := 0
  lastTransit : Bool := false
  transit : List Egress := []
  held : List Packet := []
  rx : List Packet := []
  partialRx : Option PartialPkt := none
  rejoin : Bool := false
  retraining : Bool := false
  inertAt : Option Nat := none
  tx : List (Nat × Int) := []
  lastRx : Option TimeMsg := none
  rawD : List Int := []
  rawT : List Int := []
  sent : List (BitVec 20 × FbOut) := []
  cw : Nat := 0
  cwSeen : Option Nat := none
  ctlRun : Nat := 0
deriving DecidableEq, Repr

/-- Synchronisation and the domain (R397 to R422): the module's own ASEQ, announcements seen as (module, ASEQ), the LT of the last
boundary, CUM in 1/16 ns, consecutive boundaries within and outside the lock figure, no parent since (R403), the exit to come as (boundary,
cause) and whether it has been made (R410), modules whose EXIT was received, the reference module's CTICK as (module, tick, edges),
ports that agreed in the tick (R414, R416), a bridge's 64-bit native tick number (R419), whether the opening boundary
of the tick found LOCKED 1 and EXITED 0 (R405), the monitors of SYNC_REF (edges in the window,
consecutive windows in range, the ns of `now` of its last record, missing) and of the fabric reference (R544, R545). -/
structure FabFile where
  port : Tab FabPort
  aseq : Nat
  seen : List (Nat × Nat)
  bound : Int
  cum : Int
  lockRun : Nat
  missRun : Nat
  noParent : Bool
  exitAt : Option (Nat × Nat)
  out : Bool
  exited : List Nat
  ctickSeen : Option (Nat × Nat × Nat)
  agreed : List Nat
  nativeTick : Nat
  lockedTick : Bool
  refEdges : Nat
  refRun : Nat
  refPosted : Option Nat
  refMissing : Bool
  fabRefLost : Bool
  fabRefBack : Bool
deriving DecidableEq, Repr

/-- A record open for escalation (R446): severity, domain, unit and partition of R444, the tick and the cycle of the record
queue's 1.0 GHz clock (R447) in which it was posted, whether it was raised. -/
structure OpenRec where
  sev : Nat
  domain : Nat
  unit : Nat
  part : Option Nat
  tick : Nat
  cycle : Nat
  raised : Bool
deriving DecidableEq, Repr

/-- Integrity beside the IN registers: open records, partitions that took PARTITION_FATAL in the tick, partitions whose RESUME waits,
MODULE_FATAL, seal keys of the current tick and the three before it (R438), whether IN_ERR_LAST holds an unmirrored record,
clusters of which every core latches. -/
structure InteFile where
  open_ : List OpenRec
  partFatal : List Nat
  resume : List Nat
  moduleFatal : Bool
  fatalNow : Bool
  keys : List Nat
  nextKey : Nat
  lastHeld : Bool
  notify : List Nat
deriving DecidableEq, Repr

/-- Calibration beside the CA registers: periods used by gap kind (R465), records changed since the last snapshot and the
snapshot store in NAND (R459), crossbars scheduled for recalibration with their cause (R472), θ of the latest trims by physical cluster, absent where they are to be
recomputed (R463); calibration steps
under way as (physical crossbar, ns of `now` at which it ends), the crossbar served last by physical cluster (R467), the set within 5 °C of which a physical
cluster has been since a boundary (R472). -/
structure CalFile where
  skipUse : Nat
  phaseUse : Nat
  idleUse : Nat
  changed : List Nat
  snapshot : List Host.Cell
  due : List (Nat × Nat)
  theta : Tab Int
  steps : List (Nat × Nat)
  served : Tab Nat
  near : Tab Nat
  eyeRecord : Tab Nat
deriving DecidableEq, Repr

/-- Power, thermal and survey beside their registers (R481 to R516). `running` is the conversion under way as (channel, urgent, WAIT) and
`urgent` the requests that wait, 0 and 1 the stage watchers, 2 firmware, 3 a START that waits (R483, R484, R487); `latch` the trip
latches with their cause, `latchDue` those with no shutdown entry yet (R533), `latchTime` when the input was lost with one set, `cmdOff` stages commanded off (R489, R515); `crit` the ns of `now`
at which CRIT was asserted, `gated` clocks stopped (R514), `rails` the rails raised (R524), `pwrOk` PWR_OK (R492); `throttle` the THROTTLE in force as (TGT, ARG), `fastFrom` the first tick of the
fast throttle's pattern, `fastPend` FAST set in this tick, `fastClear` FAST to end at the boundary (R509, R512, R513); the hottest temperature
and sensor of the last sample (R505), samples it has been below THROTTLE − 3 °C (R513), and those since THERM_CAP last rose (R506); ms at FLOOR above LIMIT and below 95 %
of it (R500); seconds of the last THROTTLE and AT_FLOOR records (R506); samples at AT_FLOOR, the idle ticks
announced for heat as (ARG, TGT), samples since they took effect, samples below 92 °C, the budget's ARG (R500, R508, R511); stacks limited
since (ns of `now` + 1) and recorded (R204, R508); frequencies decided for the boundary (R496); consecutive results outside a rail's
window by channel, ns of `now` at which a VPRG rail came back (R494); wake-up writes of CL_PSTATE (R137), RETAIN bits of the banks a cluster in P2
has kept since it entered (R501, R503); input of each stage in mV, the standby supply
(R489, R566). -/
structure PowFile where
  running : Option (Nat × Bool × Nat)
  urgent : List Nat
  latch : List (Nat × TripCause)
  latchDue : List (Nat × TripCause)
  latchTime : Nat
  cmdOff : Bool
  crit : Option Nat
  gated : Bool
  rails : Bool
  pwrOk : Bool
  throttle : Option (Nat × Nat)
  fastFrom : Option Nat
  fastPend : Bool
  fastClear : Bool
  dieTemp : Int
  dieSensor : Nat
  below : Nat
  belowRise : Nat
  limitOver : Nat
  limitUnder : Nat
  thermPosted : Option Nat
  floorPosted : Option Nat
  floorRun : Nat
  heat : Option (Nat × Nat)
  heatRun : Nat
  coolRun : Nat
  budgetArg : Nat
  hot : Tab Nat
  hotDone : List Nat
  freqNext : Tab Nat
  railOut : Tab Nat
  vprgBack : Tab Nat
  wake : Tab Nat
  kept : Tab Nat
  vinMv : List Nat
  standby : Bool
deriving DecidableEq, Repr

/-- An accession-log entry (R531). -/
structure LogEntry where
  record : List W64
  lseq : Nat
  boot : Nat
  uptime : Nat
  wall : Nat
  crc : BitVec 32
deriving DecidableEq, Repr

/-- States of a PLDM Type 5 update (R536): nothing under way, after RequestUpdate, after PassComponentTable, while data comes, after
TransferComplete, after VerifyComplete, after ApplyComplete. -/
inductive Pldm where
  | idle | requested | tabled | receiving | received | verified | applied
deriving DecidableEq, Repr

/-- What eMRAM keeps (R530): survives every reset kind. `shutdownSeq` is the SEQ of the most recent error record at the last shutdown (R514). -/
structure Emram where
  boots : Nat
  minSvnFw : Nat
  minSvnKey : Nat
  fwActive : Nat
  catActive : Nat
  keySet : List (List Byte)
  keyStaged : Option (List Byte)
  keyNext : Option (List (List Byte))
  plan : Option Plan
  repair : List Nat
  coreRepair : List Nat
  sensorExcl : List Nat
  shutdown : Tab LogEntry
  lastShutdown : Option Nat
  shutdownSeq : Option Nat
  running : Bool
  log : Tab LogEntry
  lseq : Nat
  trips : List Nat
deriving DecidableEq, Repr

/-- The custodian beside BT and DB registers: eMRAM, the NAND copies, MCTP, PLDM and SPDM state, alerts, debug, the inputs it filters
(R520 to R547, R558). `resp` is the last response sent (its first element the status), `events` the PlatformEventMessages sent (newest first;
the model's record); `token` a debug token in force as (RIGHTS, the ns of `now` at which it ends, its digest); `comp` and `compSize` the component
being updated, `update` its bytes, `ready` the components applied; `fwRun` digest and SVN of the firmware running, `planRun` the plan in
force, `catRun` the digest of the full catalogue loaded; `wall` seconds of SET_TIME and the ns of `now` at which it came; `resetDue` a reset that has begun and has not
been performed (true: full), `bootFrom` the step at which a module held in reset boots (0: not held); `instrReg` the instruction in the boundary-scan
chain, `pinsDriven` pins driven from it, `dbData` what DBACC read; `checked` the catalogue of boot step 9. -/
structure CustFile where
  em : Emram
  fwA : List Byte
  fwB : List Byte
  catA : List Byte
  catB : List Byte
  eid : Nat
  session : Bool
  resp : List Nat
  events : List Nat
  alerts : List Nat
  alertSev : Nat
  alertN : Bool
  nonce : Option W64
  token : Option (Nat × Nat × BitVec 384)
  pldm : Pldm
  comp : Option Component
  compSize : Nat
  comps : List Component
  update : List Byte
  ready : List Component
  fwRun : Option (BitVec 384 × Nat)
  planRun : Option Plan
  catRun : BitVec 384
  wall : Option (Nat × Nat)
  bootAt : Nat
  modRstTimes : List Nat
  modRstHeldDone : Bool
  throtRaw : Bool
  throtTimes : List Nat
  throtStuckDone : Bool
  resetDue : Option Bool
  bootFrom : Nat
  instrReg : Nat
  chainJ5 : Bool
  tapReset : Bool
  pinsDriven : Bool
  dbData : W64
  checked : Option Cat
deriving DecidableEq, Repr

/-- The machine. `t` is CS_TTIME (ns since the boundary), `now` the ns since reset, `guarded` is set once the guard band of the
tick has been performed (R283), `idle` in an idle tick (R509), `free` counts the free values drawn
(the model's own field, log entry 5), `regs` and `rwt` the registers of control space in force and the RWT values that wait
for the boundary (R12, R284), `pending` the commands that wait, first in, first out. -/
structure State where
  tick : Nat
  t : Nat
  now : Nat
  guarded : Bool
  idle : Bool
  free : Nat
  regs : Tab W64
  rwt : Tab W64
  mem : Mem
  core : CoreFile
  xb : XbFile
  cl : ClusterFile
  se : StreamFile
  sh : ShelverFile
  cat : CatFile
  sv : ServeFile
  fb : FabFile
  ig : InteFile
  ca : CalFile
  pw : PowFile
  cu : CustFile
  pending : List Instr
deriving DecidableEq, Repr

/-- Why a step stops with a fault. No command of this model faults: the spec gives the block no state it cannot leave
other than by an effect on `State`. The one constructor is kept so that the type is inhabited; nothing raises it (safe). -/
inductive Fault where
  /-- Raised by nothing. -/
  | impossible
deriving DecidableEq, Repr

/-- Why a command is refused. -/
inductive Refusal where
  /-- Raised by an arm of Dispatch whose command has no meaning yet, by name (safe: nothing is claimed of it). -/
  | notModelled (mnemonic : String)
deriving DecidableEq, Repr

/-- eMRAM as it leaves the factory (log entry 11). -/
def Emram.factory : Emram :=
  { boots := 0, minSvnFw := 0, minSvnKey := 0, fwActive := 1, catActive := 1, keySet := [], keyStaged := none, keyNext := none,
    plan := none, repair := [], coreRepair := [], sensorExcl := [], shutdown := [], lastShutdown := none, shutdownSeq := none, running := false,
    log := [], lseq := 0, trips := [0, 0] }

/-- The module right after reset: every register at the reset value of its heading, memory with nothing listed,
nothing running, no command waiting. -/
def State.reset : State :=
  { tick := 0, t := 0, now := 0, guarded := false, idle := false, free := 0, regs := [], rwt := [],
    mem := { bytes := [], poison := [], check := [], upset := [] },
    core := { st := [], gpr := [], gprPoison := [], vr := [], vrPoison := [], scratch := [], scratchPoison := [],
              scratchUpset := [], imem := [], ibuf := [], imemUpset := [] },
    xb := { cells := [], corr := [], shadow := [], refTrim := [], refShadow := [], phys := [], map := [], twin := [], run := [], effects := [] },
    cl := { queue := [], pool := [], xe := [], xfers := [], opened := [], charged := [], credit := [], arbData := [], overruns := [], ecc := [] },
    se := { cmds := [], results := [], slot := [], free := [], tpn := [], corr := [], opening := [], temp := [], limited := [], failed := [], rebuild := [] },
    sh := { vol := [], sec := [], aslot := [], demands := [], tileCheck := [], restore := [], twinWanted := [], replace := [], placing := [],
            subst := [], usedCores := [], agen := [], asked := [], commits := [] },
    cat := { cur := none, staged := none, incoming := [], stager := none, local_ := [], domain := [], imgSent := [], stopped := [], requests := [], announcedIn := 0, swapping := none, applied := [] },
    sv := { port := [], ring := [], req := [], rr := [], out := [], msix := [], fetches := 0 },
    fb := { port := [], aseq := 0, seen := [], bound := 0, cum := 0, lockRun := 0, missRun := 0, noParent := false, exitAt := none,
            out := false, exited := [], ctickSeen := none, agreed := [], nativeTick := 0, lockedTick := false, refEdges := 0, refRun := 0, refPosted := none, refMissing := false,
            fabRefLost := false, fabRefBack := false },
    ig := { open_ := [], partFatal := [], resume := [], moduleFatal := false, fatalNow := false, keys := [], nextKey := 0,
            lastHeld := false, notify := [] },
    ca := { skipUse := 0, phaseUse := 0, idleUse := 0, changed := [], snapshot := [], due := [], theta := [], steps := [], served := [], near := [], eyeRecord := [] },
    pw := { running := none, urgent := [], latch := [], latchDue := [], latchTime := 0, cmdOff := false, crit := none, gated := false, rails := false, pwrOk := false,
            throttle := none, fastFrom := none, fastPend := false, fastClear := false, dieTemp := 0, dieSensor := 0, below := 0, belowRise := 0,
            limitOver := 0, limitUnder := 0, thermPosted := none, floorPosted := none, floorRun := 0, heat := none, heatRun := 0,
            coolRun := 0, budgetArg := 0, hot := [], hotDone := [], freqNext := [], railOut := [], vprgBack := [], wake := [], kept := [],
            vinMv := [72000, 72000], standby := true },
    cu := { em := Emram.factory, fwA := [], fwB := [], catA := [], catB := [], eid := 0, session := false, resp := [], events := [], alerts := [],
            alertSev := 4, alertN := false, nonce := none, token := none, pldm := .idle, comp := none, compSize := 0, comps := [],
            update := [], ready := [], fwRun := none, planRun := none, catRun := 0, wall := none, bootAt := 0, modRstTimes := [], modRstHeldDone := false,
            throtRaw := false, throtTimes := [], throtStuckDone := false, resetDue := none, bootFrom := 0, instrReg := 0,
            chainJ5 := false, tapReset := true, pinsDriven := false, dbData := 0, checked := none },
    pending := [] }

end Sys2Proof.Machine
end

