-- ==== Sys2Proof/Machine/Regs.lean ====
section
/-! DEFINITION. The registers of control space (R11, R46, R47): each register's offset from 0xC0_0000_0000, its reset value
and the access type of its bits (R12) as its heading and field table give them, and every field by name. -/
namespace Sys2Proof.Machine
open Sys2Proof

/-- A register or an array of registers of a block: first offset within the block's window, stride and count, reset value,
and the bits of each access type (R12); every other bit is RO or reserved. -/
structure RegDesc where
  first : Nat
  stride : Nat
  count : Nat
  reset : Nat
  rw : Nat
  w1c : Nat
  rwt : Nat
  rwl : Nat
  wo : Nat
deriving DecidableEq, Repr

/-- Bits [lo + w − 1 : lo] of the register at a control-space offset. -/
structure Fld where
  off : Nat
  lo : Nat
  w : Nat
deriving DecidableEq, Repr

/-- Window of logical cluster l (R46). -/
def clBase (l : Nat) : Nat := 0x1000000 + 0x10000 * l
/-- Block of stream engine i (R46). -/
def seBase (i : Nat) : Nat := 0x500000 + 0x10000 * i
/-- Block of host port p (R46). -/
def hpBase (p : Nat) : Nat := 0x300000 + 0x10000 * p
/-- Block of fabric port p (R46). -/
def fbBase (p : Nat) : Nat := 0x400000 + 0x10000 * p
/-- Window of tenant t (R46). -/
def tnBase (t : Nat) : Nat := 0x800000 + 0x100 * t

/-- Registers of the CL, QM, XE and crossbar-status regions of a cluster window. -/
def clRegs : List RegDesc :=
  [⟨0xc000, 0x20, 512, 0, 0, 0, 0, 0, 0⟩,
   ⟨0xc008, 0x20, 512, 0, 0, 0, 0, 0, 0⟩,
   ⟨0xc010, 0x20, 512, 0, 0, 0, 0, 0, 0⟩,
   ⟨0xc018, 0x20, 512, 0, 0, 0, 0, 0, 0⟩,
   ⟨0, 1, 1, 0, 0, 0, 0, 0, 0⟩,
   ⟨0x8, 1, 1, 0, 0xffff0003, 0, 0, 0, 0⟩,
   ⟨0x100, 0x8, 32, 0x3f00, 0, 0, 0, 0, 0⟩,
   ⟨0x18, 1, 1, 0, 0, 0x8000000000000000, 0, 0, 0⟩,
   ⟨0x20, 1, 1, 0xffffffff00000000, 0, 0, 0, 0, 0⟩,
   ⟨0x28, 1, 1, 0, 0, 0, 0, 0, 0⟩,
   ⟨0x400, 0x8, 256, 0, 0, 0, 0, 0, 0⟩,
   ⟨0x4000, 1, 1, 0xffff0000, 0, 0, 0, 0, 0⟩,
   ⟨0x4008, 1, 1, 0, 0, 0, 0, 0, 0⟩,
   ⟨0x4010, 1, 1, 0, 0, 0, 0, 0, 0⟩,
   ⟨0x5000, 0x8, 512, 0, 0, 0, 0, 0, 0⟩,
   ⟨0x6000, 0x8, 512, 0, 0, 0, 0x7f, 0, 0⟩,
   ⟨0x7000, 0x8, 512, 0, 0, 0, 0, 0, 0⟩,
   ⟨0x8000, 1, 1, 0x3, 0, 0, 0x3, 0, 0⟩,
   ⟨0x8008, 1, 1, 0, 0, 0xc000000000000000, 0, 0, 0⟩,
   ⟨0x8010, 1, 1, 0, 0, 0, 0, 0, 0⟩,
   ⟨0x8018, 1, 1, 0, 0, 0, 0, 0, 0⟩,
   ⟨0x8020, 1, 1, 0, 0, 0, 0, 0, 0⟩]

/-- Registers of the SE block. -/
def seRegs : List RegDesc :=
  [⟨0, 1, 1, 0, 0, 0, 0, 0, 0⟩,
   ⟨0x8, 1, 1, 0, 0, 0, 0, 0, 0⟩,
   ⟨0x10, 1, 1, 0, 0, 0x8000000000000000, 0, 0, 0⟩,
   ⟨0x18, 1, 1, 0, 0, 0, 0, 0, 0⟩,
   ⟨0x200, 0x8, 16, 0xfffff0000000000, 0, 0, 0, 0, 0⟩,
   ⟨0x300, 0x8, 16, 0, 0, 0x8000000000000000, 0, 0, 0⟩,
   ⟨0x1000, 0x8, 256, 0, 0, 0, 0, 0, 0⟩]

/-- Registers of the SH block. -/
def shRegs : List RegDesc :=
  [⟨0, 1, 1, 0x3ff004, 0, 0, 0x3ff100, 0, 0⟩,
   ⟨0x8, 1, 1, 0xfffc000000000000, 0, 0, 0, 0, 0⟩,
   ⟨0x10, 1, 1, 0, 0, 0, 0, 0, 0⟩,
   ⟨0x100, 1, 1, 0, 0x3fff, 0, 0, 0, 0⟩,
   ⟨0x108, 1, 1, 0, 0x7fff, 0, 0, 0, 0⟩,
   ⟨0x110, 1, 1, 0, 0xffff, 0, 0, 0, 0⟩]

/-- Registers of the CT block. -/
def ctRegs : List RegDesc :=
  [⟨0, 1, 1, 0x40, 0, 0, 0, 0, 0⟩,
   ⟨0x8, 1, 1, 0, 0, 0, 0, 0, 0⟩,
   ⟨0x10, 1, 1, 0, 0, 0, 0, 0, 0⟩,
   ⟨0x18, 1, 1, 0, 0, 0, 0, 0, 0⟩,
   ⟨0x20, 1, 1, 0, 0, 0, 0, 0, 0⟩,
   ⟨0x28, 1, 1, 0, 0, 0, 0, 0, 0⟩,
   ⟨0x30, 1, 1, 0, 0, 0, 0, 0, 0⟩,
   ⟨0x38, 1, 1, 0, 0xffffffffffffff, 0, 0, 0, 0⟩,
   ⟨0x100, 0x10, 16, 0, 0, 0, 0, 0, 0⟩,
   ⟨0x108, 0x10, 16, 0, 0, 0, 0, 0, 0⟩,
   ⟨0x200, 0x10, 64, 0, 0, 0, 0, 0, 0⟩,
   ⟨0x208, 0x10, 64, 0, 0, 0, 0, 0, 0⟩]

/-- Registers of the BT block. -/
def btRegs : List RegDesc :=
  [⟨0, 1, 1, 0, 0, 0, 0, 0x1, 0⟩,
   ⟨0x100, 0x8, 16, 0, 0, 0, 0, 0x800300000000ff7f, 0⟩,
   ⟨0x200, 0x8, 4, 0, 0, 0, 0, 0xc0000000000000ff, 0⟩,
   ⟨0x300, 0x8, 4, 0, 0, 0, 0, 0x7ff03ff, 0⟩,
   ⟨0x400, 1, 1, 0, 0, 0, 0, 0, 0⟩,
   ⟨0x408, 1, 1, 0, 0, 0, 0, 0, 0⟩]

/-- Registers of the HP block. -/
def hpRegs : List RegDesc :=
  [⟨0, 1, 1, 0, 0, 0, 0, 0, 0⟩,
   ⟨0x8, 1, 1, 0, 0, 0x8000000000000000, 0, 0, 0⟩,
   ⟨0x1000, 0x40, 256, 0, 0xfffffffffffff000, 0, 0, 0, 0⟩,
   ⟨0x1008, 0x40, 256, 0, 0xfffffffffffff000, 0, 0, 0, 0⟩,
   ⟨0x1010, 0x40, 256, 0, 0xc3ffff0000000f0f, 0, 0, 0, 0⟩,
   ⟨0x1018, 0x40, 256, 0, 0, 0, 0, 0, 0xffff⟩,
   ⟨0x1020, 0x40, 256, 0, 0xffff, 0, 0, 0, 0⟩,
   ⟨0x1028, 0x40, 256, 0, 0, 0, 0, 0, 0⟩,
   ⟨0x1030, 0x40, 256, 0, 0, 0, 0, 0, 0xffffffff⟩]

/-- Registers of the TN block. -/
def tnRegs : List RegDesc :=
  [⟨0, 1, 1, 0, 0, 0, 0xffffffff, 0, 0⟩,
   ⟨0x8, 1, 1, 0x7fffffff00000000, 0, 0, 0x7fffffff7fffffff, 0, 0⟩,
   ⟨0x10, 1, 1, 0x1, 0, 0, 0xffff, 0, 0⟩,
   ⟨0x18, 1, 1, 0, 0, 0, 0, 0, 0⟩]

/-- Registers of the FB common block. -/
def fbcRegs : List RegDesc :=
  [⟨0, 1, 1, 0, 0, 0, 0, 0xffffcfff00000fff, 0⟩,
   ⟨0x8, 1, 1, 0x3ff000000000, 0, 0, 0, 0, 0⟩,
   ⟨0x10, 1, 1, 0, 0, 0, 0, 0, 0⟩,
   ⟨0x18, 1, 1, 0, 0, 0, 0, 0xffff800000000fff, 0⟩]

/-- Registers of the FB block. -/
def fbRegs : List RegDesc :=
  [⟨0, 1, 1, 0, 0, 0x8000000000000000, 0x4000000000000000, 0, 0⟩,
   ⟨0x8, 1, 1, 0, 0, 0, 0, 0xfffff7fff0000000, 0⟩,
   ⟨0x10, 1, 1, 0, 0, 0, 0, 0, 0⟩,
   ⟨0x18, 1, 1, 0, 0, 0, 0, 0, 0⟩,
   ⟨0x20, 1, 1, 0, 0, 0, 0, 0, 0⟩,
   ⟨0x1000, 0x8, 256, 0, 0, 0, 0, 0, 0⟩]

/-- Registers of the IN block. -/
def igRegs : List RegDesc :=
  [⟨0, 1, 1, 0, 0xffffffff, 0, 0, 0, 0⟩,
   ⟨0x8, 1, 1, 0, 0, 0, 0, 0, 0⟩,
   ⟨0x10, 1, 1, 0, 0x7, 0, 0, 0, 0⟩,
   ⟨0x100, 0x8, 16, 0x1, 0, 0, 0x3, 0, 0⟩,
   ⟨0x180, 0x8, 16, 0, 0, 0, 0, 0, 0x4000000000000000⟩,
   ⟨0x1000, 0x8, 512, 0, 0, 0, 0, 0, 0⟩,
   ⟨0x2000, 0x8, 4, 0, 0, 0, 0, 0, 0⟩,
   ⟨0x3000, 0x8, 4, 0, 0, 0, 0, 0, 0xffffffffffffffff⟩,
   ⟨0x3020, 1, 1, 0, 0, 0, 0, 0, 0⟩]

/-- Registers of the CA block. -/
def caRegs : List RegDesc :=
  [⟨0, 1, 1, 0, 0, 0, 0, 0, 0⟩,
   ⟨0x8, 1, 1, 0, 0, 0, 0, 0, 0⟩,
   ⟨0x10, 1, 1, 0, 0, 0, 0, 0, 0⟩,
   ⟨0x100, 0x8, 64, 0, 0, 0, 0, 0, 0⟩]

/-- Registers of the SV block. -/
def svRegs : List RegDesc :=
  [⟨0, 1, 1, 0, 0x7f, 0, 0, 0, 0⟩,
   ⟨0x8, 1, 1, 0, 0x3, 0, 0, 0, 0x4⟩,
   ⟨0x10, 1, 1, 0, 0, 0, 0, 0, 0⟩,
   ⟨0x18, 1, 1, 0, 0x3f80000000000000, 0, 0, 0, 0x4000000000000000⟩,
   ⟨0x100, 0x8, 96, 0xfff00000000, 0x80000fff00000fff, 0x6000000000000000, 0, 0, 0⟩]

/-- Registers of the TH block. -/
def thRegs : List RegDesc :=
  [⟨0, 1, 1, 0x1b80198017c, 0, 0, 0, 0x3ff03ff03ff, 0⟩,
   ⟨0x8, 0x8, 5, 0, 0, 0, 0, 0, 0⟩,
   ⟨0x100, 0x8, 304, 0, 0, 0, 0, 0, 0⟩]

/-- Registers of the PW block. -/
def pwRegs : List RegDesc :=
  [⟨0, 0x8, 8, 0x32000000320, 0x7ff, 0, 0, 0, 0⟩,
   ⟨0x40, 0x8, 8, 0x8258028a0000028a, 0x3ff, 0x4000000000000000, 0, 0, 0⟩,
   ⟨0x80, 1, 1, 0x708000672, 0x7ff000000, 0, 0x7ff, 0, 0⟩,
   ⟨0x88, 1, 1, 0x38432000000000, 0, 0, 0, 0, 0⟩,
   ⟨0x90, 0x8, 2, 0, 0, 0, 0, 0, 0⟩]

/-- Registers of the DB block. -/
def dbRegs : List RegDesc :=
  [⟨0, 1, 1, 0, 0x8000ffff00ffffff, 0, 0, 0, 0⟩,
   ⟨0x8, 1, 1, 0, 0, 0, 0, 0, 0⟩]

/-- The register of a block at an offset of its window. -/
def findReg : List RegDesc → Nat → Option RegDesc
  | [], _ => none
  | d :: r, o =>
    if d.first ≤ o ∧ (o - d.first) % d.stride = 0 ∧ (o - d.first) / d.stride < d.count then some d else findReg r o

/-- The register at a control-space offset, by the blocks of R46 and the regions of R47; none at an unimplemented offset. -/
def regAt (o : Nat) : Option RegDesc :=
  if o < 0x100000 then findReg btRegs o
  else if o < 0x200000 then findReg ctRegs (o - 0x100000)
  else if o < 0x300000 then findReg shRegs (o - 0x200000)
  else if o < 0x340000 then findReg hpRegs ((o - 0x300000) % 0x10000)
  else if o < 0x400000 then none
  else if o < 0x480000 then findReg fbRegs ((o - 0x400000) % 0x10000)
  else if o < 0x500000 then findReg fbcRegs (o - 0x480000)
  else if o < 0x600000 then findReg seRegs ((o - 0x500000) % 0x10000)
  else if o < 0x700000 then findReg igRegs (o - 0x600000)
  else if o < 0x710000 then findReg caRegs (o - 0x700000)
  else if o < 0x720000 then findReg svRegs (o - 0x710000)
  else if o < 0x730000 then findReg thRegs (o - 0x720000)
  else if o < 0x800000 then findReg pwRegs (o - 0x730000)
  else if o < 0x840000 then findReg tnRegs ((o - 0x800000) % 0x100)
  else if o < 0x1000000 then none
  else if o < 0x1800000 then findReg clRegs ((o - 0x1000000) % 0x10000)
  else if o < 0x2000000 then none
  else if o < 0x2100000 then findReg dbRegs (o - 0x2000000)
  else none

/-- Reset value of the register at an offset; 0 where there is none (R14). Instances kept per accessor (SH queries,
CT_ANNOUNCE, IN_ERR_HEAD, IN_NOTIFY) lie from 0x1000_0000 upwards, one copy of control space each. -/
def resetValue (o : Nat) : W64 :=
  match regAt (o % 0x10000000) with
  | some d => BitVec.ofNat 64 d.reset
  | none => 0


/-- XB_STAT, chapter 02. -/
def xbStatReg (l k : Nat) : Nat := clBase l + 0xc000 + 0x20 * k
def xbStatQuality (l k : Nat) : Fld := ⟨xbStatReg l k, 16, 8⟩
def xbStatIdxOff (l k : Nat) : Fld := ⟨xbStatReg l k, 8, 8⟩
def xbStatRecalDue (l k : Nat) : Fld := ⟨xbStatReg l k, 6, 1⟩
def xbStatSuspect (l k : Nat) : Fld := ⟨xbStatReg l k, 5, 1⟩
def xbStatTwinned (l k : Nat) : Fld := ⟨xbStatReg l k, 4, 1⟩
def xbStatTier (l k : Nat) : Fld := ⟨xbStatReg l k, 2, 2⟩
def xbStatPrec (l k : Nat) : Fld := ⟨xbStatReg l k, 0, 2⟩

/-- XB_CHECK, chapter 02. -/
def xbCheckReg (l k : Nat) : Nat := clBase l + 0xc008 + 0x20 * k
def xbCheckUnderrange (l k : Nat) : Fld := ⟨xbCheckReg l k, 48, 8⟩
def xbCheckTransients (l k : Nat) : Fld := ⟨xbCheckReg l k, 32, 16⟩
def xbCheckCheckFails (l k : Nat) : Fld := ⟨xbCheckReg l k, 0, 32⟩

/-- XB_USAGE, chapter 02. -/
def xbUsageReg (l k : Nat) : Nat := clBase l + 0xc010 + 0x20 * k
def xbUsageLastN (l k : Nat) : Fld := ⟨xbUsageReg l k, 48, 5⟩
def xbUsageOverBudget (l k : Nat) : Fld := ⟨xbUsageReg l k, 32, 16⟩
def xbUsageProducts (l k : Nat) : Fld := ⟨xbUsageReg l k, 0, 32⟩

/-- XB_LAST_CHECK, chapter 02. -/
def xbLastCheckReg (l k : Nat) : Nat := clBase l + 0xc018 + 0x20 * k
def xbLastCheckTick (l k : Nat) : Fld := ⟨xbLastCheckReg l k, 44, 20⟩
def xbLastCheckTol (l k : Nat) : Fld := ⟨xbLastCheckReg l k, 28, 16⟩
def xbLastCheckDiff (l k : Nat) : Fld := ⟨xbLastCheckReg l k, 12, 16⟩
def xbLastCheckRange (l k : Nat) : Fld := ⟨xbLastCheckReg l k, 8, 4⟩
def xbLastCheckPhase (l k : Nat) : Fld := ⟨xbLastCheckReg l k, 5, 2⟩
def xbLastCheckSlice (l k : Nat) : Fld := ⟨xbLastCheckReg l k, 3, 2⟩
def xbLastCheckGroup (l k : Nat) : Fld := ⟨xbLastCheckReg l k, 0, 3⟩

/-- CL_STATUS, chapter 03. -/
def clStatusReg (l : Nat) : Nat := clBase l
def clStatusOwned (l : Nat) : Fld := ⟨clStatusReg l, 36, 1⟩
def clStatusPart (l : Nat) : Fld := ⟨clStatusReg l, 32, 4⟩
def clStatusPy (l : Nat) : Fld := ⟨clStatusReg l, 21, 3⟩
def clStatusPx (l : Nat) : Fld := ⟨clStatusReg l, 16, 5⟩
def clStatusSwapPend (l : Nat) : Fld := ⟨clStatusReg l, 9, 1⟩
def clStatusLeafValid (l : Nat) : Fld := ⟨clStatusReg l, 8, 1⟩
def clStatusOverrun (l : Nat) : Fld := ⟨clStatusReg l, 7, 1⟩
def clStatusSubstPend (l : Nat) : Fld := ⟨clStatusReg l, 6, 1⟩
def clStatusSpares (l : Nat) : Fld := ⟨clStatusReg l, 4, 2⟩
def clStatusPstateNow (l : Nat) : Fld := ⟨clStatusReg l, 2, 2⟩
def clStatusMap (l : Nat) : Fld := ⟨clStatusReg l, 0, 2⟩

/-- CL_PSTATE, chapter 03. -/
def clPstateReg (l : Nat) : Nat := clBase l + 0x8
def clPstateRetain (l : Nat) : Fld := ⟨clPstateReg l, 16, 16⟩
def clPstateMode (l : Nat) : Fld := ⟨clPstateReg l, 0, 2⟩

/-- CL_REMAP[k], chapter 03. -/
def clRemapReg (l k : Nat) : Nat := clBase l + 0x100 + 0x8 * k
def clRemapSubstTick (l k : Nat) : Fld := ⟨clRemapReg l k, 32, 20⟩
def clRemapSubstCount (l k : Nat) : Fld := ⟨clRemapReg l k, 24, 8⟩
def clRemapResLeft (l k : Nat) : Fld := ⟨clRemapReg l k, 18, 2⟩
def clRemapState (l k : Nat) : Fld := ⟨clRemapReg l k, 16, 2⟩
def clRemapPrevPcore (l k : Nat) : Fld := ⟨clRemapReg l k, 8, 6⟩
def clRemapPcore (l k : Nat) : Fld := ⟨clRemapReg l k, 0, 6⟩

/-- CL_OVERRUN, chapter 03. -/
def clOverrunReg (l : Nat) : Nat := clBase l + 0x18
def clOverrunNew (l : Nat) : Fld := ⟨clOverrunReg l, 63, 1⟩
def clOverrunLastJob (l : Nat) : Fld := ⟨clOverrunReg l, 43, 12⟩
def clOverrunLastKind (l : Nat) : Fld := ⟨clOverrunReg l, 41, 2⟩
def clOverrunLastCore (l : Nat) : Fld := ⟨clOverrunReg l, 36, 5⟩
def clOverrunLastTick (l : Nat) : Fld := ⟨clOverrunReg l, 16, 20⟩
def clOverrunCount (l : Nat) : Fld := ⟨clOverrunReg l, 0, 16⟩

/-- CL_SLACK, chapter 03. -/
def clSlackReg (l : Nat) : Nat := clBase l + 0x20
def clSlackLow (l : Nat) : Fld := ⟨clSlackReg l, 32, 32⟩
def clSlackLast (l : Nat) : Fld := ⟨clSlackReg l, 0, 32⟩

/-- CL_LEAF, chapter 03. -/
def clLeafReg (l : Nat) : Nat := clBase l + 0x28
def clLeafJobs (l : Nat) : Fld := ⟨clLeafReg l, 36, 8⟩
def clLeafGen (l : Nat) : Fld := ⟨clLeafReg l, 20, 16⟩
def clLeafResEnd (l : Nat) : Fld := ⟨clLeafReg l, 0, 20⟩

/-- CL_TOKEN[n], chapter 03. -/
def clTokenReg (l k : Nat) : Nat := clBase l + 0x400 + 0x8 * k
def clTokenPoison (l k : Nat) : Fld := ⟨clTokenReg l k, 16, 1⟩
def clTokenCount (l k : Nat) : Fld := ⟨clTokenReg l k, 0, 16⟩

/-- QM_POOL_FREE, chapter 04. -/
def qmPoolFreeReg (l : Nat) : Nat := clBase l + 0x4000
def qmPoolFreeStageFree (l : Nat) : Fld := ⟨qmPoolFreeReg l, 32, 16⟩
def qmPoolFreeLow (l : Nat) : Fld := ⟨qmPoolFreeReg l, 16, 16⟩
def qmPoolFreeFree (l : Nat) : Fld := ⟨qmPoolFreeReg l, 0, 16⟩

/-- QM_POOL_CFG, chapter 04. -/
def qmPoolCfgReg (l : Nat) : Nat := clBase l + 0x4008
def qmPoolCfgStageCells (l : Nat) : Fld := ⟨qmPoolCfgReg l, 16, 16⟩
def qmPoolCfgBanks (l : Nat) : Fld := ⟨qmPoolCfgReg l, 8, 5⟩
def qmPoolCfgBase (l : Nat) : Fld := ⟨qmPoolCfgReg l, 0, 6⟩

/-- QM_SPILL, chapter 04. -/
def qmSpillReg (l : Nat) : Nat := clBase l + 0x4010
def qmSpillRecalled (l : Nat) : Fld := ⟨qmSpillReg l, 32, 32⟩
def qmSpillSpilled (l : Nat) : Fld := ⟨qmSpillReg l, 0, 32⟩

/-- QM_QCFG[q], chapter 04. -/
def qmQcfgReg (l k : Nat) : Nat := clBase l + 0x5000 + 0x8 * k
def qmQcfgEn (l k : Nat) : Fld := ⟨qmQcfgReg l k, 63, 1⟩
def qmQcfgSource (l k : Nat) : Fld := ⟨qmQcfgReg l k, 61, 2⟩
def qmQcfgJob (l k : Nat) : Fld := ⟨qmQcfgReg l k, 49, 12⟩
def qmQcfgBinQuota (l k : Nat) : Fld := ⟨qmQcfgReg l k, 33, 16⟩
def qmQcfgResCells (l k : Nat) : Fld := ⟨qmQcfgReg l k, 17, 16⟩
def qmQcfgMaxCells (l k : Nat) : Fld := ⟨qmQcfgReg l k, 0, 16⟩

/-- QM_CUT_THRESH[q], chapter 04. -/
def qmCutThreshReg (l k : Nat) : Nat := clBase l + 0x6000 + 0x8 * k
def qmCutThreshThresh (l k : Nat) : Fld := ⟨qmCutThreshReg l k, 0, 7⟩

/-- QM_QSTAT[q], chapter 04. -/
def qmQstatReg (l k : Nat) : Nat := clBase l + 0x7000 + 0x8 * k
def qmQstatNextSeq (l k : Nat) : Fld := ⟨qmQstatReg l k, 48, 14⟩
def qmQstatLost (l k : Nat) : Fld := ⟨qmQstatReg l k, 40, 8⟩
def qmQstatArriving (l k : Nat) : Fld := ⟨qmQstatReg l k, 39, 1⟩
def qmQstatArrived (l k : Nat) : Fld := ⟨qmQstatReg l k, 32, 7⟩
def qmQstatBinCells (l k : Nat) : Fld := ⟨qmQstatReg l k, 16, 16⟩
def qmQstatCells (l k : Nat) : Fld := ⟨qmQstatReg l k, 0, 16⟩

/-- XE_MODE, chapter 05. -/
def xeModeReg (l : Nat) : Nat := clBase l + 0x8000
def xeModeQdepth (l : Nat) : Fld := ⟨xeModeReg l, 8, 8⟩
def xeModeState (l : Nat) : Fld := ⟨xeModeReg l, 4, 2⟩
def xeModeIntSat (l : Nat) : Fld := ⟨xeModeReg l, 1, 1⟩
def xeModeFp8Sat (l : Nat) : Fld := ⟨xeModeReg l, 0, 1⟩

/-- XE_RESIDUE_ERR, chapter 05. -/
def xeResidueErrReg (l : Nat) : Nat := clBase l + 0x8008
def xeResidueErrNew (l : Nat) : Fld := ⟨xeResidueErrReg l, 63, 1⟩
def xeResidueErrPersist (l : Nat) : Fld := ⟨xeResidueErrReg l, 62, 1⟩
def xeResidueErrLastJob (l : Nat) : Fld := ⟨xeResidueErrReg l, 50, 12⟩
def xeResidueErrLastTick (l : Nat) : Fld := ⟨xeResidueErrReg l, 30, 20⟩
def xeResidueErrPersistent (l : Nat) : Fld := ⟨xeResidueErrReg l, 8, 8⟩
def xeResidueErrTransient (l : Nat) : Fld := ⟨xeResidueErrReg l, 0, 8⟩

/-- XE_ARB_CFG, chapter 05. -/
def xeArbCfgReg (l : Nat) : Nat := clBase l + 0x8010
def xeArbCfgPeriod (l : Nat) : Fld := ⟨xeArbCfgReg l, 32, 14⟩
def xeArbCfgEn (l : Nat) : Fld := ⟨xeArbCfgReg l, 23, 1⟩
def xeArbCfgArbBuf (l : Nat) : Fld := ⟨xeArbCfgReg l, 0, 23⟩

/-- XE_ARB_STAT, chapter 05. -/
def xeArbStatReg (l : Nat) : Nat := clBase l + 0x8018
def xeArbStatRequests (l : Nat) : Fld := ⟨xeArbStatReg l, 48, 16⟩
def xeArbStatDataWrong (l : Nat) : Fld := ⟨xeArbStatReg l, 40, 8⟩
def xeArbStatIndexWrong (l : Nat) : Fld := ⟨xeArbStatReg l, 32, 8⟩
def xeArbStatBothWithin (l : Nat) : Fld := ⟨xeArbStatReg l, 24, 8⟩
def xeArbStatPoisonedMaster (l : Nat) : Fld := ⟨xeArbStatReg l, 16, 8⟩
def xeArbStatAbandoned (l : Nat) : Fld := ⟨xeArbStatReg l, 8, 8⟩
def xeArbStatQueueFull (l : Nat) : Fld := ⟨xeArbStatReg l, 0, 8⟩

/-- XE_JOBS, chapter 05. -/
def xeJobsReg (l : Nat) : Nat := clBase l + 0x8020
def xeJobsDone (l : Nat) : Fld := ⟨xeJobsReg l, 32, 32⟩
def xeJobsAbandoned (l : Nat) : Fld := ⟨xeJobsReg l, 16, 16⟩
def xeJobsRefused (l : Nat) : Fld := ⟨xeJobsReg l, 0, 16⟩

/-- SE_CFG, chapter 06. -/
def seCfgReg (i : Nat) : Nat := seBase i
def seCfgSlots (i : Nat) : Fld := ⟨seCfgReg i, 40, 9⟩
def seCfgKvFrames (i : Nat) : Fld := ⟨seCfgReg i, 20, 20⟩
def seCfgKvBase (i : Nat) : Fld := ⟨seCfgReg i, 0, 20⟩

/-- SE_STATUS, chapter 06. -/
def seStatusReg (i : Nat) : Nat := seBase i + 0x8
def seStatusOpen (i : Nat) : Fld := ⟨seStatusReg i, 16, 9⟩
def seStatusQdepth (i : Nat) : Fld := ⟨seStatusReg i, 8, 8⟩
def seStatusState (i : Nat) : Fld := ⟨seStatusReg i, 0, 2⟩

/-- SE_ECC, chapter 06. -/
def seEccReg (i : Nat) : Nat := seBase i + 0x10
def seEccNew (i : Nat) : Fld := ⟨seEccReg i, 63, 1⟩
def seEccLastAddr (i : Nat) : Fld := ⟨seEccReg i, 16, 40⟩
def seEccUncorr (i : Nat) : Fld := ⟨seEccReg i, 8, 8⟩
def seEccCorr (i : Nat) : Fld := ⟨seEccReg i, 0, 8⟩

/-- SE_SCRUB, chapter 06. -/
def seScrubReg (i : Nat) : Nat := seBase i + 0x18
def seScrubPasses (i : Nat) : Fld := ⟨seScrubReg i, 48, 16⟩
def seScrubPos (i : Nat) : Fld := ⟨seScrubReg i, 0, 30⟩

/-- SE_KV_PAGES[n], chapter 06. -/
def seKvPagesReg (i k : Nat) : Nat := seBase i + 0x200 + 0x8 * k
def seKvPagesLow (i k : Nat) : Fld := ⟨seKvPagesReg i k, 40, 20⟩
def seKvPagesFree (i k : Nat) : Fld := ⟨seKvPagesReg i k, 20, 20⟩
def seKvPagesQuota (i k : Nat) : Fld := ⟨seKvPagesReg i k, 0, 20⟩

/-- SE_PART_EVENTS[n], chapter 06. -/
def sePartEventsReg (i k : Nat) : Nat := seBase i + 0x300 + 0x8 * k
def sePartEventsNew (i k : Nat) : Fld := ⟨sePartEventsReg i k, 63, 1⟩
def sePartEventsCtxFull (i k : Nat) : Fld := ⟨sePartEventsReg i k, 32, 16⟩
def sePartEventsLate (i k : Nat) : Fld := ⟨sePartEventsReg i k, 16, 16⟩
def sePartEventsPoisoned (i k : Nat) : Fld := ⟨sePartEventsReg i k, 0, 16⟩

/-- SE_SLOT_STAT[k], chapter 06. -/
def seSlotStatReg (i k : Nat) : Nat := seBase i + 0x1000 + 0x8 * k
def seSlotStatLen (i k : Nat) : Fld := ⟨seSlotStatReg i k, 40, 19⟩
def seSlotStatPages (i k : Nat) : Fld := ⟨seSlotStatReg i k, 29, 11⟩
def seSlotStatTenant (i k : Nat) : Fld := ⟨seSlotStatReg i k, 8, 10⟩
def seSlotStatPart (i k : Nat) : Fld := ⟨seSlotStatReg i k, 4, 4⟩
def seSlotStatCtxFull (i k : Nat) : Fld := ⟨seSlotStatReg i k, 3, 1⟩
def seSlotStatState (i k : Nat) : Fld := ⟨seSlotStatReg i k, 0, 3⟩

/-- SH_POOL_SHARE, chapter 07. -/
def shPoolShareReg : Nat := 0x200000
def shPoolSharePoolXb : Fld := ⟨shPoolShareReg, 32, 16⟩
def shPoolShareSections : Fld := ⟨shPoolShareReg, 22, 10⟩
def shPoolShareLimit : Fld := ⟨shPoolShareReg, 12, 10⟩
def shPoolSharePause : Fld := ⟨shPoolShareReg, 8, 1⟩
def shPoolShareShare : Fld := ⟨shPoolShareReg, 0, 4⟩

/-- SH_STATUS, chapter 07. -/
def shStatusReg : Nat := 0x200000 + 0x8
def shStatusPlacing : Fld := ⟨shStatusReg, 50, 14⟩
def shStatusDemands : Fld := ⟨shStatusReg, 40, 10⟩
def shStatusReads : Fld := ⟨shStatusReg, 28, 12⟩
def shStatusSubst : Fld := ⟨shStatusReg, 20, 8⟩
def shStatusWrites : Fld := ⟨shStatusReg, 12, 8⟩

/-- SH_WEED_COUNT, chapter 07. -/
def shWeedCountReg : Nat := 0x200000 + 0x10
def shWeedCountReserveLeft : Fld := ⟨shWeedCountReg, 48, 16⟩
def shWeedCountEndurance : Fld := ⟨shWeedCountReg, 36, 12⟩
def shWeedCountWriteFail : Fld := ⟨shWeedCountReg, 24, 12⟩
def shWeedCountCalibration : Fld := ⟨shWeedCountReg, 12, 12⟩
def shWeedCountDrift : Fld := ⟨shWeedCountReg, 0, 12⟩

/-- SH_VOLUME_STATE, chapter 07. -/
def shVolumeStateReg : Nat := 0x200000 + 0x100
def shVolumeStateReady : Fld := ⟨shVolumeStateReg, 63, 1⟩
def shVolumeStateVisible : Fld := ⟨shVolumeStateReg, 62, 1⟩
def shVolumeStateState : Fld := ⟨shVolumeStateReg, 58, 4⟩
def shVolumeStateReason : Fld := ⟨shVolumeStateReg, 54, 4⟩
def shVolumeStatePart : Fld := ⟨shVolumeStateReg, 50, 4⟩
def shVolumeStateVersion : Fld := ⟨shVolumeStateReg, 34, 16⟩
def shVolumeStateLib : Fld := ⟨shVolumeStateReg, 33, 1⟩
def shVolumeStatePin : Fld := ⟨shVolumeStateReg, 32, 1⟩
def shVolumeStateTilesDone : Fld := ⟨shVolumeStateReg, 15, 17⟩
def shVolumeStateRes : Fld := ⟨shVolumeStateReg, 14, 1⟩
def shVolumeStateHandle : Fld := ⟨shVolumeStateReg, 0, 14⟩

/-- SH_LOAN_COUNT, chapter 07. -/
def shLoanCountReg : Nat := 0x200000 + 0x108
def shLoanCountReady : Fld := ⟨shLoanCountReg, 63, 1⟩
def shLoanCountVisible : Fld := ⟨shLoanCountReg, 62, 1⟩
def shLoanCountAstate : Fld := ⟨shLoanCountReg, 59, 3⟩
def shLoanCountGen : Fld := ⟨shLoanCountReg, 43, 16⟩
def shLoanCountLoans : Fld := ⟨shLoanCountReg, 19, 24⟩
def shLoanCountKind : Fld := ⟨shLoanCountReg, 14, 1⟩
def shLoanCountIndex : Fld := ⟨shLoanCountReg, 0, 14⟩

/-- SH_MAP_QUERY, chapter 07. -/
def shMapQueryReg : Nat := 0x200000 + 0x110
def shMapQueryReady : Fld := ⟨shMapQueryReg, 63, 1⟩
def shMapQueryVisible : Fld := ⟨shMapQueryReg, 62, 1⟩
def shMapQueryXstate : Fld := ⟨shMapQueryReg, 59, 3⟩
def shMapQueryWrites : Fld := ⟨shMapQueryReg, 42, 17⟩
def shMapQueryTwinPxb : Fld := ⟨shMapQueryReg, 37, 5⟩
def shMapQueryPxb : Fld := ⟨shMapQueryReg, 32, 5⟩
def shMapQueryPcore : Fld := ⟨shMapQueryReg, 26, 6⟩
def shMapQueryStale : Fld := ⟨shMapQueryReg, 25, 1⟩
def shMapQuerySection : Fld := ⟨shMapQueryReg, 16, 9⟩
def shMapQueryLcluster : Fld := ⟨shMapQueryReg, 9, 7⟩
def shMapQueryLslot : Fld := ⟨shMapQueryReg, 0, 9⟩

/-- CT_TICK_LEN, chapter 08. -/
def ctTickLenReg : Nat := 0x100000
def ctTickLenFloorMhz : Fld := ⟨ctTickLenReg, 16, 11⟩
def ctTickLenUs : Fld := ⟨ctTickLenReg, 0, 11⟩

/-- CT_TICK_NOW, chapter 08. -/
def ctTickNowReg : Nat := 0x100000 + 0x8
def ctTickNowNow : Fld := ⟨ctTickNowReg, 0, 64⟩

/-- CT_SYNC_MODE, chapter 08. -/
def ctSyncModeReg : Nat := 0x100000 + 0x10
def ctSyncModeExited : Fld := ⟨ctSyncModeReg, 7, 1⟩
def ctSyncModeLocked : Fld := ⟨ctSyncModeReg, 6, 1⟩
def ctSyncModeMode : Fld := ⟨ctSyncModeReg, 0, 2⟩

/-- CT_SYNC_ERR, chapter 08. -/
def ctSyncErrReg : Nat := 0x100000 + 0x18
def ctSyncErrOut : Fld := ⟨ctSyncErrReg, 48, 16⟩
def ctSyncErrMax : Fld := ⟨ctSyncErrReg, 32, 16⟩
def ctSyncErrNow : Fld := ⟨ctSyncErrReg, 0, 16⟩

/-- CT_CAT_STATE, chapter 08. -/
def ctCatStateReg : Nat := 0x100000 + 0x20
def ctCatStateState : Fld := ⟨ctCatStateReg, 61, 3⟩
def ctCatStatePstate : Fld := ⟨ctCatStateReg, 58, 3⟩
def ctCatStateReason : Fld := ⟨ctCatStateReg, 53, 5⟩
def ctCatStatePreason : Fld := ⟨ctCatStateReg, 48, 5⟩
def ctCatStatePpart : Fld := ⟨ctCatStateReg, 44, 4⟩
def ctCatStateCopy : Fld := ⟨ctCatStateReg, 42, 2⟩
def ctCatStateGen : Fld := ⟨ctCatStateReg, 0, 32⟩

/-- CT_CAT_ID, chapter 08. -/
def ctCatIdReg : Nat := 0x100000 + 0x28
def ctCatIdCatId : Fld := ⟨ctCatIdReg, 0, 64⟩

/-- CT_CAT_DETAIL, chapter 08. -/
def ctCatDetailReg : Nat := 0x100000 + 0x30
def ctCatDetailPartValid : Fld := ⟨ctCatDetailReg, 63, 1⟩
def ctCatDetailPart : Fld := ⟨ctCatDetailReg, 59, 4⟩
def ctCatDetailSection : Fld := ⟨ctCatDetailReg, 54, 5⟩
def ctCatDetailRecord : Fld := ⟨ctCatDetailReg, 32, 16⟩
def ctCatDetailTick : Fld := ⟨ctCatDetailReg, 0, 32⟩

/-- CT_ANNOUNCE, chapter 08. -/
def ctAnnounceReg : Nat := 0x100000 + 0x38
def ctAnnounceReady : Fld := ⟨ctAnnounceReg, 63, 1⟩
def ctAnnounceResult : Fld := ⟨ctAnnounceReg, 60, 3⟩
def ctAnnouncePart : Fld := ⟨ctAnnounceReg, 52, 4⟩
def ctAnnounceAction : Fld := ⟨ctAnnounceReg, 48, 4⟩
def ctAnnounceArg : Fld := ⟨ctAnnounceReg, 32, 16⟩
def ctAnnounceTarget : Fld := ⟨ctAnnounceReg, 0, 32⟩

/-- CT_PEND_TICK[k], chapter 08. -/
def ctPendTickReg (k : Nat) : Nat := 0x100000 + 0x100 + 0x10 * k
def ctPendTickTgt (k : Nat) : Fld := ⟨ctPendTickReg k, 0, 64⟩

/-- CT_PEND_ACT[k], chapter 08. -/
def ctPendActReg (k : Nat) : Nat := 0x100000 + 0x108 + 0x10 * k
def ctPendActValid (k : Nat) : Fld := ⟨ctPendActReg k, 63, 1⟩
def ctPendActRemote (k : Nat) : Fld := ⟨ctPendActReg k, 62, 1⟩
def ctPendActModule (k : Nat) : Fld := ⟨ctPendActReg k, 50, 12⟩
def ctPendActPart (k : Nat) : Fld := ⟨ctPendActReg k, 32, 4⟩
def ctPendActAction (k : Nat) : Fld := ⟨ctPendActReg k, 28, 4⟩
def ctPendActArg (k : Nat) : Fld := ⟨ctPendActReg k, 0, 16⟩

/-- CT_DOM_TICK[k], chapter 08. -/
def ctDomTickReg (k : Nat) : Nat := 0x100000 + 0x200 + 0x10 * k
def ctDomTickTgt (k : Nat) : Fld := ⟨ctDomTickReg k, 0, 64⟩

/-- CT_DOM_ACT[k], chapter 08. -/
def ctDomActReg (k : Nat) : Nat := 0x100000 + 0x208 + 0x10 * k
def ctDomActValid (k : Nat) : Fld := ⟨ctDomActReg k, 63, 1⟩
def ctDomActRemote (k : Nat) : Fld := ⟨ctDomActReg k, 62, 1⟩
def ctDomActModule (k : Nat) : Fld := ⟨ctDomActReg k, 50, 12⟩
def ctDomActAction (k : Nat) : Fld := ⟨ctDomActReg k, 28, 4⟩
def ctDomActArg (k : Nat) : Fld := ⟨ctDomActReg k, 0, 16⟩

/-- BT_LOCK, chapter 08. -/
def btLockReg : Nat := 0x0
def btLockLock : Fld := ⟨btLockReg, 0, 1⟩

/-- BT_PART[n], chapter 08. -/
def btPartReg (k : Nat) : Nat := 0x0 + 0x100 + 0x8 * k
def btPartValid (k : Nat) : Fld := ⟨btPartReg k, 63, 1⟩
def btPartHost (k : Nat) : Fld := ⟨btPartReg k, 48, 2⟩
def btPartCount (k : Nat) : Fld := ⟨btPartReg k, 8, 8⟩
def btPartFirst (k : Nat) : Fld := ⟨btPartReg k, 0, 7⟩

/-- BT_HOSTWIN[p], chapter 08. -/
def btHostwinReg (k : Nat) : Nat := 0x0 + 0x200 + 0x8 * k
def btHostwinEn (k : Nat) : Fld := ⟨btHostwinReg k, 63, 1⟩
def btHostwinControl (k : Nat) : Fld := ⟨btHostwinReg k, 62, 1⟩
def btHostwinParts (k : Nat) : Fld := ⟨btHostwinReg k, 16, 16⟩
def btHostwinVfs (k : Nat) : Fld := ⟨btHostwinReg k, 0, 8⟩

/-- BT_TENANT_RANGE[p], chapter 08. -/
def btTenantRangeReg (k : Nat) : Nat := 0x0 + 0x300 + 0x8 * k
def btTenantRangeCount (k : Nat) : Fld := ⟨btTenantRangeReg k, 16, 11⟩
def btTenantRangeFirst (k : Nat) : Fld := ⟨btTenantRangeReg k, 0, 10⟩

/-- HP_STATUS, chapter 09. -/
def hpStatusReg (p : Nat) : Nat := hpBase p
def hpStatusReady (p : Nat) : Fld := ⟨hpStatusReg p, 63, 1⟩
def hpStatusControl (p : Nat) : Fld := ⟨hpStatusReg p, 62, 1⟩
def hpStatusVfsEn (p : Nat) : Fld := ⟨hpStatusReg p, 46, 8⟩
def hpStatusFlit (p : Nat) : Fld := ⟨hpStatusReg p, 45, 1⟩
def hpStatusSpeed (p : Nat) : Fld := ⟨hpStatusReg p, 42, 3⟩
def hpStatusWidth (p : Nat) : Fld := ⟨hpStatusReg p, 38, 4⟩
def hpStatusOpen (p : Nat) : Fld := ⟨hpStatusReg p, 0, 13⟩

/-- HP_EVENTS, chapter 09. -/
def hpEventsReg (p : Nat) : Nat := hpBase p + 0x8
def hpEventsNew (p : Nat) : Fld := ⟨hpEventsReg p, 63, 1⟩
def hpEventsRingErrors (p : Nat) : Fld := ⟨hpEventsReg p, 32, 16⟩
def hpEventsCancelIgnored (p : Nat) : Fld := ⟨hpEventsReg p, 16, 16⟩
def hpEventsDiscarded (p : Nat) : Fld := ⟨hpEventsReg p, 0, 16⟩

/-- HP_RING_BASE[k], chapter 09. -/
def hpRingBaseReg (p k : Nat) : Nat := hpBase p + 0x1000 + 0x40 * k
def hpRingBaseAddr (p k : Nat) : Fld := ⟨hpRingBaseReg p k, 12, 52⟩

/-- HP_CPL_BASE[k], chapter 09. -/
def hpCplBaseReg (p k : Nat) : Nat := hpBase p + 0x1008 + 0x40 * k
def hpCplBaseAddr (p k : Nat) : Fld := ⟨hpCplBaseReg p k, 12, 52⟩

/-- HP_RING_CFG[k], chapter 09. -/
def hpRingCfgReg (p k : Nat) : Nat := hpBase p + 0x1010 + 0x40 * k
def hpRingCfgEn (p k : Nat) : Fld := ⟨hpRingCfgReg p k, 63, 1⟩
def hpRingCfgLock (p k : Nat) : Fld := ⟨hpRingCfgReg p k, 62, 1⟩
def hpRingCfgTenant (p k : Nat) : Fld := ⟨hpRingCfgReg p k, 48, 10⟩
def hpRingCfgFn (p k : Nat) : Fld := ⟨hpRingCfgReg p k, 40, 8⟩
def hpRingCfgCq (p k : Nat) : Fld := ⟨hpRingCfgReg p k, 8, 4⟩
def hpRingCfgRq (p k : Nat) : Fld := ⟨hpRingCfgReg p k, 0, 4⟩

/-- HP_DOORBELL[k], chapter 09. -/
def hpDoorbellReg (p k : Nat) : Nat := hpBase p + 0x1018 + 0x40 * k
def hpDoorbellTail (p k : Nat) : Fld := ⟨hpDoorbellReg p k, 0, 16⟩

/-- HP_CPL_HEAD[k], chapter 09. -/
def hpCplHeadReg (p k : Nat) : Nat := hpBase p + 0x1020 + 0x40 * k
def hpCplHeadHead (p k : Nat) : Fld := ⟨hpCplHeadReg p k, 0, 16⟩

/-- HP_RING_STAT[k], chapter 09. -/
def hpRingStatReg (p k : Nat) : Nat := hpBase p + 0x1028 + 0x40 * k
def hpRingStatState (p k : Nat) : Fld := ⟨hpRingStatReg p k, 62, 2⟩
def hpRingStatErr (p k : Nat) : Fld := ⟨hpRingStatReg p k, 58, 4⟩
def hpRingStatReserved (p k : Nat) : Fld := ⟨hpRingStatReg p k, 32, 17⟩
def hpRingStatCplTail (p k : Nat) : Fld := ⟨hpRingStatReg p k, 16, 16⟩
def hpRingStatHead (p k : Nat) : Fld := ⟨hpRingStatReg p k, 0, 16⟩

/-- HP_CANCEL[k], chapter 09. -/
def hpCancelReg (p k : Nat) : Nat := hpBase p + 0x1030 + 0x40 * k
def hpCancelReqId (p k : Nat) : Fld := ⟨hpCancelReg p k, 0, 32⟩

/-- TN_BUDGET[t], chapter 09. -/
def tnBudgetReg (t : Nat) : Nat := tnBase t
def tnBudgetHold (t : Nat) : Fld := ⟨tnBudgetReg t, 32, 32⟩
def tnBudgetBalance (t : Nat) : Fld := ⟨tnBudgetReg t, 0, 32⟩

/-- TN_WEIGHT[t], chapter 09. -/
def tnWeightReg (t : Nat) : Nat := tnBase t + 0x8
def tnWeightCap (t : Nat) : Fld := ⟨tnWeightReg t, 32, 31⟩
def tnWeightWeight (t : Nat) : Fld := ⟨tnWeightReg t, 0, 31⟩

/-- TN_REFILL_TICKS, chapter 09. -/
def tnRefillTicksReg : Nat := tnBase 0 + 0x10
def tnRefillTicksTicks : Fld := ⟨tnRefillTicksReg, 0, 16⟩

/-- TN_STAT[t], chapter 09. -/
def tnStatReg (t : Nat) : Nat := tnBase t + 0x18
def tnStatValid (t : Nat) : Fld := ⟨tnStatReg t, 63, 1⟩
def tnStatOpen (t : Nat) : Fld := ⟨tnStatReg t, 50, 13⟩
def tnStatActive (t : Nat) : Fld := ⟨tnStatReg t, 37, 13⟩
def tnStatCharged (t : Nat) : Fld := ⟨tnStatReg t, 0, 32⟩

/-- FB_COORD, chapter 10. -/
def fbCoordReg : Nat := 0x480000
def fbCoordDomain : Fld := ⟨fbCoordReg, 48, 16⟩
def fbCoordValid : Fld := ⟨fbCoordReg, 47, 1⟩
def fbCoordAmode : Fld := ⟨fbCoordReg, 46, 1⟩
def fbCoordDzm1 : Fld := ⟨fbCoordReg, 40, 4⟩
def fbCoordDym1 : Fld := ⟨fbCoordReg, 36, 4⟩
def fbCoordDxm1 : Fld := ⟨fbCoordReg, 32, 4⟩
def fbCoordModule : Fld := ⟨fbCoordReg, 16, 12⟩
def fbCoordZ : Fld := ⟨fbCoordReg, 8, 4⟩
def fbCoordY : Fld := ⟨fbCoordReg, 4, 4⟩
def fbCoordX : Fld := ⟨fbCoordReg, 0, 4⟩

/-- FB_SYNC_STAT, chapter 10. -/
def fbSyncStatReg : Nat := 0x480000 + 0x8
def fbSyncStatRoot : Fld := ⟨fbSyncStatReg, 52, 12⟩
def fbSyncStatRootPri : Fld := ⟨fbSyncStatReg, 51, 1⟩
def fbSyncStatDepth : Fld := ⟨fbSyncStatReg, 40, 6⟩
def fbSyncStatParent : Fld := ⟨fbSyncStatReg, 36, 4⟩
def fbSyncStatHoldover : Fld := ⟨fbSyncStatReg, 35, 1⟩
def fbSyncStatRefOk : Fld := ⟨fbSyncStatReg, 34, 1⟩
def fbSyncStatParentChanges : Fld := ⟨fbSyncStatReg, 16, 16⟩
def fbSyncStatExitsSeen : Fld := ⟨fbSyncStatReg, 0, 16⟩

/-- FB_EXIT_LAST, chapter 10. -/
def fbExitLastReg : Nat := 0x480000 + 0x10
def fbExitLastModule : Fld := ⟨fbExitLastReg, 52, 12⟩
def fbExitLastCause : Fld := ⟨fbExitLastReg, 50, 2⟩
def fbExitLastTick : Fld := ⟨fbExitLastReg, 0, 32⟩

/-- FB_BRIDGE_ID, chapter 10. -/
def fbBridgeIdReg : Nat := 0x480000 + 0x18
def fbBridgeIdNativeDomain : Fld := ⟨fbBridgeIdReg, 48, 16⟩
def fbBridgeIdValid : Fld := ⟨fbBridgeIdReg, 47, 1⟩
def fbBridgeIdNativeModule : Fld := ⟨fbBridgeIdReg, 16, 12⟩
def fbBridgeIdNz : Fld := ⟨fbBridgeIdReg, 8, 4⟩
def fbBridgeIdNy : Fld := ⟨fbBridgeIdReg, 4, 4⟩
def fbBridgeIdNx : Fld := ⟨fbBridgeIdReg, 0, 4⟩

/-- FB_PORT_STATE[p], chapter 10. -/
def fbPortStateReg (p : Nat) : Nat := fbBase p
def fbPortStateNew (p : Nat) : Fld := ⟨fbPortStateReg p, 63, 1⟩
def fbPortStateDisable (p : Nat) : Fld := ⟨fbPortStateReg p, 62, 1⟩
def fbPortStateRetrains (p : Nat) : Fld := ⟨fbPortStateReg p, 48, 8⟩
def fbPortStateQreason (p : Nat) : Fld := ⟨fbPortStateReg p, 40, 4⟩
def fbPortStateRole (p : Nat) : Fld := ⟨fbPortStateReg p, 38, 2⟩
def fbPortStateInert (p : Nat) : Fld := ⟨fbPortStateReg p, 37, 1⟩
def fbPortStateState (p : Nat) : Fld := ⟨fbPortStateReg p, 0, 3⟩

/-- FB_PLAN_NEIGHBOUR[p], chapter 10. -/
def fbPlanNeighbourReg (p : Nat) : Nat := fbBase p + 0x8
def fbPlanNeighbourDomain (p : Nat) : Fld := ⟨fbPlanNeighbourReg p, 48, 16⟩
def fbPlanNeighbourKind (p : Nat) : Fld := ⟨fbPlanNeighbourReg p, 46, 2⟩
def fbPlanNeighbourRole (p : Nat) : Fld := ⟨fbPlanNeighbourReg p, 44, 2⟩
def fbPlanNeighbourFarPort (p : Nat) : Fld := ⟨fbPlanNeighbourReg p, 40, 3⟩
def fbPlanNeighbourModule (p : Nat) : Fld := ⟨fbPlanNeighbourReg p, 28, 12⟩

/-- FB_SEEN_NEIGHBOUR[p], chapter 10. -/
def fbSeenNeighbourReg (p : Nat) : Nat := fbBase p + 0x10
def fbSeenNeighbourDomain (p : Nat) : Fld := ⟨fbSeenNeighbourReg p, 48, 16⟩
def fbSeenNeighbourKind (p : Nat) : Fld := ⟨fbSeenNeighbourReg p, 46, 2⟩
def fbSeenNeighbourSync (p : Nat) : Fld := ⟨fbSeenNeighbourReg p, 44, 2⟩
def fbSeenNeighbourValid (p : Nat) : Fld := ⟨fbSeenNeighbourReg p, 43, 1⟩
def fbSeenNeighbourFarPort (p : Nat) : Fld := ⟨fbSeenNeighbourReg p, 40, 3⟩
def fbSeenNeighbourModule (p : Nat) : Fld := ⟨fbSeenNeighbourReg p, 28, 12⟩
def fbSeenNeighbourTickUs (p : Nat) : Fld := ⟨fbSeenNeighbourReg p, 16, 11⟩
def fbSeenNeighbourAmode (p : Nat) : Fld := ⟨fbSeenNeighbourReg p, 15, 1⟩

/-- FB_LINK_STAT[p], chapter 10. -/
def fbLinkStatReg (p : Nat) : Nat := fbBase p + 0x18
def fbLinkStatReplays (p : Nat) : Fld := ⟨fbLinkStatReg p, 48, 16⟩
def fbLinkStatUncorr (p : Nat) : Fld := ⟨fbLinkStatReg p, 32, 16⟩
def fbLinkStatSlips (p : Nat) : Fld := ⟨fbLinkStatReg p, 16, 16⟩
def fbLinkStatDiscards (p : Nat) : Fld := ⟨fbLinkStatReg p, 0, 16⟩

/-- FB_TIME[p], chapter 10. -/
def fbTimeReg (p : Nat) : Nat := fbBase p + 0x20
def fbTimeDelay (p : Nat) : Fld := ⟨fbTimeReg p, 48, 16⟩
def fbTimeOffset (p : Nat) : Fld := ⟨fbTimeReg p, 32, 16⟩
def fbTimeErr (p : Nat) : Fld := ⟨fbTimeReg p, 16, 16⟩
def fbTimeExchanges (p : Nat) : Fld := ⟨fbTimeReg p, 0, 16⟩

/-- FB_SLOT_TABLE[e], chapter 10. -/
def fbSlotTableReg (p k : Nat) : Nat := fbBase p + 0x1000 + 0x8 * k
def fbSlotTableValid (p k : Nat) : Fld := ⟨fbSlotTableReg p k, 63, 1⟩
def fbSlotTableClass (p k : Nat) : Fld := ⟨fbSlotTableReg p k, 61, 2⟩
def fbSlotTablePart (p k : Nat) : Fld := ⟨fbSlotTableReg p k, 57, 4⟩
def fbSlotTableJob (p k : Nat) : Fld := ⟨fbSlotTableReg p k, 45, 12⟩
def fbSlotTableInert (p k : Nat) : Fld := ⟨fbSlotTableReg p k, 44, 1⟩
def fbSlotTableLength (p k : Nat) : Fld := ⟨fbSlotTableReg p k, 20, 20⟩
def fbSlotTableStart (p k : Nat) : Fld := ⟨fbSlotTableReg p k, 0, 20⟩

/-- IN_ERR_HEAD, chapter 11. -/
def inErrHeadReg : Nat := 0x600000
def inErrHeadWr : Fld := ⟨inErrHeadReg, 32, 32⟩
def inErrHeadRd : Fld := ⟨inErrHeadReg, 0, 32⟩

/-- IN_ERR_STAT, chapter 11. -/
def inErrStatReg : Nat := 0x600000 + 0x8
def inErrStatOverflow : Fld := ⟨inErrStatReg, 48, 16⟩
def inErrStatMirror : Fld := ⟨inErrStatReg, 16, 32⟩
def inErrStatPending : Fld := ⟨inErrStatReg, 8, 8⟩

/-- IN_NOTIFY, chapter 11. -/
def inNotifyReg : Nat := 0x600000 + 0x10
def inNotifyMinSev : Fld := ⟨inNotifyReg, 0, 3⟩

/-- IN_POLICY[n], chapter 11. -/
def inPolicyReg (k : Nat) : Nat := 0x600000 + 0x100 + 0x8 * k
def inPolicyPolicy (k : Nat) : Fld := ⟨inPolicyReg k, 0, 2⟩

/-- IN_PART_STATE[n], chapter 11. -/
def inPartStateReg (k : Nat) : Nat := 0x600000 + 0x180 + 0x8 * k
def inPartStateFatal (k : Nat) : Fld := ⟨inPartStateReg k, 63, 1⟩
def inPartStateResume (k : Nat) : Fld := ⟨inPartStateReg k, 62, 1⟩
def inPartStateFatalTick (k : Nat) : Fld := ⟨inPartStateReg k, 32, 20⟩
def inPartStateFatals (k : Nat) : Fld := ⟨inPartStateReg k, 16, 16⟩
def inPartStateRaised (k : Nat) : Fld := ⟨inPartStateReg k, 0, 16⟩

/-- IN_ERR_RECORD[k], chapter 11. -/
def inErrRecordReg (k : Nat) : Nat := 0x600000 + 0x1000 + 0x8 * k
def inErrRecordWord (k : Nat) : Fld := ⟨inErrRecordReg k, 0, 64⟩

/-- IN_ERR_LAST[w], chapter 11. -/
def inErrLastReg (k : Nat) : Nat := 0x600000 + 0x2000 + 0x8 * k
def inErrLastWord (k : Nat) : Fld := ⟨inErrLastReg k, 0, 64⟩

/-- IN_SEAL_SECRET[w], chapter 11. -/
def inSealSecretReg (k : Nat) : Nat := 0x600000 + 0x3000 + 0x8 * k
def inSealSecretSecret (k : Nat) : Fld := ⟨inSealSecretReg k, 0, 64⟩

/-- IN_SEAL_STAT, chapter 11. -/
def inSealStatReg : Nat := 0x600000 + 0x3020
def inSealStatLastModule : Fld := ⟨inSealStatReg, 52, 12⟩
def inSealStatMismatches : Fld := ⟨inSealStatReg, 0, 32⟩

/-- CA_QUALITY, chapter 12. -/
def caQualityReg : Nat := 0x700000
def caQualityWorst : Fld := ⟨caQualityReg, 56, 8⟩
def caQualityAbove08 : Fld := ⟨caQualityReg, 38, 18⟩
def caQualityAbove15 : Fld := ⟨caQualityReg, 20, 18⟩
def caQualityRecalPend : Fld := ⟨caQualityReg, 0, 20⟩

/-- CA_GAP_USE, chapter 12. -/
def caGapUseReg : Nat := 0x700000 + 0x8
def caGapUseSkip : Fld := ⟨caGapUseReg, 42, 22⟩
def caGapUsePhase : Fld := ⟨caGapUseReg, 20, 22⟩
def caGapUseIdle : Fld := ⟨caGapUseReg, 0, 20⟩

/-- CA_FAIL_COUNT, chapter 12. -/
def caFailCountReg : Nat := 0x700000 + 0x10
def caFailCountRejectGain : Fld := ⟨caFailCountReg, 48, 16⟩
def caFailCountRejectOther : Fld := ⟨caFailCountReg, 32, 16⟩
def caFailCountAbandoned : Fld := ⟨caFailCountReg, 16, 16⟩
def caFailCountThirdFail : Fld := ⟨caFailCountReg, 0, 16⟩

/-- CA_LANE[k], chapter 12. -/
def caLaneReg (k : Nat) : Nat := 0x700000 + 0x100 + 0x8 * k
def caLaneEyeH (k : Nat) : Fld := ⟨caLaneReg k, 56, 8⟩
def caLaneEyeW (k : Nat) : Fld := ⟨caLaneReg k, 48, 8⟩
def caLaneMinH (k : Nat) : Fld := ⟨caLaneReg k, 40, 8⟩
def caLaneMinW (k : Nat) : Fld := ⟨caLaneReg k, 32, 8⟩
def caLaneMeas (k : Nat) : Fld := ⟨caLaneReg k, 16, 16⟩
def caLaneStrikes (k : Nat) : Fld := ⟨caLaneReg k, 4, 2⟩
def caLaneState (k : Nat) : Fld := ⟨caLaneReg k, 0, 2⟩

/-- SV_SELECT, chapter 12. -/
def svSelectReg : Nat := 0x710000
def svSelectCh : Fld := ⟨svSelectReg, 0, 7⟩

/-- SV_CTRL, chapter 12. -/
def svCtrlReg : Nat := 0x710000 + 0x8
def svCtrlBusy : Fld := ⟨svCtrlReg, 63, 1⟩
def svCtrlStart : Fld := ⟨svCtrlReg, 2, 1⟩
def svCtrlCont : Fld := ⟨svCtrlReg, 1, 1⟩
def svCtrlEn : Fld := ⟨svCtrlReg, 0, 1⟩

/-- SV_RESULT, chapter 12. -/
def svResultReg : Nat := 0x710000 + 0x10
def svResultValid : Fld := ⟨svResultReg, 63, 1⟩
def svResultUrgent : Fld := ⟨svResultReg, 62, 1⟩
def svResultCh : Fld := ⟨svResultReg, 55, 7⟩
def svResultSeq : Fld := ⟨svResultReg, 16, 32⟩
def svResultCode : Fld := ⟨svResultReg, 0, 12⟩

/-- SV_URGENT, chapter 12. -/
def svUrgentReg : Nat := 0x710000 + 0x18
def svUrgentPending : Fld := ⟨svUrgentReg, 63, 1⟩
def svUrgentReq : Fld := ⟨svUrgentReg, 62, 1⟩
def svUrgentCh : Fld := ⟨svUrgentReg, 55, 7⟩
def svUrgentLastCh : Fld := ⟨svUrgentReg, 48, 7⟩
def svUrgentCode : Fld := ⟨svUrgentReg, 32, 12⟩
def svUrgentCount : Fld := ⟨svUrgentReg, 16, 16⟩
def svUrgentWait : Fld := ⟨svUrgentReg, 0, 10⟩

/-- SV_WINDOW[c], chapter 12. -/
def svWindowReg (k : Nat) : Nat := 0x710000 + 0x100 + 0x8 * k
def svWindowEn (k : Nat) : Fld := ⟨svWindowReg k, 63, 1⟩
def svWindowLowHit (k : Nat) : Fld := ⟨svWindowReg k, 62, 1⟩
def svWindowHighHit (k : Nat) : Fld := ⟨svWindowReg k, 61, 1⟩
def svWindowLast (k : Nat) : Fld := ⟨svWindowReg k, 48, 12⟩
def svWindowHigh (k : Nat) : Fld := ⟨svWindowReg k, 32, 12⟩
def svWindowLow (k : Nat) : Fld := ⟨svWindowReg k, 0, 12⟩

/-- TH_LIMITS, chapter 12. -/
def thLimitsReg : Nat := 0x720000
def thLimitsCrit : Fld := ⟨thLimitsReg, 32, 10⟩
def thLimitsFast : Fld := ⟨thLimitsReg, 16, 10⟩
def thLimitsThrottle : Fld := ⟨thLimitsReg, 0, 10⟩

/-- TH_EXCLUDED[w], chapter 12. -/
def thExcludedReg (k : Nat) : Nat := 0x720000 + 0x8 + 0x8 * k
def thExcludedExcl (k : Nat) : Fld := ⟨thExcludedReg k, 0, 64⟩

/-- TH_SENSOR[n], chapter 12. -/
def thSensorReg (k : Nat) : Nat := 0x720000 + 0x100 + 0x8 * k
def thSensorValid (k : Nat) : Fld := ⟨thSensorReg k, 63, 1⟩
def thSensorExcl (k : Nat) : Fld := ⟨thSensorReg k, 62, 1⟩
def thSensorStrikes (k : Nat) : Fld := ⟨thSensorReg k, 58, 4⟩
def thSensorRaw (k : Nat) : Fld := ⟨thSensorReg k, 32, 13⟩
def thSensorArea (k : Nat) : Fld := ⟨thSensorReg k, 16, 11⟩
def thSensorReading (k : Nat) : Fld := ⟨thSensorReg k, 0, 11⟩

/-- PW_DOMAIN_FREQ[d], chapter 13. -/
def pwDomainFreqReg (k : Nat) : Nat := 0x730000 + 0x8 * k
def pwDomainFreqHeld (k : Nat) : Fld := ⟨pwDomainFreqReg k, 63, 1⟩
def pwDomainFreqActive (k : Nat) : Fld := ⟨pwDomainFreqReg k, 62, 1⟩
def pwDomainFreqCur (k : Nat) : Fld := ⟨pwDomainFreqReg k, 32, 11⟩
def pwDomainFreqTarget (k : Nat) : Fld := ⟨pwDomainFreqReg k, 0, 11⟩

/-- PW_DOMAIN_VOLT[d], chapter 13. -/
def pwDomainVoltReg (k : Nat) : Nat := 0x730000 + 0x40 + 0x8 * k
def pwDomainVoltVok (k : Nat) : Fld := ⟨pwDomainVoltReg k, 63, 1⟩
def pwDomainVoltRefused (k : Nat) : Fld := ⟨pwDomainVoltReg k, 62, 1⟩
def pwDomainVoltVmin (k : Nat) : Fld := ⟨pwDomainVoltReg k, 48, 10⟩
def pwDomainVoltCur (k : Nat) : Fld := ⟨pwDomainVoltReg k, 32, 10⟩
def pwDomainVoltTarget (k : Nat) : Fld := ⟨pwDomainVoltReg k, 0, 10⟩

/-- PW_BUDGET, chapter 13. -/
def pwBudgetReg : Nat := 0x730000 + 0x80
def pwBudgetMeas : Fld := ⟨pwBudgetReg, 52, 12⟩
def pwBudgetThrottles : Fld := ⟨pwBudgetReg, 40, 8⟩
def pwBudgetCap : Fld := ⟨pwBudgetReg, 24, 11⟩
def pwBudgetLimit : Fld := ⟨pwBudgetReg, 0, 11⟩

/-- PW_STATUS, chapter 13. -/
def pwStatusReg : Nat := 0x730000 + 0x88
def pwStatusFast : Fld := ⟨pwStatusReg, 63, 1⟩
def pwStatusThrotIn : Fld := ⟨pwStatusReg, 62, 1⟩
def pwStatusIdleArg : Fld := ⟨pwStatusReg, 54, 8⟩
def pwStatusThermCap : Fld := ⟨pwStatusReg, 43, 11⟩
def pwStatusFloor : Fld := ⟨pwStatusReg, 32, 11⟩
def pwStatusIdleTicks : Fld := ⟨pwStatusReg, 16, 16⟩
def pwStatusActive : Fld := ⟨pwStatusReg, 8, 8⟩

/-- PW_STAGE[k], chapter 13. -/
def pwStageReg (k : Nat) : Nat := 0x730000 + 0x90 + 0x8 * k
def pwStageOn (k : Nat) : Fld := ⟨pwStageReg k, 63, 1⟩
def pwStageTemp (k : Nat) : Fld := ⟨pwStageReg k, 37, 11⟩
def pwStageInW (k : Nat) : Fld := ⟨pwStageReg k, 26, 11⟩
def pwStageTrips (k : Nat) : Fld := ⟨pwStageReg k, 0, 16⟩

/-- BT_BOOT, chapter 14. -/
def btBootReg : Nat := 0x0 + 0x400
def btBootStep : Fld := ⟨btBootReg, 56, 8⟩
def btBootResetKind : Fld := ⟨btBootReg, 52, 4⟩
def btBootLastCause : Fld := ⟨btBootReg, 48, 4⟩
def btBootFwCopy : Fld := ⟨btBootReg, 46, 2⟩
def btBootBoots : Fld := ⟨btBootReg, 0, 32⟩

/-- BT_INPUTS, chapter 14. -/
def btInputsReg : Nat := 0x0 + 0x408
def btInputsModRst : Fld := ⟨btInputsReg, 63, 1⟩
def btInputsModRstUnstable : Fld := ⟨btInputsReg, 62, 1⟩
def btInputsThrot : Fld := ⟨btInputsReg, 61, 1⟩
def btInputsThrotUnstable : Fld := ⟨btInputsReg, 60, 1⟩
def btInputsRefOk : Fld := ⟨btInputsReg, 59, 1⟩
def btInputsRefMissing : Fld := ⟨btInputsReg, 58, 1⟩
def btInputsThrotEdges : Fld := ⟨btInputsReg, 32, 16⟩
def btInputsRefCount : Fld := ⟨btInputsReg, 0, 32⟩

/-- DB_OBSMUX, chapter 14. -/
def dbObsmuxReg : Nat := 0x2000000
def dbObsmuxEn : Fld := ⟨dbObsmuxReg, 63, 1⟩
def dbObsmuxPins : Fld := ⟨dbObsmuxReg, 32, 16⟩
def dbObsmuxSource : Fld := ⟨dbObsmuxReg, 16, 8⟩
def dbObsmuxGroup : Fld := ⟨dbObsmuxReg, 0, 16⟩

/-- DB_TOKEN, chapter 14. -/
def dbTokenReg : Nat := 0x2000000 + 0x8
def dbTokenOpen : Fld := ⟨dbTokenReg, 63, 1⟩
def dbTokenPreLock : Fld := ⟨dbTokenReg, 62, 1⟩
def dbTokenRights : Fld := ⟨dbTokenReg, 60, 2⟩
def dbTokenRejects : Fld := ⟨dbTokenReg, 32, 16⟩
def dbTokenRemain : Fld := ⟨dbTokenReg, 0, 32⟩

end Sys2Proof.Machine
end

