-- ==== Sys2Proof/Machine/Ops.lean ====
section
/-! DEFINITION. Named operations over the state: registers by field (R11, R12), the clock, memory with its poison marks
(R43, R143), core register files and private memories (R98, R109), and the tables of `State`. -/
namespace Sys2Proof.Machine
open Sys2Proof

/-! Registers. -/

/-- The value in force of the register at a control-space offset. -/
def State.reg (s : State) (o : Nat) : W64 := tabGet (resetValue o) s.regs o

/-- Put a value in force. -/
def State.setReg (s : State) (o : Nat) (v : W64) : State := { s with regs := tabSet (resetValue o) s.regs o v }

/-- Replace bits [lo + w − 1 : lo] of a word. -/
def putBits (r : W64) (lo w v : Nat) : W64 :=
  let m : W64 := BitVec.ofNat 64 ((2 ^ w - 1) <<< lo)
  (r &&& ~~~m) ||| (BitVec.ofNat 64 ((v % 2 ^ w) <<< lo))

/-- A field's value in force. -/
def State.fld (s : State) (f : Fld) : Nat := bitsOf (s.reg f.off).toNat f.lo f.w

/-- A one-bit field. -/
def State.flag (s : State) (f : Fld) : Bool := decide (s.fld f = 1)

/-- Set a field to the low bits of v. -/
def State.setFld (s : State) (f : Fld) (v : Nat) : State := s.setReg f.off (putBits (s.reg f.off) f.lo f.w v)

/-- Set or clear a one-bit field. -/
def State.setFlag (s : State) (f : Fld) (b : Bool) : State := s.setFld f (bitNat b)

/-- Count n events, saturating at the field's largest value. -/
def State.incSat (s : State) (f : Fld) (n : Nat) : State := s.setFld f (satAdd f.w (s.fld f) n)

/-- Count n events, wrapping. -/
def State.incWrap (s : State) (f : Fld) (n : Nat) : State := s.setFld f (s.fld f + n)

/-- Count n down, not below 0. -/
def State.decFld (s : State) (f : Fld) (n : Nat) : State := s.setFld f (s.fld f - n)

/-- The 20 low bits of CT_TICK_NOW, as records and registers hold it. -/
def State.tick20 (s : State) : Nat := s.tick % 2 ^ 20

/-! The clock (R282, R283). -/

/-- Tick length L in ns, from CT_TICK_LEN. -/
def State.tickNs (s : State) : Nat := 1000 * s.fld ctTickLenUs

/-- Move CS_TTIME forward to x ns after the boundary; a time already past stays. -/
def State.advance (s : State) (x : Nat) : State :=
  if s.t < x then { s with t := x, now := s.now + (x - s.t) } else s

/-- Draw the next free-value index. -/
def State.draw (s : State) (n : Nat) : State := { s with free := s.free + n }

/-! Memory: HBM and the cluster memories by device address (R43). -/

/-- First device address of cluster memory l (R45). -/
def clMem (l : Nat) : Nat := 0xA000000000 + 0x800000 * l

/-- Size of a cluster memory. -/
def clMemSize : Nat := 0x800000

/-- Is the address HBM (R43)? -/
def isHbm (a : Nat) : Bool := decide (a < 0x9000000000)

/-- Stack of an HBM address (R44). -/
def stackOf (a : Nat) : Nat := bitsOf a 16 4

/-- Offset of an HBM address within its stack (R44). -/
def stackOffset (a : Nat) : Nat := (a / 2 ^ 20) * 2 ^ 16 + a % 2 ^ 16

/-- HBM address of an offset of a stack (R44). -/
def hbmAddr (stack off : Nat) : Nat := (off / 2 ^ 16) * 2 ^ 20 + stack * 2 ^ 16 + off % 2 ^ 16

/-- A byte of memory; a byte nothing has written reads 0 (log entry 2). -/
def State.byte (s : State) (a : Nat) : Byte := tabGet 0 s.mem.bytes a

/-- n bytes from an address. -/
def State.bytes (s : State) (a n : Nat) : List Byte := (List.range n).map fun i => s.byte (a + i)

/-- Does the 64-byte word of an address carry the poison mark? -/
def State.poisoned (s : State) (a : Nat) : Bool := tabGet false s.mem.poison (a / 64)

/-- The 64-byte words that n bytes from address a touch. -/
def wordsOf (a n : Nat) : List Nat := if n = 0 then [] else (List.range ((a + n - 1) / 64 - a / 64 + 1)).map fun i => a / 64 + i

/-- Does any word of a range carry the poison mark? -/
def State.anyPoison (s : State) (a n : Nat) : Bool := (wordsOf a n).any fun w => tabGet false s.mem.poison w

/-- Write bytes over a byte list keyed by address. -/
def putBytes (l : List Host.Cell) (a : Nat) : List Byte → List Host.Cell
  | [] => l
  | b :: r => putBytes (tabSet 0 l a b) (a + 1) r

/-- Write bytes to memory, leaving marks. -/
def State.setBytes (s : State) (a : Nat) (d : List Byte) : State :=
  { s with mem := { s.mem with bytes := putBytes s.mem.bytes a d } }

/-- Set the poison marks of words. -/
def State.setMarks (s : State) (ws : List Nat) (p : Bool) : State :=
  { s with mem := { s.mem with poison := ws.foldl (fun t w => tabSet false t w p) s.mem.poison } }

/-- Mark every word of a range poisoned. -/
def State.poison (s : State) (a n : Nat) : State := s.setMarks (wordsOf a n) true

/-- Clear what an error left in words that are written whole (R143, R206). -/
def State.clearUpsets (s : State) (ws : List Nat) : State :=
  { s with mem := { s.mem with upset := s.mem.upset.filter fun e => decide (e.1 ∉ ws) } }

/-- Drop the stored check of words, when other data replaces it. -/
def State.clearChecks (s : State) (ws : List Nat) : State :=
  { s with mem := { s.mem with check := s.mem.check.filter fun e => decide (e.1 ∉ ws) } }

/-- Poison marks after a write of bytes with a poison bit each (R109): a word that takes a poisoned byte is marked, a word
rewritten clean in all its 64 bytes loses its mark, any other keeps it. -/
def putMarks (t : Tab Bool) (a : Nat) (bp : List Bool) : Tab Bool :=
  (wordsOf a bp.length).foldl (fun t w =>
    let b := (bp.drop (64 * w - a)).take (if 64 * w < a then 64 * w + 64 - a else 64)
    if b.any id then tabSet false t w true
    else if b.length = 64 then tabSet false t w false
    else t) t

/-- Write bytes to memory, each with its poison bit (R109); what an error left in a word written whole goes (R143, R206). -/
def State.storeMem (s : State) (a : Nat) (d : List Byte) (bp : List Bool) : State :=
  let ws := wordsOf a d.length
  let whole := ws.filter fun w => decide (a ≤ 64 * w) && decide (64 * w + 64 ≤ a + d.length)
  let s := (s.setBytes a d).clearUpsets whole
  let s := s.clearChecks ws
  { s with mem := { s.mem with poison := putMarks s.mem.poison a bp } }

/-- One poison bit for each of n bytes. -/
def allBits (n : Nat) (p : Bool) : List Bool := List.replicate n p

/-- Poison bits of n bytes from an address: each byte has its word's mark. -/
def State.byteMarks (s : State) (a n : Nat) : List Bool := (List.range n).map fun i => s.poisoned (a + i)

/-- The marks of a range, one per word. -/
def State.marksOf (s : State) (a n : Nat) : List Bool := (wordsOf a n).map fun w => tabGet false s.mem.poison w

/-- The check value stored with the word of an address (R205). -/
def State.checkAt (s : State) (a : Nat) : Option (BitVec 32) := (tabFind s.mem.check (a / 64)).map Prod.snd

/-- Form check units over a range just written to HBM (R426): one unit ends at the last word before each 64 KiB boundary,
at each `step` bytes from a (0: none), and at the last word; CV and CHECK are set on its last word. `units` bounds the count. -/
def State.formChecks (s : State) (step : Nat) : Nat → Nat → Nat → Nat → State
  | 0, _, _, _ => s
  | k + 1, a0, a, stop =>
    if stop ≤ a then s
    else
      let e1 := Nat.min stop ((a / 65536 + 1) * 65536)
      let e := if step = 0 then e1 else Nat.min e1 (a0 + ((a - a0) / step + 1) * step)
      let w0 := a / 64 * 64
      let len := (e - w0 + 63) / 64 * 64
      let s := { s with mem := { s.mem with
        check := tabInsert (tabErase s.mem.check ((e - 1) / 64)) ((e - 1) / 64) (a / 64, crc32c (s.bytes w0 len)) } }
      s.formChecks step k a0 e stop

/-- Verify the check units that end inside a read of words from `first` on (R426): `start` is where the current unit begins. A unit that
the read enters part-way is not verified. Answers the words of failing units. -/
def State.failedUnits (s : State) (first : Nat) : Nat → Nat → Nat → List Nat
  | _, _, 0 => []
  | start, w, n + 1 =>
    match tabFind s.mem.check w with
    | none => s.failedUnits first start (w + 1) n
    | some c =>
      let ws := (List.range (w + 1 - start)).map fun i => start + i
      let inside := decide (start = first) && decide (c.1 < first)
      let bad := decide (crc32c (s.bytes (64 * start) (64 * (w + 1 - start))) ≠ c.2)
        && !(ws.any fun x => tabGet false s.mem.poison x) && !inside
      (if bad then ws else []) ++ s.failedUnits first (w + 1) (w + 1) n

/-! Cores. A core number is 32 × logical cluster + logical core. -/

/-- A core's state. -/
def State.cs (s : State) (c : Nat) : CoreSt := tabGet {} s.core.st c

/-- Change a core's state. -/
def State.modCore (s : State) (c : Nat) (f : CoreSt → CoreSt) : State :=
  { s with core := { s.core with st := tabSet {} s.core.st c (f (s.cs c)) } }

/-- A general register; g0 reads 0 (R98). -/
def State.gpr (s : State) (c : Nat) (r : GReg) : W64 := if r = 0 then 0 else tabGet 0 s.core.gpr (32 * c + r.toNat)

/-- Poison bit of a general register (R98, R109). -/
def State.gprP (s : State) (c : Nat) (r : GReg) : Bool :=
  if r = 0 then false else tabGet false s.core.gprPoison (32 * c + r.toNat)

/-- Write a general register and its poison bit; writes to g0 are discarded (R98). -/
def State.setGpr (s : State) (c : Nat) (r : GReg) (v : W64) (p : Bool) : State :=
  if r = 0 then s
  else { s with core := { s.core with gpr := tabSet 0 s.core.gpr (32 * c + r.toNat) v,
                                      gprPoison := tabSet false s.core.gprPoison (32 * c + r.toNat) p } }

/-- A vector register. -/
def State.vr (s : State) (c : Nat) (r : VReg) : Vec256 := tabGet 0 s.core.vr (32 * c + r.toNat)

/-- Poison bit of a vector register. -/
def State.vrP (s : State) (c : Nat) (r : VReg) : Bool := tabGet false s.core.vrPoison (32 * c + r.toNat)

/-- Write a vector register and its poison bit. -/
def State.setVr (s : State) (c : Nat) (r : VReg) (v : Vec256) (p : Bool) : State :=
  { s with core := { s.core with vr := tabSet 0 s.core.vr (32 * c + r.toNat) v,
                                 vrPoison := tabSet false s.core.vrPoison (32 * c + r.toNat) p } }

/-- Set the poison latch of a core (R111). -/
def State.setLatch (s : State) (c : Nat) : State := s.modCore c fun k => { k with latch := true }

/-- n bytes of a core's data scratch. -/
def State.scratch (s : State) (c a n : Nat) : List Byte :=
  (List.range n).map fun i => tabGet 0 s.core.scratch (65536 * c + a + i)

/-- Does any 64-byte word of a scratch range carry the poison mark? -/
def State.scratchP (s : State) (c a n : Nat) : Bool :=
  (wordsOf (65536 * c + a) n).any fun w => tabGet false s.core.scratchPoison w

/-- Write a core's data scratch, each byte with its poison bit (R109). -/
def State.storeScratch (s : State) (c a : Nat) (d : List Byte) (bp : List Bool) : State :=
  { s with core := { s.core with scratch := putBytes s.core.scratch (65536 * c + a) d,
                                 scratchPoison := putMarks s.core.scratchPoison (65536 * c + a) bp,
                                 scratchUpset := s.core.scratchUpset.filter fun e =>
                                   !(decide (65536 * c + a ≤ 64 * e.1) && decide (64 * e.1 + 64 ≤ 65536 * c + a + d.length)) } }

/-- Poison bits of n bytes of a core's data scratch. -/
def State.scratchMarks (s : State) (c a n : Nat) : List Bool :=
  (List.range n).map fun i => tabGet false s.core.scratchPoison ((65536 * c + a + i) / 64)

/-! Tables of units. -/

/-- What runs on a logical crossbar. -/
def State.xrun (s : State) (x : Nat) : XbRun := tabGet {} s.xb.run x
/-- Change what runs on a logical crossbar. -/
def State.modXrun (s : State) (x : Nat) (f : XbRun → XbRun) : State :=
  { s with xb := { s.xb with run := tabSet {} s.xb.run x (f (s.xrun x)) } }
/-- A physical crossbar. -/
def State.phys (s : State) (n : Nat) : PhysXb := tabGet {} s.xb.phys n
/-- Change a physical crossbar. -/
def State.modPhys (s : State) (n : Nat) (f : PhysXb → PhysXb) : State :=
  { s with xb := { s.xb with phys := tabSet {} s.xb.phys n (f (s.phys n)) } }
/-- A queue of a cluster. -/
def State.queue (s : State) (l q : Nat) : QueueSt := tabGet {} s.cl.queue (512 * l + q)
/-- Change a queue. -/
def State.modQueue (s : State) (l q : Nat) (f : QueueSt → QueueSt) : State :=
  { s with cl := { s.cl with queue := tabSet {} s.cl.queue (512 * l + q) (f (s.queue l q)) } }
/-- The pool of a cluster. -/
def State.pool (s : State) (l : Nat) : PoolSt := tabGet {} s.cl.pool l
/-- Change a pool. -/
def State.modPool (s : State) (l : Nat) (f : PoolSt → PoolSt) : State :=
  { s with cl := { s.cl with pool := tabSet {} s.cl.pool l (f (s.pool l)) } }
/-- The exact engine of a cluster. -/
def State.xe (s : State) (l : Nat) : XeSt := tabGet {} s.cl.xe l
/-- Change an exact engine. -/
def State.modXe (s : State) (l : Nat) (f : XeSt → XeSt) : State :=
  { s with cl := { s.cl with xe := tabSet {} s.cl.xe l (f (s.xe l)) } }
/-- A credit pool. -/
def State.credit (s : State) (n : Nat) : CreditSt := tabGet {} s.cl.credit n
/-- Change a credit pool. -/
def State.modCredit (s : State) (n : Nat) (f : CreditSt → CreditSt) : State :=
  { s with cl := { s.cl with credit := tabSet {} s.cl.credit n (f (s.credit n)) } }
/-- Commands held by a stream engine. -/
def State.seCmds (s : State) (i : Nat) : List SeCmd := tabGet [] s.se.cmds i
/-- Change the commands a stream engine holds. -/
def State.setSeCmds (s : State) (i : Nat) (l : List SeCmd) : State :=
  { s with se := { s.se with cmds := tabSet [] s.se.cmds i l } }
/-- A decode slot's page list and WRITTEN counts. -/
def State.dslot (s : State) (i k : Nat) : SlotSt := tabGet {} s.se.slot (256 * i + k)
/-- Change a decode slot. -/
def State.modDslot (s : State) (i k : Nat) (f : SlotSt → SlotSt) : State :=
  { s with se := { s.se with slot := tabSet {} s.se.slot (256 * i + k) (f (s.dslot i k)) } }
/-- A volume of the directory. -/
def State.vol (s : State) (h : Nat) : Volume := tabGet {} s.sh.vol h
/-- Change a volume. -/
def State.modVol (s : State) (h : Nat) (f : Volume → Volume) : State :=
  { s with sh := { s.sh with vol := tabSet {} s.sh.vol h (f (s.vol h)) } }
/-- A section. -/
def State.sect (s : State) (n : Nat) : SectionSt := tabGet {} s.sh.sec n
/-- Change a section. -/
def State.modSect (s : State) (n : Nat) (f : SectionSt → SectionSt) : State :=
  { s with sh := { s.sh with sec := tabSet {} s.sh.sec n (f (s.sect n)) } }
/-- An adapter slot. -/
def State.aslot (s : State) (n : Nat) : ASlot := tabGet {} s.sh.aslot n
/-- Change an adapter slot. -/
def State.modAslot (s : State) (n : Nat) (f : ASlot → ASlot) : State :=
  { s with sh := { s.sh with aslot := tabSet {} s.sh.aslot n (f (s.aslot n)) } }
/-- A host port. -/
def State.hport (s : State) (p : Nat) : PortSt := tabGet {} s.sv.port p
/-- Change a host port. -/
def State.modHport (s : State) (p : Nat) (f : PortSt → PortSt) : State :=
  { s with sv := { s.sv with port := tabSet {} s.sv.port p (f (s.hport p)) } }
/-- A ring pair. -/
def State.ring (s : State) (p k : Nat) : RingSt := tabGet {} s.sv.ring (256 * p + k)
/-- Change a ring pair. -/
def State.modRing (s : State) (p k : Nat) (f : RingSt → RingSt) : State :=
  { s with sv := { s.sv with ring := tabSet {} s.sv.ring (256 * p + k) (f (s.ring p k)) } }
/-- A fabric port. -/
def State.fport (s : State) (p : Nat) : FabPort := tabGet {} s.fb.port p
/-- Change a fabric port. -/
def State.modFport (s : State) (p : Nat) (f : FabPort → FabPort) : State :=
  { s with fb := { s.fb with port := tabSet {} s.fb.port p (f (s.fport p)) } }

/-! Crossbars, logical and physical (R20 to R22, R32, R458). -/

/-- Physical cluster number 17 × py + px that serves logical cluster l (CL_STATUS). -/
def State.physCluster (s : State) (l : Nat) : Nat := 17 * s.fld (clStatusPy l) + s.fld (clStatusPx l)

/-- Logical crossbar j of a core (R104). -/
def coreXb (c j : Nat) : Nat := 512 * (c / 32) + 16 * (c % 32) + j

/-- Logical cluster and array slot of a logical crossbar. -/
def xbCluster (x : Nat) : Nat := x / 512
/-- See `xbCluster`. -/
def xbSlot (x : Nat) : Nat := x % 512
/-- The logical core a logical crossbar belongs to. -/
def xbCore (x : Nat) : Nat := 32 * (x / 512) + x % 512 / 16

/-- Physical core that serves a logical core (CL_REMAP). -/
def State.pcoreOf (s : State) (c : Nat) : Nat := s.fld (clRemapPcore (c / 32) (c % 32))

/-- First physical crossbar of physical core pc of the cluster that serves logical cluster l (R458). -/
def State.corePhys (s : State) (l pc : Nat) : Nat := 612 * s.physCluster l + 18 * pc

/-- Physical crossbar mapped to a logical one (R232): its map entry, else the crossbar of the same number of its physical core. -/
def State.mappedXb (s : State) (x : Nat) : Nat :=
  (tabFind s.xb.map x).getD (s.corePhys (x / 512) (s.pcoreOf (xbCore x)) + x % 16)

/-- Physical crossbar that evaluates products of a logical one: its twin, else the one mapped (R96, R232, R270). -/
def State.servingXb (s : State) (x : Nat) : Nat := (tabFind s.xb.twin x).getD (s.mappedXb x)

/-! Ownership (R23, R50). -/

/-- The catalogue in force; the empty catalogue before one is. -/
def State.ctg (s : State) : Cat := s.cat.cur.getD {}

/-- Partitions 0 to 15 that BT_PART names VALID. -/
def State.parts (s : State) : List Nat := (List.range 16).filter fun n => s.flag (btPartValid n)

/-- Does partition n own logical cluster l? -/
def State.owns (s : State) (n l : Nat) : Bool :=
  s.flag (btPartValid n) && decide (s.fld (btPartFirst n) ≤ l) && decide (l < s.fld (btPartFirst n) + s.fld (btPartCount n))

/-- The partition that owns a logical cluster. -/
def State.partOf (s : State) (l : Nat) : Option Nat := (List.range 16).find? fun n => s.owns n l

/-- Does host port p own partition n? -/
def State.portOwns (s : State) (p n : Nat) : Bool := s.flag (btPartValid n) && decide (s.fld (btPartHost n) = p)

/-- Partitions of host port p, lowest first. -/
def State.partsOf (s : State) (p : Nat) : List Nat := (List.range 16).filter fun n => s.portOwns p n

/-- Is host port p the control port (BT_HOSTWIN)? -/
def State.isControl (s : State) (p : Nat) : Bool := s.flag (btHostwinControl p)

/-- Is the logical cluster's window mapped (R24, R28)? CL_STATUS MAP 1 is UNAVAILABLE. -/
def State.clAvailable (s : State) (l : Nat) : Bool := decide (l < 128) && decide (s.fld (clStatusMap l) ≠ 1)

/-- Is a device address mapped memory: HBM, or the memory of an available cluster (R16, R28, R43)? -/
def State.mapped (s : State) (a : Nat) : Bool :=
  isHbm a || (decide (0xA000000000 ≤ a) && decide (a < 0xA040000000) && s.clAvailable ((a - 0xA000000000) / 0x800000))

/-- Is every byte of a range mapped memory? -/
def State.mappedRange (s : State) (a n : Nat) : Bool := s.mapped a && s.mapped (a + n - 1)

end Sys2Proof.Machine
end

