-- ==== Sys2Proof/Machine/Records.lean ====
section
/-! DEFINITION. Error records: their layout, the record queue, notification, and escalation (R443 to R452, R572), the
accession log and ALERT_N (R530 to R532, R538). -/
namespace Sys2Proof.Machine
open Sys2Proof

/-- An error record as a unit posts it (R443): `sev` 1 NOTE to 5 MODULE_FATAL, `domain` 0 crossbar to 5 unit outside the chain,
`part` the partition of SCOPE 1, `custOnly` SCOPE 2, `test` clear for the later records of a group (R445). -/
structure Rec where
  sev : Nat
  kind : Nat
  sub : Nat := 0
  domain : Nat
  unit : Nat
  job : Nat := 0
  detail : Nat := 0
  part : Option Nat := none
  custOnly : Bool := false
  test : Bool := true
deriving DecidableEq, Repr

/-- UNIT of a cluster (R444). -/
def unitCluster (l : Nat) : Nat := l * 512
/-- UNIT of a logical core, by 32 × cluster + core (R444). -/
def unitCore (c : Nat) : Nat := c / 32 * 512 + c % 32
/-- UNIT of a unit outside the chain (R444): type and instance. -/
def unitOf (type inst : Nat) : Nat := type * 2 ^ 28 + inst

/-- Does the kind of a record escalate in its domain (R445)? -/
def recEscalates (r : Rec) : Bool :=
  match r.kind with
  | 1 => decide (r.domain ≠ 5)
  | 2 | 3 | 4 => true
  | 5 => decide (r.domain ≤ 2)
  | 6 => decide (r.domain = 2)
  | 13 => decide (r.domain = 2)
  | _ => false

/-- The same for a record already raised into its domain: every raised record escalates. -/
def recTested (r : Rec) (raised : Bool) : Bool := raised || recEscalates r

/-- Does the open record's domain equal the record's domain or lie inside it (R446)? -/
def domainInside (o : OpenRec) (r : Rec) : Bool :=
  match r.domain with
  | 0 => decide (o.domain = 0) && decide (o.unit = r.unit)
  | 1 => (decide (o.domain = 1) && decide (o.unit = r.unit)) ||
         (decide (o.domain = 0) && decide (o.unit / 512 = r.unit / 512) && decide (o.unit % 512 / 16 = r.unit % 512))
  | 2 => decide (o.domain ≤ 2) && decide (o.unit / 512 = r.unit / 512)
  | 3 => decide (o.domain ≤ 3) && decide (o.part = r.part) && r.part.isSome
  | 4 => decide (o.domain ≤ 4)
  | _ => false

/-- Does the test of R447 succeed against the open records? A raised record meets only records raised into its own domain in
the same cycle. -/
def State.escalates (s : State) (r : Rec) (raised : Bool) : Bool :=
  s.ig.open_.any fun o => decide (o.sev ≤ r.sev) &&
    (if raised then o.raised && decide (o.cycle = s.now) && decide (o.domain = r.domain) && domainInside o r
     else domainInside o r)

/-- A record raised one level (R447): its domain, unit and severity. -/
def raiseRec (r : Rec) : Rec :=
  match r.domain with
  | 0 => { r with domain := 1, unit := r.unit / 512 * 512 + r.unit % 512 / 16, sev := 3 }
  | 1 => { r with domain := 2, unit := r.unit / 512 * 512, sev := 3 }
  | 2 => { r with domain := 3, unit := 0, sev := 4 }
  | _ => { r with domain := 4, unit := 0, sev := 5 }

/-- Escalation of R447: raise while the test succeeds, to the module at most. Answers the record and whether it was raised. -/
def State.escalate (s : State) : Nat → Rec → Bool → Rec × Bool
  | 0, r, raised => (r, raised)
  | k + 1, r, raised =>
    if recTested r raised && decide (r.domain < 4) && s.escalates r raised then s.escalate k (raiseRec r) true
    else (r, raised)

/-- SCOPE of a record (R443). -/
def recScope (r : Rec) : Nat := if r.custOnly then 2 else if r.part.isSome then 1 else 0

/-- The four words of a record (R443). -/
def recWords (s : State) (r : Rec) (esc : Bool) (seq : Nat) : List W64 :=
  [BitVec.ofNat 64 (seq * 2 ^ 32 + r.sev * 2 ^ 29 + bitNat esc * 2 ^ 28 + r.domain * 2 ^ 25 + recScope r * 2 ^ 23
     + (r.part.getD 0) * 2 ^ 19 + r.kind * 2 ^ 12 + r.job % 4096),
   BitVec.ofNat 64 s.tick,
   BitVec.ofNat 64 ((s.t % 2 ^ 20) * 2 ^ 44 + (r.sub % 256) * 2 ^ 36 + r.unit % 2 ^ 32),
   BitVec.ofNat 64 r.detail]

/-- Can host port p read a record of this first word (R452)? -/
def State.portSees (s : State) (p : Nat) (w0 : W64) : Bool :=
  match bitsOf w0.toNat 23 2 with
  | 0 => true
  | 1 => s.portOwns p (bitsOf w0.toNat 19 4)
  | _ => false

/-- Offset of an accessor's own instance of a register (SH queries, CT_ANNOUNCE, IN_ERR_HEAD, IN_NOTIFY): host ports 0 to 3,
the custodian 4 (R280, R452). -/
def instOff (acc o : Nat) : Nat := 0x10000000 * (acc + 1) + o

/-- Does ring entry e hold a record the custodian has not mirrored (R450)? -/
def State.entryHeld (s : State) (e : Nat) : Bool :=
  let w := (s.reg (inErrRecordReg (4 * e))).toNat
  decide (bitsOf w 29 3 ≠ 0) && decide ((bitsOf w 32 32 + 2 ^ 32 - s.fld inErrStatMirror) % 2 ^ 32 < 2 ^ 31)

/-- Write four words at consecutive registers from an offset. -/
def State.setWords (s : State) (o : Nat) (ws : List W64) : State :=
  (ws.zipIdx).foldl (fun s e => s.setReg (o + 8 * e.2) e.1) s

/-- Put a record into the queue: its entry, or IN_ERR_LAST when the entry still holds an unmirrored record (R450). -/
def State.enqueue (s : State) (ws : List W64) : State :=
  let seq := s.fld inErrHeadWr
  let s := s.setFld inErrHeadWr (seq + 1)
  if s.entryHeld (seq % 128) then
    let s := (s.setWords (inErrLastReg 0) ws).incSat inErrStatOverflow 1
    { s with ig := { s.ig with lastHeld := true } }
  else ((s.setWords (inErrRecordReg (4 * (seq % 128))) ws).incSat inErrStatPending 1)

/-- Vector 0 of a port's PF fires (R325): once in the model's record of vectors sent. -/
def State.fireMsix (s : State) (p v : Nat) : State := { s with sv := { s.sv with msix := (p, v) :: s.sv.msix } }

/-- Notification of R452: at once for PARTITION_FATAL and MODULE_FATAL, else in the guard band. -/
def State.notify (s : State) (w0 : W64) (sev : Nat) : State :=
  (List.range 4).foldl (fun s p =>
    let m := bitsOf (s.reg (instOff p 0x600010)).toNat 0 3
    if decide (m ≠ 0) && decide (m ≤ sev) && s.portSees p w0 then
      if 4 ≤ sev then s.fireMsix p 0
      else if p ∈ s.ig.notify then s else { s with ig := { s.ig with notify := p :: s.ig.notify } }
    else s) s

/-- Every core of a cluster sets its poison latch until the next boundary (R447); engine jobs not yet complete write poisoned. -/
def State.latchCluster (s : State) (l : Nat) : State :=
  let s := (List.range 32).foldl (fun s k => s.setLatch (32 * l + k)) s
  s.modXe l fun x => { x with running := x.running.map fun j => { j with poisonAll := true },
                              queue := x.queue.map fun j => { j with poisonAll := true } }

/-- Mark a logical core SUSPECT (R30, R447): NORMAL becomes SUSPECT. -/
def State.suspectCore (s : State) (c : Nat) : State :=
  if s.fld (clRemapState (c / 32) (c % 32)) = 0 then s.setFld (clRemapState (c / 32) (c % 32)) 1 else s

/-- What a raised record does by the level it reached, and what a FATAL severity does (R447, R448, R449). -/
def State.recAct (s : State) (r : Rec) (raised : Bool) : State :=
  let s := if raised then
      match r.domain with
      | 1 => s.suspectCore (r.unit / 512 * 32 + r.unit % 512)
      | 2 => s.latchCluster (r.unit / 512)
      | _ => s
    else s
  let s := if raised then (match r.part with | some n => s.incSat (inPartStateRaised n) 1 | none => s) else s
  if r.sev = 4 then
    match r.part with
    | some n =>
      let s := s.incSat (inPartStateFatals n) 1
      if n ∈ s.ig.partFatal then s else { s with ig := { s.ig with partFatal := n :: s.ig.partFatal } }
    | none => s
  else if r.sev = 5 then { s with ig := { s.ig with fatalNow := true } }
  else s

/-! The accession log and ALERT_N (R530 to R532, R538). -/

/-- An ALERT_N event is pending (R538): 1 a record, 2 a shutdown cause, 3 a KIND 25 entry, 4 a boot step. -/
def State.alert (s : State) (cause : Nat) : State :=
  { s with cu := { s.cu with
    alertN := true
    events := cause :: s.cu.events
    alerts := if cause ∈ s.cu.alerts then s.cu.alerts else s.cu.alerts ++ [cause] } }

/-- Bytes 0 to 59 of an accession-log entry (R531). -/
def LogEntry.body (e : LogEntry) : List Byte :=
  e.record.foldl (fun a w => a ++ leBytes 8 w.toNat) [] ++ leBytes 4 e.lseq ++ leBytes 4 e.boot ++ leBytes 8 e.uptime
    ++ leBytes 8 e.wall ++ leBytes 4 0

/-- Seconds since 1970 as the custodian keeps them; 0 if never set (R531). -/
def State.wallNow (s : State) : Nat := match s.cu.wall with | some (sec, at_) => sec + (s.now - at_) / 1000000000 | none => 0

/-- Append an entry to the accession log: at LSEQ mod 425,984, and in the shutdown ring at LSEQ mod 64 when its SEV is MODULE_FATAL (R531,
R532). -/
def State.addLog (s : State) (ws : List W64) : State :=
  let em := s.cu.em
  let e : LogEntry := { record := ws, lseq := em.lseq, boot := em.boots, uptime := (s.now - s.cu.bootAt) / 1000, wall := s.wallNow, crc := 0 }
  let e := { e with crc := crc32c e.body }
  let i := em.lseq % 425984
  let ring := if bitsOf (ws.getD 0 0).toNat 29 3 = 5 then tabInsert (tabErase em.shutdown (em.lseq % 64)) (em.lseq % 64) e else em.shutdown
  let em := { em with log := tabInsert (tabErase em.log i) i e, shutdown := ring, lseq := (em.lseq + 1) % 2 ^ 32 }
  { s with cu := { s.cu with em } }

/-- A record that the custodian makes itself (R531): SEQ 0xFFFF_FFFF, in the accession log and not in the record queue. -/
def State.custRecord (s : State) (r : Rec) : State :=
  let s := s.addLog (recWords s r false 0xFFFFFFFF)
  if r.kind = 25 then s.alert 3 else if s.cu.alertSev ≤ r.sev then s.alert 1 else s

/-- A record of KIND 25 INPUT (R545): in the custodian's domain, or the thermal unit's. -/
def State.inputRecord (s : State) (type sev sub detail : Nat) : State :=
  s.custRecord { sev, kind := 25, sub, domain := 5, unit := unitOf type 0, detail }

/-- Post a record: test for escalation, give it its SEQ, queue it, open it, act on it (R446, R447, R450, R451, R452). -/
def State.post (s : State) (r : Rec) : State :=
  let e := if r.test then s.escalate 5 r false else (r, false)
  let r' := e.1
  let ws := recWords s r' e.2 (s.fld inErrHeadWr)
  let opens := decide (3 ≤ r'.sev) && recTested r e.2
  let s := s.enqueue ws
  let s := s.notify (ws.getD 0 0) r'.sev
  let s := if s.cu.alertSev ≤ r'.sev then s.alert 1 else s
  let s := if opens then { s with ig := { s.ig with open_ := s.ig.open_ ++
      [{ sev := r'.sev, domain := r'.domain, unit := r'.unit, part := r'.part, tick := s.tick, cycle := s.now, raised := e.2 }] } }
    else s
  s.recAct r' e.2

/-- Records of one cycle that belong to no common group, in ascending DOMAIN and then UNIT (R447). -/
def State.postAll (s : State) (l : List Rec) : State :=
  (sortBy (fun r => r.domain * 2 ^ 32 + r.unit) l).foldl State.post s

/-- A record in a logical core's domain. -/
def recCore (s : State) (c sev kind detail : Nat) : Rec :=
  { sev, kind, domain := 1, unit := unitCore c, job := (s.cs c).job.toNat, detail, part := s.partOf (c / 32) }

/-- A record in a logical cluster's domain, charged to a job. -/
def recCluster (s : State) (l sev kind sub job detail : Nat) : Rec :=
  { sev, kind, sub, domain := 2, unit := unitCluster l, job, detail, part := s.partOf l }

/-- An ACCESS record of a core's access under R16, R99, R118, R135 or R145 (R572): SUB is the rule's place in R445. -/
def recAccess (s : State) (c sub addr : Nat) : Rec :=
  recCluster s (c / 32) 3 8 sub (s.cs c).job.toNat (addr % 2 ^ 40)

/-- An accessor's own instance of a register: host ports 0 to 3 (a VF's accesses go through its port), the custodian 4. -/
def accNum : Accessor → Nat
  | .custodian => 4
  | .host p => p.val
  | .vf p _ => p.val

/-- May the accessor see a partition (R280)? -/
def State.accSees (s : State) (acc : Accessor) (n : Nat) : Bool :=
  match acc with
  | .custodian => true
  | .host p => s.portOwns p n
  | .vf _ _ => false

/-- An ACCESS record of an accessor of control space (R572): a host port's in its lowest-numbered partition, or the custodian's alone when it owns
none; the custodian's own in its mirror alone. -/
def recAccessor (s : State) (acc : Accessor) (sev sub detail : Nat) : Rec :=
  let host (p : Nat) : Rec :=
    let own := (s.partsOf p).head?
    { sev, kind := 8, sub, domain := 5, unit := unitOf 1 p, detail, part := own, custOnly := own.isNone }
  match acc with
  | .custodian => { sev, kind := 8, sub, domain := 5, unit := unitOf 6 0, detail, custOnly := true }
  | .host p => host p
  | .vf p _ => host p

/-- An access through a port's window that R50 hides (R51): a NOTE record. -/
def State.hiddenAccess (s : State) (acc : Accessor) (o : Nat) : State :=
  match acc with
  | .host _ => s.post (recAccessor s acc 1 2 o)
  | _ => s

/-- First device address of control space (R16). -/
def controlBase : Nat := 0xC000000000

/-- An access to an unmapped address of control space: beyond its end, or in the register window of an UNAVAILABLE cluster (R16, R28). -/
def State.unmappedAccess (s : State) (acc : Accessor) (off : Nat) : State := s.post (recAccessor s acc 3 1 (controlBase + off))

end Sys2Proof.Machine
end

