-- ==== Sys2Proof/Machine/Flags.lean ====
section
/-! DEFINITION. A core's flags and what sets them: the poison latch, SAT, overruns; the token counters and the cores that wait on
them; the end of a core's tick (R105, R111, R119 to R126, R136). -/
namespace Sys2Proof.Machine
open Sys2Proof

/-- Has the core's current job overrun on it in this tick (OVR of CS_FLAGS)? -/
def State.ovr (s : State) (c : Nat) : Bool := decide ((s.cs c).job.toNat ∈ (s.cs c).ovrJobs)

/-- CS_FLAGS (R136): bit 0 LATCH, bit 1 SAT, bit 2 OVR. -/
def State.csFlags (s : State) (c : Nat) : Nat :=
  bitNat (s.cs c).latch + 2 * bitNat (s.cs c).sat + 4 * bitNat (s.ovr c)

/-- Set SAT of a core (R102, R105, R181). -/
def State.setSat (s : State) (c : Nat) : State := s.modCore c fun k => { k with sat := true }

/-- CL_OVERRUN takes in an overrun of core c, of a kind and a job (R126). -/
def State.showOverrun (s : State) (c kind j : Nat) : State :=
  let l := c / 32
  (((((s.setFlag (clOverrunNew l) true).setFld (clOverrunLastJob l) j).setFld (clOverrunLastKind l) kind).setFld
    (clOverrunLastCore l) (c % 32)).setFld (clOverrunLastTick l) s.tick20).incSat (clOverrunCount l) 1

/-- A tick overrun of job j on a core (R126): kind 1 HARD_POINT, 2 TOKEN_DEADLINE, 3 GUARD_BAND. The latch is set when the job is the
core's current one, the overrun is kept for CL_OVERRUN, which reports it when the tick is completed (R138), and one record is posted for each
job of the core in each tick; `test` is clear for a later record of a group (R445). -/
def State.overrunJob (s : State) (c kind j : Nat) (test : Bool) : State :=
  let s := if (s.cs c).job.toNat = j then s.setLatch c else s
  let s := { s with cl := { s.cl with overruns := (c, kind, j) :: s.cl.overruns } }
  if j ∈ (s.cs c).ovrJobs then s
  else (s.modCore c fun k => { k with ovrJobs := j :: k.ovrJobs }).post { recCore s c 3 1 kind with job := j, test }

/-- A tick overrun of a core's current job. -/
def State.overrun (s : State) (c kind : Nat) : State := s.overrunJob c kind (s.cs c).job.toNat true

/-- A core reaches a hard point due at a time (R123): its slack is kept for CL_SLACK; a late one is a HARD_POINT overrun. -/
def State.hardPoint (s : State) (c due : Nat) : State :=
  if s.t ≤ due then
    s.modCore c fun k => { k with slack := some (match k.slack with | none => due - s.t | some x => Nat.min x (due - s.t)) }
  else s.overrun c 1

/-- A core whose next instruction lies at or beyond the end of its image issues nothing further in the tick, and its latch is set (R111,
R573). -/
def CoreSt.onward (k : CoreSt) : CoreSt :=
  if k.run = .executing ∧ k.imgLen / 4 ≤ k.ia then { k with run := .imageEnd, latch := true } else k

/-- The core turns to its next instruction. -/
def State.onward (s : State) (c : Nat) : State := s.modCore c CoreSt.onward

/-- A core that waited goes on to its next instruction. -/
def State.goOn (s : State) (c : Nat) : State := s.modCore c fun k => { k with run := .executing }.onward

/-- A core that waits on token counter k resumes when COUNT has reached n by its deadline (R120). -/
def State.wakeToken (s : State) (l k c : Nat) : State :=
  match (s.cs c).run with
  | .waiting (.twait k' n d) =>
    if k' = k ∧ n ≤ s.fld (clTokenCount l k) ∧ s.t ≤ d then
      let s := s.goOn c
      if s.flag (clTokenPoison l k) then s.setLatch c else s
    else s
  | _ => s

/-- Signal counter k of cluster l: COUNT adds n and saturates; a poisoned signal sets POISON (R119, R121). -/
def State.signal (s : State) (l k n : Nat) (p : Bool) : State :=
  let s := s.incSat (clTokenCount l k) n
  let s := if p then s.setFlag (clTokenPoison l k) true else s
  (List.range 32).foldl (fun s i => s.wakeToken l k (32 * l + i)) s

/-- Products of core c that have not released, over its sixteen crossbars (R124). -/
def State.productsOut (s : State) (c : Nat) : Bool :=
  (List.range 16).any fun j =>
    let x := s.xrun (512 * (c / 32) + 16 * (c % 32) + j)
    x.conv.isSome || x.queued.isSome || x.stalled.isSome || x.out.isSome || x.held.isSome

/-- Transfers the core posted that have not left the cluster (R124). DESIGN CHOICE (log entry 97): a transfer has left when its slot has opened, since
its bytes are read then (log entry 21). -/
def State.transfersOut (s : State) (c : Nat) : Bool := (s.cs c).posted.any fun e => decide (e.1 ∉ s.cl.opened)

/-- A core in TEND or WAIT ends once its products have released and its transfers have left (R124): after TEND it idles, after
WAIT it is parked for a power-state request. -/
def State.settleEnd (s : State) (c : Nat) : State :=
  match (s.cs c).run with
  | .waiting .tend => if s.productsOut c || s.transfersOut c then s else s.modCore c fun k => { k with run := .ended }
  | .waiting .powerWait =>
    if s.productsOut c || s.transfersOut c then s else s.modCore c fun k => { k with run := .parked }
  | _ => s

/-- Every core of a cluster that waits in TEND or WAIT is looked at again. -/
def State.settleCluster (s : State) (l : Nat) : State :=
  (List.range 32).foldl (fun s i => s.settleEnd (32 * l + i)) s

/-- A core held by XSYNC resumes when its crossbar has nothing unreleased (R106); one held by XISSUE when its issue has room (R73). -/
def State.wakeXb (s : State) (c x : Nat) : State :=
  match (s.cs c).run with
  | .waiting (.xsync y) =>
    let r := s.xrun x
    if y = x ∧ r.conv = none ∧ r.queued = none ∧ r.out = none ∧ !(r.held.isSome && r.heldLast) then s.goOn c else s
  | .waiting (.xissue y) =>
    if y = x ∧ (s.xrun x).stalled = none then s.goOn c else s
  | _ => s

end Sys2Proof.Machine
end

