-- ==== Sys2Proof/Machine/Operands.lean ====
section
/-! DEFINITION. Operand forms of a core's instructions: register operands, effective addresses, range checks, poison, loads and
stores (R98, R99, R109, R111, R112, R143). -/
namespace Sys2Proof.Machine
open Sys2Proof

/-- Effective address of base + offset; it never wraps (R99), so it may lie outside every memory. -/
def effAddr (base off : W64) : Int := (base.toNat : Int) + off.toInt

/-- Does an extent of n bytes lie within a memory of the size? -/
def inExtent (a : Int) (n size : Nat) : Bool := decide (0 ≤ a) && decide (a + n ≤ size)

/-- Second operand of a scalar operation and its poison. -/
def State.srcVal (s : State) (c : Nat) : Src → W64 × Bool
  | .reg r => (s.gpr c r, s.gprP c r)
  | .imm v => (v, false)

/-- Bytes a register operand moves: 8 for a general register, 32 for a vector register (R98; log entry 3). -/
def regSize : RegRef → Nat
  | .g _ => 8
  | .v _ => 32

/-- A register's bytes, least significant first (R11). -/
def State.regBytes (s : State) (c : Nat) : RegRef → List Byte
  | .g r => leBytes 8 (s.gpr c r).toNat
  | .v r => leBytes 32 (s.vr c r).toNat

/-- A register's poison bit. -/
def State.regP (s : State) (c : Nat) : RegRef → Bool
  | .g r => s.gprP c r
  | .v r => s.vrP c r

/-- Load bytes into a register with a poison bit. -/
def State.loadReg (s : State) (c : Nat) (r : RegRef) (d : List Byte) (p : Bool) : State :=
  match r with
  | .g r => s.setGpr c r (BitVec.ofNat 64 (leNat d)) p
  | .v r => s.setVr c r (BitVec.ofNat 256 (leNat d)) p

/-- A load that is not performed returns a poisoned register; its value is free (R99, R111; log entry 5). -/
def State.loadPoisoned (s : State) (c : Nat) (r : RegRef) : State :=
  let v (i : Nat) : Nat := (Config.freeWord (s.free + i)).toNat
  (s.loadReg c r (leBytes 32 (v 0 + 2 ^ 64 * v 1 + 2 ^ 128 * v 2 + 2 ^ 192 * v 3)) true).draw 4

/-- A disagreement of the two address computations of a core (R112): latch, ADDR_GEN record; a second one within 1,048,576 ticks
marks the core suspect. -/
def State.addrDisagree (s : State) (c : Nat) (a : Nat) : State :=
  let again := match (s.cs c).agTick with | some k => decide (s.tick - k ≤ 1048576) | none => false
  let s := (s.setLatch c).post (recCore s c 3 4 (a % 2 ^ 40))
  let s := s.modCore c fun k => { k with agTick := some s.tick }
  if again then s.suspectCore c else s

/-- An access a core may not make (R99, R145): latch and ACCESS record. -/
def State.refuseAccess (s : State) (c sub a : Nat) : State := (s.setLatch c).post (recAccess s c sub a)

/-- The bit errors a read of a cluster-memory range meets (R143): a corrected one is counted and reported; an uncorrectable one marks its word
poisoned and is reported against the job that reads. -/
def State.readErrors (s : State) (l job a n : Nat) : State :=
  (wordsOf (clMem l + a) n).foldl (fun s w =>
    match tabFind s.mem.upset w with
    | none => s
    | some u =>
      let s := s.clearUpsets [w]
      let d := 2 ^ 60 + (64 * w) % 2 ^ 40
      match u with
      | .corrected =>
        let s := { s with cl := { s.cl with ecc := tabSet 0 s.cl.ecc l (tabGet 0 s.cl.ecc l + 1) } }
        s.post (recCluster s l 2 5 0 job d)
      | .uncorrectable => (s.setMarks [w] true).post (recCluster s l 3 5 0 job d)) s

/-- The same for a core's data scratch, in the core's domain (R429, R445). -/
def State.scratchErrors (s : State) (c a n : Nat) : State :=
  (wordsOf (65536 * c + a) n).foldl (fun s w =>
    match tabFind s.core.scratchUpset w with
    | none => s
    | some u =>
      let s := { s with core := { s.core with scratchUpset := tabErase s.core.scratchUpset w } }
      let d := 2 * 2 ^ 60 + (64 * w) % 65536
      match u with
      | .corrected => s.post (recCore s c 2 5 d)
      | .uncorrectable =>
        { s with core := { s.core with scratchPoison := tabSet false s.core.scratchPoison w true } }.post (recCore s c 3 5 d)) s

/-- First byte of a cluster's cell pool and the byte past it, as offsets (R144). -/
def State.poolRange (s : State) (l : Nat) : Nat × Nat :=
  let b := s.fld (qmPoolCfgBase l)
  (b * 0x20000, (b + s.fld (qmPoolCfgBanks l)) * 0x20000)

/-- Does an extent touch the cell pool (R145)? -/
def State.aimsPool (s : State) (l a n : Nat) : Bool :=
  let r := s.poolRange l
  decide (0 < n) && decide (a < r.2) && decide (r.1 < a + n)

/-- The outcome of the checks on a memory access of a core (R99, R111, R112): the extent's first byte, or the state after a refusal. -/
def State.checkAccess (s : State) (c : Nat) (baseP agree : Bool) (a : Int) (n size : Nat) : Except State Nat :=
  if baseP then .error (s.setLatch c)
  else if !agree then .error (s.addrDisagree c a.toNat)
  else if inExtent a n size then .ok a.toNat
  else .error (s.refuseAccess c 7 a.toNat)

end Sys2Proof.Machine
end

