-- ==== Sys2Proof/Machine/Control.lean ====
section
/-! DEFINITION. Control space: what a read returns, and what a write does by access type (R12 to R15), the power-state request of
CL_PSTATE (R137), and a core's control accesses. -/
namespace Sys2Proof.Machine
open Sys2Proof

/-- Is CARDOR the synchronisation mode (CT_SYNC_MODE)? -/
def State.cardor (s : State) : Bool := decide (s.fld ctSyncModeMode = 2)

/-- MODE of CT_SYNC_MODE: 0 STANDALONE, 1 NATIVE, 2 CARDOR, 3 BRIDGE. -/
def State.syncMode (s : State) : Nat := s.fld ctSyncModeMode

/-- Do ticks wrap at 32 bits here (R415)? A bridge's counter follows the Cardor one (R419). -/
def State.tickWrap (s : State) : Nat := if s.syncMode = 2 ∨ s.syncMode = 3 then 2 ^ 32 else 2 ^ 64

/-- Number of the next tick. -/
def State.nextTick (s : State) : Nat := (s.tick + 1) % s.tickWrap

/-- Has a target tick come when tick n begins (R415)? -/
def State.tickBy (s : State) (tgt n : Nat) : Bool :=
  decide ((n % s.tickWrap + s.tickWrap - tgt % s.tickWrap) % s.tickWrap < s.tickWrap / 2)

/-- Is a tick number the present one or one before it (R415)? -/
def State.tickReached (s : State) (tgt : Nat) : Bool := s.tickBy tgt s.tick

/-- Has a target tick come when the next tick begins (R415)? -/
def State.tickDue (s : State) (tgt : Nat) : Bool :=
  s.tickBy tgt s.nextTick

/-- CT_TICK_NOW as its register shows it. -/
def State.tickShown (s : State) : Nat := if s.cardor then s.tick % 2 ^ 32 else s.tick % 2 ^ 64

/-- RIGHTS of debug as it stands: both before BT_LOCK, then those of the token in force (R539). -/
def State.debugRights (s : State) : Nat := if !(s.flag btLockLock) then 3 else match s.cu.token with | some t => t.1 | none => 0

/-- Is debug open (R539)? -/
def State.debugOpen (s : State) : Bool := !(s.flag btLockLock) || s.cu.token.isSome

/-- DB_TOKEN as it reads now. -/
def State.showDebug (s : State) : State :=
  let left := match s.cu.token with | some t => ceilDiv (t.2.1 - s.now) 1000000000 | none => 0
  let s := (s.setFlag dbTokenOpen s.debugOpen).setFlag dbTokenPreLock (!(s.flag btLockLock))
  (s.setFld dbTokenRights s.debugRights).setFld dbTokenRemain left

/-- What a read of a register returns (R12): write-only bits read 0, RWT bits the most recently written value. -/
def State.readReg (s : State) (o : Nat) : W64 :=
  if o = ctTickNowReg then BitVec.ofNat 64 s.tickShown
  else if o = dbTokenReg then s.showDebug.reg o
  else match regAt o with
    | none => 0
    | some d =>
      let v := s.reg o &&& ~~~(BitVec.ofNat 64 d.wo)
      match tabFind s.rwt o with
      | none => v
      | some p => (v &&& ~~~(BitVec.ofNat 64 d.rwt)) ||| (p &&& BitVec.ofNat 64 d.rwt)

/-- A write of a register by the access type of each bit (R12, R13, R15), limited to the bits the writer may change: RW at
once, W1C clears, RWL while BT_LOCK is clear, RWT held for the next boundary; RO, reserved and WO bits hold nothing. -/
def State.writeTyped (s : State) (o : Nat) (v mask : W64) : State :=
  match regAt o with
  | none => s
  | some d =>
    let lock := s.flag btLockLock
    let m := (BitVec.ofNat 64 d.rw ||| (if lock then 0 else BitVec.ofNat 64 d.rwl)) &&& mask
    let r := s.reg o
    let r := ((r &&& ~~~m) ||| (v &&& m)) &&& ~~~(v &&& BitVec.ofNat 64 d.w1c &&& mask)
    let s := s.setReg o r
    let t := BitVec.ofNat 64 d.rwt &&& mask
    if t = 0 then s
    else
      let old := (tabFind s.rwt o).getD (s.reg o)
      { s with rwt := tabInsert (tabErase s.rwt o) o ((old &&& ~~~t) ||| (v &&& t)) }

/-- MODULE of FB_COORD and NATIVE_MODULE of FB_BRIDGE_ID follow the coordinates (R387, R420). -/
def State.showNumbers (s : State) : State :=
  let s := s.setFld fbCoordModule (s.fld fbCoordX + 16 * s.fld fbCoordY + 256 * s.fld fbCoordZ)
  s.setFld fbBridgeIdNativeModule (s.fld fbBridgeIdNx + 16 * s.fld fbBridgeIdNy + 256 * s.fld fbBridgeIdNz)

/-- RWT values take effect at the boundary (R284). -/
def State.applyRwt (s : State) : State :=
  let s' := s.rwt.foldl (fun s e =>
    match regAt e.1 with
    | none => s
    | some d => s.setReg e.1 ((s.reg e.1 &&& ~~~(BitVec.ofNat 64 d.rwt)) ||| (e.2 &&& BitVec.ofNat 64 d.rwt))) s
  { s' with rwt := [] }

/-- A write of CL_PSTATE (R137, R501): MODE and RETAIN; a write of MODE 0 starts the exit time of the cluster, a later one does not put it off.
DESIGN CHOICE (log entry 92): a write of another MODE before that time has passed withdraws the wake. -/
def State.requestPower (s : State) (l : Nat) (v : W64) : State :=
  let s := s.writeTyped (clPstateReg l) v (BitVec.allOnes 64)
  if bitsOf v.toNat 0 2 = 0 then
    if (tabFind s.pw.wake l).isSome then s else { s with pw := { s.pw with wake := tabInsert s.pw.wake l s.now } }
  else { s with pw := { s.pw with wake := tabErase s.pw.wake l } }

/-- A write in a cluster's window by one that may write all its fields: a core of the cluster, a port that owns it, the custodian
(R50, R138, R166, R201). -/
def State.writeCluster (s : State) (l o : Nat) (v : W64) : State :=
  if o = clPstateReg l then s.requestPower l v else s.writeTyped o v (BitVec.allOnes 64)

/-- A core reads a register of its window (R99, R101): the offset must lie in the 64 KiB window; an unaligned one reads 0 (log
entry 3). -/
def State.ctlRead (s : State) (c : Nat) (a : Nat) : W64 := if a % 8 = 0 then s.readReg (clBase (c / 32) + a) else 0

end Sys2Proof.Machine
end

