-- ==== Sys2Proof/Machine/Numeric.lean ====
section
/-! DEFINITION. The arithmetic of a crossbar product: slices, phases, range codes, conversion, residues, the partial sums, the
index check and the verdict (R56 to R88, R431, R432). -/
namespace Sys2Proof.Machine
open Sys2Proof

/-- Slices S_a of an input format (R60). -/
def sliceCount : InFmt → Nat
  | .uint8 | .int8 => 4
  | .uint4 | .int4 => 2

/-- Bytes of a 512-element vector (R59). -/
def vecBytes : InFmt → Nat
  | .uint8 | .int8 => 512
  | .uint4 | .int4 => 256

/-- Element r of an input vector (R59, R60). -/
def element (f : InFmt) (v : List Byte) (r : Nat) : Int :=
  match f with
  | .uint8 => (v.getD r 0).toNat
  | .int8 => (v.getD r 0).toInt
  | .uint4 => bitsOf (v.getD (r / 2) 0).toNat (4 * (r % 2)) 4
  | .int4 => signed 4 (bitsOf (v.getD (r / 2) 0).toNat (4 * (r % 2)) 4)

/-- Slice i of an element's magnitude (R60). -/
def sliceOf (x : Int) (i : Nat) : Nat := bitsOf x.natAbs (2 * i) 2

/-- Slices S_w of a precision code PREC 1 to 3 (R56). -/
def weightSlices (prec : Nat) : Nat := prec

/-- Weight columns K_w of a precision code (R56); 0 for an empty slot. -/
def weightCols (prec : Nat) : Nat := match prec with | 1 => 512 | 2 => 256 | 3 => 170 | _ => 0

/-- One phase of one slice: its driven rows, its activity A_p and its number within the slice (R64). -/
structure Phase where
  slice : Nat
  num : Nat
  rows : List Nat
  act : Nat
deriving DecidableEq, Repr

/-- Greedy phase assignment of R64 over the rows with non-zero slice value. -/
def splitRows (i : Nat) : List (Nat × Nat) → Nat → List Nat → Nat → List Phase
  | [], num, rows, acc => if acc = 0 then [] else [⟨i, num, rows.reverse, acc⟩]
  | (r, a) :: rest, num, rows, acc =>
    if acc + a > 384 then ⟨i, num, rows.reverse, acc⟩ :: splitRows i rest (num + 1) [r] a
    else splitRows i rest num (r :: rows) (acc + a)

/-- The phases of slice i of a vector (R62 to R64). -/
def slicePhases (f : InFmt) (v : List Byte) (i : Nat) : List Phase :=
  splitRows i (((List.range 512).map fun r => (r, sliceOf (element f v r) i)).filter fun e => decide (e.2 ≠ 0)) 0 [] 0

/-- All phases of a vector, slices ascending: one conversion period each (R67, R72). -/
def vecPhases (f : InFmt) (v : List Byte) : List Phase :=
  (List.range (sliceCount f)).foldl (fun l i => l ++ slicePhases f v i) []

/-- Range code h_p (R66). -/
def rangeCode (a : Nat) : Nat := (a + 23) / 24

/-- Column number of index column g and of reference column g among the 528 (R458). -/
def idxCol (g : Nat) : Nat := 512 + g
/-- See `idxCol`. -/
def refCol (g : Nat) : Nat := 520 + g

/-- Charge of a column in a phase (R61), over a function giving the level of (row, column). -/
def columnCharge (level : Nat → Nat → Nat) (f : InFmt) (v : List Byte) (p : Phase) (c : Nat) : Int :=
  p.rows.foldl (fun q r =>
    let x := element f v r
    let m : Int := (sliceOf x p.slice * level r c : Nat)
    if x < 0 then q - m else q + m) 0

/-- The ideal code of a charge at range h (R70). -/
def idealCode (q : Int) (h : Nat) : Int := clamp (-64) 63 (divRNE (q * 7) (40 * h))

/-- The code a conversion gives: the ideal code with the departure of residual and read noise (R70, R94; log entry 4). -/
def actualCode (q : Int) (h err : Nat) : Int := clamp (-64) 63 (idealCode q h + Config.convError err)

/-- Corrected value v_c in 1/16 LSB (R75). -/
def correctedValue (code g o : Int) : Int := divRNE (code * (4096 + g)) 256 - o

/-- G_RES and O_RES of a column word (R458). -/
def gRes (w : BitVec 32) : Int := signed 8 (bitsOf w.toNat 13 8)
/-- See `gRes`. -/
def oRes (w : BitVec 32) : Int := signed 6 (bitsOf w.toNat 21 6)

/-- Codes of all 528 columns in a conversion period; `base` numbers the free values of the period's conversions. -/
def periodCodes (level : Nat → Nat → Nat) (f : InFmt) (v : List Byte) (p : Phase) (base : Nat) : List Int :=
  (List.range 528).map fun c => actualCode (columnCharge level f v p c) (rangeCode p.act) (base + c)

/-- Corrected values of all 528 columns. -/
def periodValues (corr : Nat → BitVec 32) (codes : List Int) : List Int :=
  codes.zipIdx.map fun e => correctedValue e.1 (gRes (corr e.2)) (oRes (corr e.2))

/-- The difference Δ_g of R80. -/
def groupDelta (vals : List Int) (g : Nat) : Int :=
  sumInt ((List.range 64).map fun j => vals.getD (64 * g + j) 0) - 64 * vals.getD (idxCol g) 0

/-- The smallest k with k² · d ≥ n (d > 0). -/
def ceilSqrtRatio (n d : Nat) : Nat :=
  let r := isqrt (n / d)
  if n ≤ r * r * d then r else r + 1

/-- Tolerance τ16 of R81, in 1/16 LSB rounded up, from QUALITY in 4.4 (q = Q / 16), A_p and h_p: 16 τ is
√(65 Q² + 1497.6) + 7 A_p / (5 h_p). -/
def tolerance16 (quality act h : Nat) : Nat :=
  ceilDiv (7 * act + ceilSqrtRatio (25 * h * h * (650 * quality * quality + 14976)) 10) (5 * h)

/-- Codes of −64 among the 66 columns of group g (R88). -/
def underrange (codes : List Int) (g : Nat) : Nat :=
  ((List.range 64).map (fun j => 64 * g + j) ++ [idxCol g, refCol g]).countP fun c => decide (codes.getD c 0 = -64)

/-- Does group g fail its check (R81, R88)? A disabled group is not checked (R83). -/
def groupFails (codes vals : List Int) (quality idxOff : Nat) (p : Phase) (g : Nat) : Bool :=
  !(bitOf idxOff g) &&
    (decide ((groupDelta vals g).natAbs > 64 * tolerance16 quality p.act (rangeCode p.act)) || decide (0 < underrange codes g))

/-- One period's term of T[k] (R77): 4^i · h · z. -/
def periodTerm (sw : Nat) (vals : List Int) (p : Phase) (k : Nat) : Int :=
  let top := sw * k + sw - 1
  let z := sumInt ((List.range sw).map fun j => (16 ^ j : Int) * vals.getD (sw * k + j) 0)
  (4 ^ p.slice : Int) * (rangeCode p.act : Int) * (z - (16 ^ (sw - 1) : Int) * vals.getD (refCol (top / 64)) 0)

/-- out[k] from T[k] (R77). -/
def outOf (t : Int) : Int := satSigned 32 (divRNE (5 * t) 14)

/-- Group that holds the top-slice column of weight column k (R57). -/
def topGroup (sw k : Nat) : Nat := (sw * k + sw - 1) / 64

/-- Square of 80 h · σ_a of R432, times 100, from QUALITY in 4.4: 2500 Q² h² + 57600 h² + 588 A_p. -/
def sigmaA100 (quality act h : Nat) : Nat := 2500 * quality * quality * h * h + 57600 * h * h + 588 * act

/-- 80 h · D_d and 80 h · D_i of R432: the corrected values against the exact charges of the group's columns. -/
def verdictDiffs (vals : List Int) (charge : Nat → Int) (h g : Nat) : Int × Int :=
  let d (c : Nat) : Int := 5 * h * vals.getD c 0 - 14 * charge c
  (sumInt ((List.range 64).map fun j => d (64 * g + j)), d (idxCol g))

/-- The verdict of R432: 1 DATA_WRONG, 2 INDEX_WRONG, 3 BOTH_WRONG, 4 BOTH_WITHIN (codes of R445). -/
def verdictOf (quality act h : Nat) (dd di : Int) : Nat :=
  let s := sigmaA100 quality act h
  let dOk := decide (100 * dd.natAbs * dd.natAbs ≤ 4096 * s)
  let iOk := decide (100 * di.natAbs * di.natAbs ≤ 64 * s)
  if dOk then (if iOk then 4 else 2) else (if iOk then 1 else 3)

end Sys2Proof.Machine
end

