-- ==== Sys2Proof/Machine/Product.lean ====
section
/-! DEFINITION. The crossbar's product: start, queueing, conversion, index check, results, release (R59 to R88, R96, R104 to R106, R110,
R434). A logical crossbar is 512 × cluster + 16 × core + crossbar (R22). -/
namespace Sys2Proof.Machine
open Sys2Proof

/-- Level of a cell of a physical crossbar (R53, R58); columns 512 to 519 are index, 520 to 527 reference. -/
def State.level (s : State) (n r c : Nat) : Nat := (tabGet 0 s.xb.cells (270336 * n + 528 * r + c)).toNat

/-- Correction word in force of a column of a physical crossbar (R457, R458). -/
def State.corr (s : State) (n c : Nat) : BitVec 32 := tabGet 0 s.xb.corr (528 * n + c)

/-- Precision code and tier of a logical slot (XB_STAT). -/
def State.slotPrec (s : State) (x : Nat) : Nat := s.fld (xbStatPrec (xbCluster x) (xbSlot x))
/-- See `slotPrec`. -/
def State.slotTier (s : State) (x : Nat) : Nat := s.fld (xbStatTier (xbCluster x) (xbSlot x))

/-- Conversion periods a product's re-evaluations have taken (R85). -/
def redoCount (p : Product) : Nat := p.redo.length + p.settled.length

/-- When the next product on the crossbar may start (R72, R73). -/
def nextStart (p : Product) : Nat := p.t0 + 66 * Nat.max (p.need + redoCount p) p.reserved

/-- When the product releases (R72, R434). -/
def releaseTime (p : Product) : Nat := Nat.max (nextStart p + 16) p.earliest

/-- A product starts: its vector is latched, its phases formed, its free conversion values numbered (R62, R72, R96). -/
def State.startProduct (s : State) (x t0 : Nat) (p : Product) : State :=
  let s := s.scratchErrors p.core p.vecAddr (vecBytes p.fmt)
  let v := s.scratch p.core p.vecAddr (vecBytes p.fmt)
  let prec := s.slotPrec x
  let kind : ProductKind := if prec = 0 then .empty else if s.slotTier x = 2 then .fenced else .normal
  let need := if kind = .normal then (vecPhases p.fmt v).length else 0
  let p := { p with t0, vec := v, vecPoison := s.scratchP p.core p.vecAddr (vecBytes p.fmt), kind, need, prec, base := s.free }
  (s.modXrun x fun r => { r with conv := some p, heldLast := false }).draw (528 * need)

/-- An issue meets the crossbar (R73): it starts, queues behind the product in conversion, or stalls the core; `t0` of an issue that has
not started is the time of the issue. -/
def State.issueProduct (s : State) (x : Nat) (p : Product) : State :=
  let r := s.xrun x
  if r.conv = none then s.startProduct x s.t p
  else if r.queued = none then s.modXrun x fun r => { r with queued := some { p with t0 := s.t } }
  else (s.modXrun x fun r => { r with stalled := some { p with t0 := s.t } }).modCore p.core fun k => { k with run := .waiting (.xissue x) }

/-- First free value of a conversion period: its own, or that of its re-evaluation (R431). -/
def periodBase (p : Product) (k : Nat) : Nat := ((p.redo.lookup k).getD (p.base + 528 * k))

/-- Codes of a conversion period on the crossbar serving x, with the free values from a base. -/
def State.prodCodes (s : State) (x : Nat) (p : Product) (ph : Phase) (base : Nat) : List Int :=
  periodCodes (s.level (s.servingXb x)) p.fmt p.vec ph base

/-- Corrected values of a conversion period. -/
def State.prodValues (s : State) (x : Nat) (codes : List Int) : List Int := periodValues (s.corr (s.servingXb x)) codes

/-- Groups that fail the check of a conversion period (R80 to R84, R88). -/
def State.failGroups (s : State) (x : Nat) (ph : Phase) (codes vals : List Int) : List Nat :=
  (List.range 8).filter fun g =>
    groupFails codes vals (s.fld (xbStatQuality (xbCluster x) (xbSlot x))) (s.fld (xbStatIdxOff (xbCluster x) (xbSlot x))) ph g

/-- Count the failing checks of a period in XB_CHECK and show the last in XB_LAST_CHECK (R81, R88). DESIGN CHOICE (log entry 91): the eight
groups of a period are checked together and the spec gives them no order; the highest-numbered failing group counts as the most recent. -/
def State.countFails (s : State) (x : Nat) (ph : Phase) (vals : List Int) (fails : List Nat) : State :=
  let l := xbCluster x
  let k := xbSlot x
  let q := s.fld (xbStatQuality l k)
  let s := s.incSat (xbCheckCheckFails l k) fails.length
  match fails.getLast? with
  | none => s
  | some g =>
    let diff := clamp (-32767) 32767 ((groupDelta vals g).tdiv 64)
    ((((((s.setFld (xbLastCheckTick l k) s.tick20).setFld (xbLastCheckTol l k) (tolerance16 q ph.act (rangeCode ph.act))).setFld
      (xbLastCheckDiff l k) (pattern 16 diff)).setFld (xbLastCheckRange l k) (rangeCode ph.act - 1)).setFld
      (xbLastCheckPhase l k) ph.num).setFld (xbLastCheckSlice l k) ph.slice).setFld (xbLastCheckGroup l k) g

/-- Codes of −64 of a conversion period, over all eight groups (R88; log entry 91: a group whose check is disabled counts too). -/
def periodUnderrange (codes : List Int) : Nat := sumNat ((List.range 8).map (underrange codes))

/-- UNDERRANGE counts the codes of −64 of a conversion period (R88). -/
def State.countUnderrange (s : State) (x : Nat) (codes : List Int) : State :=
  s.incSat (xbCheckUnderrange (xbCluster x) (xbSlot x)) (periodUnderrange codes)

/-- UNDERRANGE counts the first conversions of the product's periods, among those given with their numbers (R88). -/
def State.countConverted (s : State) (x : Nat) (p : Product) (l : List (Phase × Nat)) : State :=
  l.foldl (fun s e => s.countUnderrange x (s.prodCodes x p e.1 (p.base + 528 * e.2))) s

/-- The phases of a product that converts, numbered by conversion period; none for a fenced or empty slot (R96). -/
def Product.periods (p : Product) : List (Phase × Nat) :=
  if p.kind = .normal then (vecPhases p.fmt p.vec).zipIdx else []

/-- The first conversion period from k on that fails its check and has not been dealt with, among the phases given. -/
def State.firstFail (s : State) (x : Nat) (p : Product) : Nat → List Phase → Option (Nat × Phase)
  | _, [] => none
  | k, ph :: r =>
    if (p.redo.lookup k).isSome ∨ k ∈ p.settled then s.firstFail x p (k + 1) r
    else
      let codes := s.prodCodes x p ph (periodBase p k)
      if s.failGroups x ph codes (s.prodValues x codes) = [] then s.firstFail x p (k + 1) r else some (k, ph)

/-- T[k] of every weight column (R77). -/
def State.partialSums (s : State) (x : Nat) (p : Product) : List Int :=
  let sw := weightSlices p.prec
  let terms := (vecPhases p.fmt p.vec).zipIdx.map fun e =>
    let vals := s.prodValues x (s.prodCodes x p e.1 (periodBase p e.2))
    (List.range (weightCols p.prec)).map (periodTerm sw vals e.1)
  terms.foldl (fun acc t => (acc.zip t).map fun e => e.1 + e.2) (List.replicate (weightCols p.prec) 0)

/-- The results of a product at release (R77, R79, R96, R195): out[k], or the exact results in place of a disputed group's, or
free values for a fenced slot. -/
def State.productOut (s : State) (x : Nat) (p : Product) : List Int :=
  match p.kind with
  | .empty => []
  | .fenced => (List.range (weightCols p.prec)).map fun k => (Config.freeWord (s.free + k)).toInt
  | .normal =>
    let o := (s.partialSums x p).map outOf
    match p.verdict with
    | none => o
    | some ex => o.zipIdx.map fun e => (ex.lookup e.2).getD e.1

/-- Write results to the issuing core's data scratch, overwriting or accumulating with saturation (R78, R105, R109, R110). -/
def State.writeResults (s : State) (p : Product) (out : List Int) (poison : Bool) : State :=
  let old (k : Nat) : Int := signed 32 (leNat (s.scratch p.core (p.res + 4 * k) 4))
  let vals := out.zipIdx.map fun e =>
    let v := if p.acc then old e.2 + e.1 else e.1
    (satSigned 32 v, decide (satSigned 32 v ≠ v))
  let bytes := vals.foldl (fun l e => l ++ leBytes 4 (pattern 32 e.1)) []
  let marks := if poison then allBits bytes.length true
    else if p.acc then s.scratchMarks p.core p.res bytes.length else allBits bytes.length false
  let sat := p.acc && vals.any Prod.snd
  let s := s.storeScratch p.core p.res bytes marks
  if sat then s.setSat p.core else s

/-- An EMPTY_SLOT record (R96). -/
def emptySlotRec (s : State) (x : Nat) (p : Product) : Rec :=
  { sev := 3, kind := 9, sub := 1, domain := 0, unit := x, job := p.job, part := s.partOf (xbCluster x) }

/-- The results and counts of a product at release (R72, R78, R96, R105, R110, R434, R435). -/
def State.deliverProduct (s : State) (x : Nat) (p : Product) : State :=
  let l := xbCluster x
  let k := xbSlot x
  let latched := (s.cs p.core).latch && decide ((s.cs p.core).job.toNat = p.job)
  let poison := p.vecPoison || p.allPoison || latched || decide (p.kind = .fenced)
  let s := if p.acc then s.scratchErrors p.core p.res (4 * weightCols p.prec) else s
  let s := s.writeResults p (s.productOut x p) poison
  let s := if p.kind = .fenced then s.draw (weightCols p.prec) else s
  let s := if p.kind = .empty ∧ (s.cs p.core).job.toNat = p.job then s.setLatch p.core else s
  let s := if p.kind = .normal then s else s.post (emptySlotRec s x p)
  let s := s.setFld (xbUsageLastN l k) p.need
  let s := if p.reserved < p.need then s.incSat (xbUsageOverBudget l k) 1 else s
  if p.suspect then s.setFlag (xbStatSuspect l k) true else s

/-- The crossbar turns to its successors: the queued product starts, not before its issue, the stalled issue takes its place, waiting cores are looked
at (R73, R106, R124). -/
def State.nextProduct (s : State) (x start : Nat) : State :=
  let s := match (s.xrun x).queued with
    | none => s
    | some q => (s.modXrun x fun r => { r with queued := r.stalled, stalled := none }).startProduct x (Nat.max start q.t0) q
  let s := s.wakeXb (xbCore x) x
  s.settleEnd (xbCore x)

/-- The product's last reserved period ends (R72, R73): its results wait for release, or it is held for the verdict (R431, R434), and its
converters turn to the successor. -/
def State.endConversions (s : State) (x : Nat) (p : Product) : State :=
  let s := (s.advance (nextStart p)).countConverted x p p.periods
  let s := s.modXrun x fun r =>
    if p.hold then { r with conv := none, failing := none, held := some p, heldLast := true, idle := s.now }
    else { r with conv := none, failing := none, out := some p, idle := s.now }
  s.nextProduct x (nextStart p)

/-- Do the conversions of a product on x end before the guard band with every check passed, so that nothing keeps the successor (R73, R85, R96)? -/
def State.convertsOut (s : State) (x : Nat) (p : Product) : Bool :=
  (s.xrun x).failing.isNone && (s.xrun x).out.isNone && decide (p.t0 + 6 + 66 * (p.need + redoCount p) + 1000 ≤ s.tickNs)
    && (s.firstFail x p 0 (p.periods.map Prod.fst)).isNone

/-- The converters of a crossbar turn to the successor where their time for it has come (R73). -/
def State.dueXb (s : State) (x : Nat) : State :=
  match (s.xrun x).conv with
  | some p => if nextStart p ≤ s.t ∧ s.convertsOut x p then s.endConversions x p else s
  | none => s

/-- The same for every crossbar of a core, before its next instruction. -/
def State.dueXbs (s : State) (c : Nat) : State := (List.range 16).foldl (fun s j => s.dueXb (coreXb c j)) s

/-- A product whose conversions have ended releases (R72). -/
def State.releaseOut (s : State) (x : Nat) (p : Product) : State :=
  let s := ((s.advance (releaseTime p)).deliverProduct x p).modXrun x fun r => { r with out := none }
  (s.wakeXb (xbCore x) x).settleEnd (xbCore x)

/-- A held product releases at handover (R434). -/
def State.releaseHeld (s : State) (x : Nat) (p : Product) : State :=
  let s := (s.deliverProduct x p).modXrun x fun r => { r with held := none }
  (s.wakeXb (xbCore x) x).settleEnd (xbCore x)

/-- A product cut at L − 1,000 ns: the periods that had begun are converted to their end, and their checks and codes are counted; what has
been counted already is not counted again (R80, R84, R88, R96). -/
def State.cutProduct (s : State) (x : Nat) (p : Product) : State :=
  let begun := p.periods.filter fun e => decide (p.t0 + 6 + 66 * e.2 + 1000 < s.tickNs)
  let s := s.countConverted x p begun
  begun.foldl (fun s e =>
    if (p.redo.lookup e.2).isSome ∨ e.2 ∈ p.settled ∨ (s.xrun x).failing = some e.2 then s
    else
      let codes := s.prodCodes x p e.1 (p.base + 528 * e.2)
      let vals := s.prodValues x codes
      s.countFails x e.1 vals (s.failGroups x e.1 codes vals)) s

end Sys2Proof.Machine
end

