-- ==== Sys2Proof/Machine/Issue.lean ====
section
/-! DEFINITION. Issue of a core's instruction: which waits end with it, its fetch, the end of the image, CS_JOB 0 (R73, R114, R118, R123,
R429, R573). -/
namespace Sys2Proof.Machine
open Sys2Proof

/-- The next instruction of a core that waits at a TMARK is issued at its due time, not before (R123); that of one stalled by XISSUE when the
queue of its crossbar has room (R73). -/
def State.resume (s : State) (c : Nat) : State :=
  match (s.cs c).run with
  | .waiting (.tmark due) =>
    if due + 1000 ≤ s.tickNs then (s.advance due).goOn c else s
  | .waiting (.xissue x) =>
    match (s.xrun x).conv with
    | some p => if nextStart p + 1000 ≤ s.tickNs ∧ s.convertsOut x p then s.endConversions x p else s
    | none => s
  | _ => s

/-- What a fetch of core c's next instruction meets (R429): a correctable instruction word is corrected; an uncorrectable one is
fetched again from the image in cluster memory, and when that word fails too the core stops. -/
def State.fetchWord (s : State) (c : Nat) : State :=
  let a := 4 * (s.cs c).ia
  let w := 512 * c + a / 64
  match tabFind s.core.imemUpset w with
  | none => s
  | some u =>
    let s := { s with core := { s.core with imemUpset := tabErase s.core.imemUpset w } }
    let d := 3 * 2 ^ 60 + a
    let second : Option Upset := match s.ctg.clusters.find? fun r => decide (r.cluster = c / 32) with
      | none => none
      | some r => tabFind s.mem.upset ((clMem (c / 32) + r.imgAddr + 32768 * (c % 32) + a) / 64)
    match u, second with
    | .uncorrectable, some .uncorrectable => (s.modCore c fun k => { k with run := .stopped }).post (recCore s c 3 5 d)
    | _, _ => s.post (recCore s c 2 5 d)

/-- An instruction of core c: nothing is issued by a core that is not executing, nor by one at or beyond the end of its image, which sets its
latch (R573); otherwise the address moves on, `f` acts, and the core turns to its next instruction. -/
def State.issue (s : State) (c : Nat) (f : State → State) : State :=
  let s := (s.dueXbs c).resume c
  let k := s.cs c
  if k.run = .executing then
    if k.imgLen / 4 ≤ k.ia then s.onward c
    else
      let s := s.fetchWord c
      if (s.cs c).run = .executing then (f (s.modCore c fun k => { k with ia := k.ia + 1 })).onward c else s
  else s

/-- A transfer, queue operation, array issue or engine submission while CS_JOB is 0 is not performed (R118). -/
def State.needJob (s : State) (c : Nat) (f : State → State) : State :=
  if (s.cs c).job = 0 then (s.setLatch c).post (recAccess s c 3 0) else f s

end Sys2Proof.Machine
end

