-- ==== Sys2Proof/Machine/CoreTime.lean ====
section
/-! DEFINITION. Token, transfer, timing and state instructions of a core: TSIG, TWAIT and its deadline, MSEND, MCAST, GSEND, JOB,
TMARK, TEND, WAIT, CSRR, CSRW (R118 to R126, R132 to R136, R502). Who pays for a slot nobody posted is log entry 17. -/
namespace Sys2Proof.Machine
open Sys2Proof

/-- TSIG: add n to a token counter of the core's own cluster (R119). -/
def execTsig (c : CoreId) (k : Fin 256) (n : BitVec 16) (s : State) : Host.Outcome State Fault Refusal :=
  .next (s.issue c fun s => s.signal (c.val / 32) k n.toNat false)

/-- The slot entry numbered e of the catalogue in force (R299). -/
def State.slotRec (s : State) (e : Nat) : Option SlotRec := s.ctg.slots.find? fun r => decide (r.entry = e)

/-- Cluster whose core posts a slot entry (R132 to R134, R299): the source, or for a GATE_IN from HBM the destination. -/
def slotPoster (r : SlotRec) : Option Nat :=
  match r.kind with
  | 1 | 2 | 4 => some r.src
  | 3 => if r.far / 2 ^ 62 % 4 = 0 then some r.dst else none
  | _ => none

/-- Has a core of the module posted entry e in this tick? -/
def State.isPosted (s : State) (e : Nat) : Bool := s.core.st.any fun k => k.2.posted.any fun p => decide (p.1 = e)

/-- Is the core still bound to post (it has begun the tick, and neither TEND nor WAIT nor a failure has ended its work; one that has stopped
is bound still, R126)? -/
def CoreSt.mayPost (k : CoreSt) : Bool :=
  match k.run with
  | .executing | .waiting _ | .imageEnd | .stopped => true
  | _ => false

/-- The core charged when entry e opens unposted: the lowest-numbered core of the posting cluster whose current job owns the
entry (log entry 17). -/
def State.slotCore (s : State) (r : SlotRec) : Option Nat :=
  match slotPoster r with
  | none => none
  | some l => ((List.range 32).map fun i => 32 * l + i).find? fun c => (s.cs c).mayPost && decide ((s.cs c).job.toNat = r.job)

/-- A HARD_POINT overrun for an entry that nobody posted, once (R125, R126). -/
def State.chargeSlot (s : State) (e c : Nat) : State :=
  if e ∈ s.cl.charged then s
  else { s.overrun c 1 with cl := { (s.overrun c 1).cl with charged := e :: (s.overrun c 1).cl.charged } }

/-- Hard points of the core in the current nanosecond take precedence over its TWAIT deadline (R126): slots that start now,
unposted, whose overrun is its own. -/
def State.chargeDue (s : State) (c : Nat) : State :=
  s.ctg.slots.foldl (fun s r =>
    if r.start = s.t ∧ s.isPosted r.entry = false ∧ r.entry ∉ s.cl.opened ∧ s.slotCore r = some c then s.chargeSlot r.entry c
    else s) s

/-- TWAIT: wait until counter k has reached n by d (R120): at once when it has, an overrun when d has passed, after the hard points of the
same nanosecond (R126). -/
def execTwait (c : CoreId) (k : Fin 256) (n : BitVec 16) (d : Nat) (s : State) : Host.Outcome State Fault Refusal :=
  .next (s.issue c fun s =>
    let l := c.val / 32
    if d < s.t then
      let s := (s.chargeDue c).overrun c 2
      if s.flag (clTokenPoison l k) then s.setLatch c else s
    else (s.modCore c fun x => { x with run := .waiting (.twait k n.toNat d) }).wakeToken l k c)

/-- TOKEN_DEADLINE: CS_TTIME passes the deadline of the core's TWAIT, which completes at d with an overrun (R120, R126). -/
def execTokenDeadline (c : CoreId) (s : State) : Host.Outcome State Fault Refusal :=
  .next (match (s.cs c).run with
    | .waiting (.twait k _ d) =>
      if s.tickNs < d + 1000 then s
      else
        let s := (s.advance d).chargeDue c
        let s := (s.goOn c).overrun c 2
        if s.flag (clTokenPoison (c.val / 32) k) then s.setLatch c else s
    | _ => s)

/-- Post the transfer of an entry (R123, R125, R132): early or on time it waits for its slot; late it moves nothing. -/
def State.postTransfer (s : State) (c : Nat) (r : SlotRec) : State :=
  if r.entry ∈ s.cl.opened then s.chargeSlot r.entry c
  else if r.start < s.t then s.chargeSlot r.entry c
  else
    let s := s.hardPoint c r.start
    s.modCore c fun k => { k with posted := k.posted ++ [(r.entry, k.latch)] }

/-- A transfer instruction on an entry that is not its cluster's and job's, or not of its kind, moves nothing, sets the latch and
posts an ACCESS record, as R135 gives it for MCAST (log entry 18). -/
def State.sendEntry (s : State) (c e : Nat) (ok : SlotRec → Bool) : State :=
  match s.slotRec e with
  | none => s.refuseAccess c 4 e
  | some r =>
    if ok r && decide (slotPoster r = some (c / 32)) && decide (r.job = (s.cs c).job.toNat) && s.owns r.part (c / 32)
    then s.postTransfer c r else s.refuseAccess c 4 e

/-- MSEND: post readiness of the mesh transfer in slot entry e (R132). -/
def execMsend (c : CoreId) (e : Nat) (s : State) : Host.Outcome State Fault Refusal :=
  .next (s.issue c fun s => s.needJob c fun s => s.sendEntry c e fun r => decide (r.kind = 1))

/-- MCAST: post a multicast on tree t, from a core of the tree's lead cluster only (R134, R135). -/
def execMcast (c : CoreId) (tree : Fin 4) (e : Nat) (s : State) : Host.Outcome State Fault Refusal :=
  .next (s.issue c fun s => s.needJob c fun s =>
    let lead := match s.ctg.mcasts.find? fun m => decide (m.tree = tree.val) with
      | some m => decide (m.lead = c.val / 32)
      | none => false
    s.sendEntry c e fun r => lead && decide (r.kind = 4) && decide (r.tree = tree.val))

/-- GSEND: post a transfer through a row gate (R133, R299). -/
def execGsend (c : CoreId) (e : Nat) (s : State) : Host.Outcome State Fault Refusal :=
  .next (s.issue c fun s => s.needJob c fun s => s.sendEntry c e fun r => decide (r.kind = 2) || decide (r.kind = 3))

/-- JOB: set CS_JOB; a change of job clears the latch for the new job (R111, R118). -/
def execJob (c : CoreId) (n : BitVec 12) (s : State) : Host.Outcome State Fault Refusal :=
  .next (s.issue c fun s => s.modCore c fun k =>
    { k with job := n, latch := k.latch && decide (k.job = n),
             entered := if n.toNat ∈ k.entered then k.entered else k.entered ++ [n.toNat] })

/-- TMARK: a hard point at a time; reached early, the core waits until then; late, it overruns and goes on (R123, R126). -/
def execTmark (c : CoreId) (due : Nat) (s : State) : Host.Outcome State Fault Refusal :=
  .next (s.issue c fun s =>
    let s' := s.hardPoint c due
    if s.t < due then s'.modCore c fun k => { k with run := .waiting (.tmark due) } else s')

/-- TEND: the hard point at L − 1,000 ns, then the wait for the core's products and transfers (R123, R124). -/
def execTend (c : CoreId) (s : State) : Host.Outcome State Fault Refusal :=
  .next (s.issue c fun s =>
    ((s.hardPoint c (s.tickNs - 1000)).modCore c fun k => { k with run := .waiting .tend }).settleEnd c)

/-- WAIT: completes as TEND does and counts as TEND for the tick; the core then stays clock-gated (R502), and counts as waiting for the
power-state request even when the guard band stops it (R129). -/
def execWait (c : CoreId) (s : State) : Host.Outcome State Fault Refusal :=
  .next (s.issue c fun s =>
    ((s.hardPoint c (s.tickNs - 1000)).modCore c fun k => { k with run := .waiting .powerWait, waited := true }).settleEnd c)

/-- Value of a core-visible register (R136); other numbers name no register and read 0 (log entry 14). -/
def State.csrVal (s : State) (c csr : Nat) : Nat :=
  match csr with
  | 1 => c % 32
  | 2 => c / 32
  | 3 => (s.partOf (c / 32)).getD 0
  | 4 => s.tickShown
  | 5 => s.t
  | 6 => s.tickNs
  | 7 => (s.cs c).job.toNat
  | 8 => s.csFlags c
  | 9 => s.fld (pwDomainFreqCur (c / 32 / 16))
  | 10 => (s.cs c).phase.toNat + 1
  | _ => 0

/-- CSRR: read a core-visible register. -/
def execCsrr (c : CoreId) (rd : GReg) (csr : BitVec 12) (s : State) : Host.Outcome State Fault Refusal :=
  .next (s.issue c fun s => s.setGpr c rd (BitVec.ofNat 64 (s.csrVal c csr.toNat)) false)

/-- CSRW: SAT of CS_FLAGS is W1C; every other write is ignored (R136). -/
def execCsrw (c : CoreId) (csr : BitVec 12) (rs : GReg) (s : State) : Host.Outcome State Fault Refusal :=
  .next (s.issue c fun s =>
    if csr = 8 ∧ (s.gpr c rs).getLsbD 1 = true then s.modCore c fun k => { k with sat := false } else s)

end Sys2Proof.Machine
end

