-- ==== Sys2Proof/Machine/Repair.lean ====
section
/-! DEFINITION. Failures of cores and clusters and the field repair map (R24, R27, R30, R31, R36, R122, R187). -/
namespace Sys2Proof.Machine
open Sys2Proof

/-- DETAIL of a REPAIR record (R445): physical column, row, physical core. -/
def State.repairDetail (s : State) (l pcore : Nat) : Nat := s.fld (clStatusPx l) * 2 ^ 16 + s.fld (clStatusPy l) * 2 ^ 8 + pcore

/-- A REPAIR record of a cluster: PARTITION_FATAL where a partition owns it, else CONTAINED (R27, R31). -/
def recRepair (s : State) (l sub pcore : Nat) : Rec :=
  { recCluster s l (if (s.partOf l).isSome then 4 else 3) 13 sub 0 (s.repairDetail l pcore) with job := 0 }

/-- The NOTE that the custodian raises for each entry it adds to the field repair map (R36). -/
def recRepairEntry (s : State) (l pcore : Nat) : Rec :=
  { sev := 1, kind := 13, sub := 4, domain := 2, unit := unitCluster l, detail := s.repairDetail l pcore, part := s.partOf l,
    test := false }

/-- The custodian adds a physical cluster to the field repair map in eMRAM and raises its record (R27, R31, R36). -/
def State.repairCluster (s : State) (l : Nat) : State :=
  let n := s.physCluster l
  if n ∈ s.cu.em.repair then s
  else { s with cu := { s.cu with em := { s.cu.em with repair := s.cu.em.repair ++ [n] } } }.post (recRepairEntry s l 0)

/-- The custodian adds a physical core, 34 × physical cluster + physical core (R31, R36). -/
def State.repairCore (s : State) (l pcore : Nat) : State :=
  let n := 34 * s.physCluster l + pcore
  if n ∈ s.cu.em.coreRepair then s
  else { s with cu := { s.cu with em := { s.cu.em with coreRepair := s.cu.em.coreRepair ++ [n] } } }.post (recRepairEntry s l pcore)

/-- What runs on a core's sixteen crossbars is dropped. -/
def State.dropProducts (s : State) (c : Nat) : State :=
  (List.range 16).foldl (fun s j => s.modXrun (512 * (c / 32) + 16 * (c % 32) + j) fun r =>
    { r with conv := none, queued := none, stalled := none, failing := none, held := none, out := none
             idle := if r.conv.isSome then s.now + 66 else r.idle }) s

/-- The exact engine of a cluster stops (R187, XE_MODE STATE 3): nothing of it runs on. Its running job and its queued ones stay incomplete until the
guard band abandons them (R175). -/
def State.stopEngine (s : State) (l : Nat) : State :=
  (s.modXe l fun e => { e with failed := true }).setFld (xeModeState l) 3

/-- A mapped physical cluster fails in operation (R27): CL_STATUS shows it, the partition takes PARTITION_FATAL, the repair map is
updated. Its cores execute nothing more. -/
def State.failCluster (s : State) (l sub : Nat) : State :=
  let s := (s.setFld (clStatusMap l) 2).stopEngine l
  let s := (List.range 32).foldl (fun s i => (s.modCore (32 * l + i) fun k => { k with run := .off }).dropProducts (32 * l + i)) s
  (s.post (recRepair s l sub 0)).repairCluster l

/-- The leaf block in force for a cluster (R298). -/
def State.leafOf (s : State) (l : Nat) : Option LeafRec := s.ctg.leaves.find? fun b => decide (b.cluster = l)

/-- The core entry of a logical core in the leaf block in force. -/
def State.leafCore (s : State) (c : Nat) : Option LeafCore := (s.leafOf (c / 32)).bind fun b => b.cores[c % 32]?

/-- Replace a core's 32 KiB instruction store: bytes, then zeros. -/
def putImage (t : List Host.Cell) (c : Nat) (d : List Byte) : List Host.Cell :=
  tabBlock 0 t (32768 * c) 32768 fun i => d.getD i 0

/-- A core runs this image from the next boundary on (R114). -/
def State.setImage (s : State) (c : Nat) (d : List Byte) (k : LeafCore) : State :=
  { s with core := { s.core with
    imem := putImage s.core.imem c d
    imemUpset := s.core.imemUpset.filter fun e => decide (e.1 / 512 ≠ c) } }.modCore c fun x =>
      { x with imgLen := k.len, imgEntry := k.entry }

/-- A core's image is copied from the image area of its cluster memory into instruction memory (R29 step 3, R116, R296, R503); the read meets
the errors of R143. -/
def State.copyImage (s : State) (c : Nat) : State :=
  match s.ctg.clusters.find? fun k => decide (k.cluster = c / 32), s.leafCore c with
  | some k, some e =>
    let a := k.imgAddr + 32768 * (c % 32)
    let s := s.readErrors (c / 32) 0 a e.len
    s.setImage c (s.bytes (clMem (c / 32) + a) e.len) e
  | _, _ => s

/-- The sequencer signals in place of a failed core: every counter its image declares reads 0xFFFF with POISON set (R122). -/
def State.signalFailed (s : State) (c : Nat) : State :=
  match s.leafCore c with
  | none => s
  | some k => k.signals.foldl (fun s j => s.signal (c / 32) j 0xFFFF true) s

/-- Has the cluster a spare core for a logical core: one it has claimed already, or one that no running substitution has claimed (R29, R31)? -/
def State.spareLeft (s : State) (c : Nat) : Bool :=
  (tabFind s.sh.subst c).isSome
    || decide ((s.sh.subst.filter fun e => decide (e.1 / 32 = c / 32)).length < s.fld (clStatusSpares (c / 32)))

/-- CORE_HARD_FAILURE: the core stops; its outputs are delivered poisoned until switch-over (R30, R122); with no spare left the
cluster becomes UNAVAILABLE and its partition takes PARTITION_FATAL (R31). -/
def execCoreHardFailure (c : CoreId) (s : State) : Host.Outcome State Fault Refusal :=
  .next (
    let l := c.val / 32
    let k := c.val % 32
    let pcore := s.fld (clRemapPcore l k)
    if (s.cs c).run = .failed then s
    else
      let s := ((s.modCore c fun x => { x with run := .failed }).dropProducts c).setFld (clRemapState l k) 3
      let r : Rec := { recCore s c 3 13 (s.repairDetail l pcore) with sub := 2 }
      let s := (s.post r).repairCore l pcore
      let s := s.signalFailed c
      if s.spareLeft c then s.setFlag (clStatusSubstPend l) true
      else
        let s := s.setFld (clStatusMap l) 1
        (s.post { recRepair s l 3 pcore with test := false }).repairCluster l)

/-- CLUSTER_FAILURE: a physical cluster fails in operation (R27); one that serves no logical cluster is no
mapped cluster and changes nothing. -/
def execClusterFailure (px : Fin 17) (py : Fin 8) (s : State) : Host.Outcome State Fault Refusal :=
  .next (
    match (List.range 16).find? fun x =>
      decide (s.fld (clStatusMap (16 * py + x)) = 0) && decide (s.fld (clStatusPx (16 * py + x)) = px.val)
        && decide (s.fld (clStatusPy (16 * py + x)) = py.val) && decide (6 ≤ s.fld btBootStep) with
    | some x => s.failCluster (16 * py + x) 1
    | none => s)

end Sys2Proof.Machine
end

