-- ==== Sys2Proof/Machine/Hbm.lean ====
section
/-! DEFINITION. HBM: regions and who may use them, reads with their error correction, check units, writes (R202 to R213, R425 to
R428, R572). -/
namespace Sys2Proof.Machine
open Sys2Proof

/-- A record of a unit outside the chain (R444): type 1 host port, 2 fabric port, 3 stream engine, 4 memory controller, 5 shelver,
6 custodian, 7 calibration, 8 survey converter, 9 thermal, 10 power. -/
def recUnit (type inst sev kind sub job detail : Nat) (part : Option Nat) : Rec :=
  { sev, kind, sub, domain := 5, unit := unitOf type inst, job, detail, part }

/-- The region that holds an address (R295). -/
def State.regionOf (s : State) (a : Nat) : Option RegionRec :=
  s.ctg.regions.find? fun r => decide (r.base * 2 ^ 20 ≤ a) && decide (a < (r.base + r.size) * 2 ^ 20)

/-- The 1 MiB units that n bytes from an address touch. -/
def mibUnits (a n : Nat) : List Nat := (List.range ((a + n - 1) / 2 ^ 20 - a / 2 ^ 20 + 1)).map fun i => a / 2 ^ 20 + i

/-- Is every unit of a range in a region of one of the kinds that partition p owns? -/
def State.inOwn (s : State) (p : Nat) (kinds : List Nat) (a n : Nat) : Bool :=
  (mibUnits a n).all fun u => match s.regionOf (u * 2 ^ 20) with
    | some r => decide (r.kind ∈ kinds) && decide (r.owner = p)
    | none => false

/-- Bytes of a tile image (R246). -/
def tileBytes : Nat := 135168
/-- Bytes of a group block (R246). -/
def blockBytes : Nat := 16896

/-- Is a range covered by areas, each given as its base and its end, part after part? `fuel` bounds the parts. -/
def coveredBy (areas : List (Nat × Nat)) : Nat → Nat → Nat → Bool
  | 0, _, _ => false
  | k + 1, a, stop =>
    if stop ≤ a then true
    else match areas.find? fun x => decide (x.1 ≤ a) && decide (a < x.2) with
      | some x => coveredBy areas k x.2 stop
      | none => false

/-- What a row gate may write for a partition: the RETURNS_BIN, INPUT, WORK and REMOTE regions it owns; and read: those and the master areas
of its own sections (R213). -/
def Cat.gateAreas (c : Cat) (p : Nat) (read : Bool) : List (Nat × Nat) :=
  ((c.regions.filter fun r => decide (5 ≤ r.kind) && decide (r.kind ≤ 8) && decide (r.owner = p)).map fun r =>
      (r.base * 2 ^ 20, (r.base + r.size) * 2 ^ 20))
    ++ if read then (c.sections.filter fun x => decide (x.part = p)).map fun x =>
        (x.masterAddr, x.masterAddr + x.tiles * tileBytes + x.blobBytes)
      else []

/-- May a row gate use a range for a partition, in the direction given (R213)? -/
def Cat.gateMay (c : Cat) (p : Nat) (read : Bool) (a n : Nat) : Bool :=
  let l := c.gateAreas p read
  coveredBy l (l.length + 1) a (a + n)

/-- May a row gate write the range for a partition (R213)? -/
def State.gateWrites (s : State) (p a n : Nat) : Bool := s.ctg.gateMay p false a n

/-- May a row gate read the range for a partition (R213)? -/
def State.gateReads (s : State) (p a n : Nat) : Bool := s.ctg.gateMay p true a n

/-- A MEM_ECC record of a memory controller (R206, R208): `where_` 4 for a read, 5 for scrub. -/
def recEcc (sev where_ a job : Nat) (part : Option Nat) : Rec :=
  recUnit 4 (stackOf a) sev 5 0 job (where_ * 2 ^ 60 + a % 2 ^ 40) part

/-- A corrected HBM word (R206): counted in units of 1,024, with a record at each unit. -/
def State.hbmCorrected (s : State) (where_ a job : Nat) (part : Option Nat) : State :=
  let i := stackOf a
  let n := tabGet 0 s.se.corr i + 1
  let s := { s with se := { s.se with corr := tabSet 0 s.se.corr i (n % 1024) } }
  if n = 1024 then (s.incSat (seEccCorr i) 1).post (recEcc 2 where_ a job part) else s

/-- An uncorrectable HBM word (R206): stored back poisoned, counted, and recorded against the reader, as NOTE when it has none. -/
def State.hbmLost (s : State) (where_ a job : Nat) (part : Option Nat) : State :=
  let i := stackOf a
  let s := s.setMarks [a / 64] true
  let s := ((s.incSat (seEccUncorr i) 1).setFld (seEccLastAddr i) (a / 64 * 64)).setFlag (seEccNew i) true
  s.post (recEcc (if job = 0 ∧ part = none ∨ where_ = 5 then 1 else 3) where_ a job part)

/-- The bit errors that an HBM read meets (R206). -/
def State.hbmErrors (s : State) (where_ a n job : Nat) (part : Option Nat) : State :=
  (wordsOf a n).foldl (fun s w =>
    match tabFind s.mem.upset w with
    | none => s
    | some u =>
      let s := s.clearUpsets [w]
      match u with
      | .corrected => s.hbmCorrected where_ (64 * w) job part
      | .uncorrectable => s.hbmLost where_ (64 * w) job part) s

/-- What a read of HBM returns: bytes, a poison bit each after verification of the check units that end inside it, and whether a
unit failed (R206, R426 to R428). -/
def State.hbmData (s : State) (a n : Nat) : List Byte × List Bool × Bool :=
  let bad := s.failedUnits (a / 64) (a / 64) (a / 64) (wordsOf a n).length
  (s.bytes a n, (List.range n).map (fun i => s.poisoned (a + i) || decide ((a + i) / 64 ∈ bad)), !bad.isEmpty)

/-- A read of HBM with the errors it meets (R206) and the check units that end inside it: one that fails is marked poisoned where it lies, and one
record of the failure, made from the address of the first such unit, is posted (R426 to R428; log entry 110). Answers the bytes and a poison bit
each. -/
def State.hbmRead (s : State) (a n job : Nat) (part : Option Nat) (failure : Nat → Rec) : State × List Byte × List Bool :=
  let s := s.hbmErrors 4 a n job part
  let h := s.hbmData a n
  let s := match s.failedUnits (a / 64) (a / 64) (a / 64) (wordsOf a n).length with
    | [] => s
    | w :: ws => (s.setMarks (w :: ws) true).post (failure (64 * w % 2 ^ 40))
  (s, h.1, h.2.1)

/-- Pad bytes with zeros to whole 64-byte words (R203). -/
def padWord (d : List Byte) : List Byte := d ++ List.replicate ((64 - d.length % 64) % 64) 0

/-- A write of whole words to HBM as one write, with its check units (R203, R205, R426); `step` cuts units at each so many bytes
from the base, 0 for none. -/
def State.hbmWrite (s : State) (a : Nat) (d : List Byte) (bp : List Bool) (step : Nat) : State :=
  let d' := padWord d
  let s := s.storeMem a d' (bp ++ List.replicate (d'.length - bp.length) false)
  s.formChecks step (d'.length / 64 + 1) a a (a + d'.length)

/-- A write that is not of whole words (R203): each word it touches in part is read as R206 reads, for the job and partition that write, and
merged, and is a check unit of its own; a word that was poisoned, or is found so, stays so (R206). -/
def State.hbmMerge (s : State) (a : Nat) (d : List Byte) (bp : List Bool) (job : Nat) (part : Option Nat) : State :=
  let touched := (wordsOf a d.length).filter fun w => !(decide (a ≤ 64 * w) && decide (64 * w + 64 ≤ a + d.length))
  let s := touched.foldl (fun s w => s.hbmErrors 4 (64 * w) 64 job part) s
  let s := s.storeMem a d bp
  s.formChecks 64 (d.length / 64 + 2) (a / 64 * 64) (a / 64 * 64) (a + d.length)

/-- A module unit other than the custodian changes bytes of HBM (R203): it reads the words they lie in, as R206 reads, and writes them whole as
one check unit; a word it read poisoned is written poisoned. DEDUCED (log entry 103). -/
def State.hbmUpdate (s : State) (a : Nat) (d : List Byte) : State :=
  let lo := a / 64 * 64
  let n := 64 * (wordsOf a d.length).length
  let s := s.hbmErrors 4 lo n 0 none
  let old := s.bytes lo n
  s.hbmWrite lo (old.take (a - lo) ++ d ++ old.drop (a - lo + d.length)) (s.byteMarks lo n) 0

/-- The metadata bytes 0 to 7 of a word (R205): CHECK where CV is set, else 0 (the spec gives CHECK of a word without CV no value), POISON and CV. -/
def State.wordMeta (s : State) (w : Nat) : List Byte :=
  let c := (tabFind s.mem.check w).map Prod.snd
  leBytes 4 (c.getD 0).toNat ++ [BitVec.ofNat 8 (bitNat (tabGet false s.mem.poison w) + 2 * bitNat c.isSome), 0, 0, 0]

/-- CODE, metadata bytes 8 to 11 of a word (R205): formed afresh over the 64 data bytes and metadata bytes 0 to 7 at each write and each
correction (R206), so it is no state of its own; an error of the stored codeword stands in `Mem.upset`. Log entry 8. -/
def State.wordCode (s : State) (w : Nat) : BitVec 32 := Config.rsCode (s.bytes (64 * w) 64 ++ s.wordMeta w)

/-- An ACCESS record of a row gate for a slot entry (R213, R572): the cluster is SRC for a transfer that leaves one, else DST. -/
def recGate (s : State) (r : SlotRec) (sub addr : Nat) : Rec :=
  let l := if r.kind = 2 ∨ r.kind = 1 ∨ r.kind = 4 then r.src else r.dst
  { sev := 3, kind := 8, sub, domain := 2, unit := unitCluster l, job := r.job, detail := addr % 2 ^ 40,
    part := if s.flag (btPartValid r.part) then some r.part else none }

/-- The same cluster's ADDR_GEN record (R430) and CHECK_VALUE record (R428). -/
def recGateKind (s : State) (r : SlotRec) (kind detail : Nat) : Rec := { recGate s r 0 0 with kind, sub := 0, detail }

/-- A row gate reads HBM for a slot entry, charged to a job (R427 POINT 2). -/
def State.gateRead (s : State) (r : SlotRec) (a n job : Nat) : State × List Byte × List Bool :=
  s.hbmRead a n job (some r.part) fun u => recGateKind s r 6 (2 * 2 ^ 60 + u)

end Sys2Proof.Machine
end

