-- ==== Sys2Proof/Machine/CatParse.lean ====
section
/-! DEFINITION. Catalogue images: header, directory, sections and records as bytes, with the checks of SIGNATURE and FORMAT (R242, R289 to
R306, R309 reasons 1 and 2, R341). Log entry 50. -/
namespace Sys2Proof.Machine
open Sys2Proof

/-- A refusal at load (R309, R310): REASON, section type, record index, partition. -/
structure CatErr where
  reason : Nat
  sec : Nat := 0
  idx : Nat := 0
  part : Option Nat := none
deriving DecidableEq, Repr

/-- Are n bytes at an offset zero? -/
def zeros (l : List Byte) (off n : Nat) : Bool := (bytesAt l off n).all fun b => decide (b = 0)

/-- Is v in [a, b]? -/
def within (a b v : Nat) : Bool := decide (a ≤ v) && decide (v ≤ b)

/-- Positions of the set bits of an n-bit number. -/
def setBits (n v : Nat) : List Nat := (List.range n).filter fun i => v.testBit i

/-- A section as its directory entry and header give it (R290): offset and length in the image, records and their length. -/
structure SectionHdr where
  type : Nat
  off : Nat
  len : Nat
  records : Nat
  recordLen : Nat
deriving DecidableEq, Repr

/-- The last 104 bytes of an image: KEY, r and s (R242, R291). -/
def sigOk (keys : List (List Byte)) (img : List Byte) : Bool :=
  let body := img.take (img.length - 104)
  let sig := img.drop (img.length - 104)
  match keys[numAt sig 0 2]? with
  | none => false
  | some k => decide (104 ≤ img.length) && decide (numAt sig 0 2 < 4) && !(k.all fun b => decide (b = 0))
      && Config.ecdsaOk k (Config.sha384 body) (bytesAt sig 8 48) (bytesAt sig 56 48)

/-- The header's fields are right (R289, R309 reason 2). -/
def headerOk (img : List Byte) : Bool :=
  decide (bytesAt img 0 4 = [0x53, 0x4B, 0x43, 0x54]) && decide (numAt img 4 2 = 1) && decide (numAt img 6 1 ≤ 1)
    && decide (numAt img 7 1 ≤ (if numAt img 6 1 = 1 then 15 else 0)) && (decide (numAt img 6 1 = 1) || zeros img 20 4)
    && decide (numAt img 24 4 = img.length) && decide (img.length ≤ 268435456) && within 1 32 (numAt img 28 2)
    && within 8 1024 (numAt img 30 2) && within 800 1800 (numAt img 32 2) && decide (numAt img 34 1 ≤ 3) && decide (numAt img 35 1 ≤ 1)
    && within 1 65535 (numAt img 36 4) && zeros img 40 88 && zeros img (img.length - 102) 6

/-- Record length and largest count of a section type; 0 length where records vary (R290, R292). -/
def sectionShape : Nat → Nat × Nat
  | 1 => (32, 16) | 2 => (16, 4) | 3 => (16, 64) | 4 => (48, 1024) | 5 => (64, 128) | 6 => (16, 65536) | 7 => (0, 128)
  | 8 => (64, 32768) | 9 => (160, 4) | 10 => (16, 2048) | 11 => (704, 16) | 12 => (0, 511) | 13 => (16, 2 ^ 32) | 14 => (16, 32768)
  | _ => (0, 1024)

/-- Has a section type the count of records it must have (R292): all of them for PARTITION, HOST, MCAST and STREAM, where a partial carries one STREAM
record, its own? -/
def countOk (partial_ : Bool) (t n : Nat) : Bool :=
  let most := (sectionShape t).2
  if t = 11 ∧ partial_ = true then decide (n = 1)
  else if t = 1 ∨ t = 2 ∨ t = 9 ∨ t = 11 then decide (n = most) else decide (n ≤ most)

/-- The section of a directory entry, when entry and section header agree (R290). -/
def sectionAt (img : List Byte) (i : Nat) : Option SectionHdr :=
  let d := 128 + 16 * i
  let t := numAt img d 2
  let off := numAt img (d + 4) 4
  let len := numAt img (d + 8) 4
  let n := numAt img (off + 4) 4
  let rl := numAt img (off + 8) 4
  let shape := sectionShape t
  if within 1 15 t && zeros img (d + 2) 2 && decide (off % 64 = 0) && decide (16 ≤ len) && decide (128 + 16 * numAt img 28 2 ≤ off)
      && decide (off + len + 104 ≤ img.length) && decide (crc32c (bytesAt img off len) = BitVec.ofNat 32 (numAt img (d + 12) 4))
      && decide (numAt img off 2 = t) && decide (numAt img (off + 2) 2 = 1) && decide (rl = shape.1) && zeros img (off + 12) 4
      && countOk (decide (numAt img 6 1 = 1)) t n && decide (16 + n * rl ≤ len) then
    some { type := t, off, len, records := n, recordLen := rl }
  else none

/-- The directory, when every entry is right, no type repeats and no two sections overlap (R290); else the refusal, which names the type of the
section at fault (R310). -/
def directory (img : List Byte) : Except CatErr (List SectionHdr) :=
  (List.range (numAt img 28 2)).foldl (fun acc i =>
    match acc with
    | .error e => .error e
    | .ok l =>
      let bad : Except CatErr (List SectionHdr) := .error { reason := 2, sec := numAt img (128 + 16 * i) 2 }
      match sectionAt img i with
      | none => bad
      | some x =>
        if l.any fun y => decide (y.type = x.type) || (decide (x.off < y.off + y.len) && decide (y.off < x.off + x.len)) then bad
        else .ok (l ++ [x])) (.ok [])

/-- The partition that a record of a type names itself, by the byte that holds it (R293, R299, R301 to R304, R306, R341). -/
def partByte : Nat → Option Nat
  | 1 => some 0 | 8 => some 3 | 9 => some 1 | 10 => some 1 | 11 => some 0 | 12 => some 2 | 14 => some 5 | 15 => some 2
  | _ => none

/-- See `partByte`: the partition a record's bytes name. -/
def recordPart (t : Nat) (r : List Byte) : Option Nat := ((partByte t).map fun o => numAt r o 1).filter fun n => decide (n < 16)

/-- Record i of a section whose records have one length. -/
def recordAt (img : List Byte) (x : SectionHdr) (i : Nat) : List Byte := bytesAt img (x.off + 16 + i * x.recordLen) x.recordLen

/-- Parse every record of a section; the first that is wrong is the error (R309 reason 2). -/
def parseAll {α : Type} (img : List Byte) (d : List SectionHdr) (t : Nat) (f : Nat → List Byte → Option α) : Except CatErr (List α) :=
  match d.find? fun x => decide (x.type = t) with
  | none => .ok []
  | some x => (List.range x.records).foldl (fun acc i =>
      match acc with
      | .error e => .error e
      | .ok l => match f i (recordAt img x i) with
        | some r => .ok (l ++ [r])
        | none => .error { reason := 2, sec := t, idx := i, part := recordPart t (recordAt img x i) }) (.ok [])

/-- PARTITION record (R293). -/
def parsePart (i : Nat) (r : List Byte) : Option PartRec :=
  if decide (numAt r 0 1 = i) && decide (numAt r 1 1 ≤ 1) && decide (numAt r 2 1 ≤ 3) && decide (numAt r 3 1 ≤ 2) && zeros r 6 26 then
    some { part := i, valid := decide (numAt r 1 1 = 1), host := numAt r 2 1, policy := numAt r 3 1, first := numAt r 4 1, count := numAt r 5 1 }
  else none

/-- HOST record (R294). -/
def parseHost (i : Nat) (r : List Byte) : Option HostRec :=
  if decide (numAt r 0 1 = i) && decide (numAt r 1 1 ≤ 3) && zeros r 3 1 && zeros r 8 8 && decide (numAt r 4 2 + numAt r 6 2 ≤ 1024) then
    some { port := i, enabled := (numAt r 1 1).testBit 0, control := (numAt r 1 1).testBit 1, vfs := numAt r 2 1, tenantFirst := numAt r 4 2,
           tenantCount := numAt r 6 2 }
  else none

/-- REGION record (R295). -/
def parseRegion (_ : Nat) (r : List Byte) : Option RegionRec :=
  if zeros r 10 6 then some { base := numAt r 0 4, size := numAt r 4 4, kind := numAt r 8 1, owner := numAt r 9 1 } else none

/-- TENANT record (R294). -/
def parseTenant (_ : Nat) (r : List Byte) : Option TenantRec :=
  let limit := (List.range 16).map fun s => numAt r (12 + 2 * s) 2
  if decide (numAt r 0 2 ≤ 1023) && decide (numAt r 2 1 ≤ 1) && zeros r 3 1 && zeros r 44 4 && limit.all fun l => decide (l ≤ 4095) then
    some { tenant := numAt r 0 2, valid := decide (numAt r 2 1 = 1), weight := numAt r 4 4, budget := numAt r 8 4, limit }
  else none

/-- CLUSTER record (R296). -/
def parseCluster (_ : Nat) (r : List Byte) : Option ClusterRec :=
  if decide (numAt r 0 1 ≤ 127) && decide (numAt r 1 1 ≤ 3) && decide (numAt r 3 1 ≤ 16) && decide (numAt r 8 4 % 65536 = 0)
      && decide (numAt r 12 4 % 65536 = 0) && decide (numAt r 22 1 ≤ 3) && zeros r 23 41 && decide (numAt r 8 4 + 2 ^ 20 ≤ clMemSize)
      && decide (numAt r 12 4 + 2 ^ 20 ≤ clMemSize) && decide (numAt r 16 4 + 16896 ≤ clMemSize) && decide (numAt r 16 4 % 64 = 0) then
    some { cluster := numAt r 0 1, arb := (numAt r 1 1).testBit 0, swap := (numAt r 1 1).testBit 1, poolBase := numAt r 2 1,
           poolBanks := numAt r 3 1, stageCells := numAt r 4 2, freeCycles := numAt r 6 2, imgAddr := numAt r 8 4, swapAddr := numAt r 12 4,
           arbBuf := numAt r 16 4, arbPeriod := numAt r 20 2, xe := numAt r 22 1 }
  else none

/-- QUEUE record (R297). -/
def parseQueue (_ : Nat) (r : List Byte) : Option QueueRec :=
  if decide (numAt r 0 1 ≤ 127) && decide (numAt r 1 1 ≤ 127) && decide (numAt r 2 2 ≤ 511) && zeros r 4 4 then
    some { cluster := numAt r 0 1, thresh := numAt r 1 1, q := numAt r 2 2, cfg := BitVec.ofNat 64 (numAt r 8 8) }
  else none

/-- SLOT record (R299). -/
def parseSlot (_ : Nat) (r : List Byte) : Option SlotRec :=
  if decide (numAt r 0 2 ≤ 32767) && within 1 8 (numAt r 2 1) && decide (numAt r 3 1 ≤ 15) && decide (numAt r 4 2 ≤ 4095)
      && within 1 16777216 (numAt r 16 4) && zeros r 23 1 && decide (numAt r 30 1 ≤ 3) && decide (numAt r 31 1 ≤ 32)
      && decide (numAt r 48 1 ≤ 3) && zeros r 49 15 then
    some { entry := numAt r 0 2, kind := numAt r 2 1, part := numAt r 3 1, job := numAt r 4 2, src := numAt r 6 1, dst := numAt r 7 1,
           start := numAt r 8 4, length := numAt r 12 4, bytes := numAt r 16 4, srcAddr := numAt r 20 3, dstAddr := numAt r 24 3,
           token := numAt r 27 1, tag := numAt r 28 2, dstQueue := (numAt r 30 1).testBit 0, east := (numAt r 30 1).testBit 1,
           hops := numAt r 31 1, path := numAt r 32 8, far := numAt r 40 8, tree := numAt r 48 1 }
  else none

/-- MCAST record (R301). -/
def parseMcast (i : Nat) (r : List Byte) : Option McastRec :=
  if decide (numAt r 0 1 = i) && zeros r 152 8 then
    some { tree := i, part := numAt r 1 1, lead := numAt r 2 1, token := numAt r 3 1, dstAddr := numAt r 4 4,
           members := setBits 128 (numAt r 8 16), parent := (List.range 128).map fun l => numAt r (24 + l) 1 }
  else none

/-- FABRIC record (R302). -/
def parseFabric (_ : Nat) (r : List Byte) : Option FabricRec :=
  if decide (numAt r 0 1 ≤ 7) && decide (numAt r 1 1 ≤ 15) && decide (numAt r 2 2 ≤ 4095) && zeros r 13 3 then
    some { port := numAt r 0 1, part := numAt r 1 1, job := numAt r 2 2, start := numAt r 4 4, length := numAt r 8 4, cls := numAt r 12 1 }
  else none

/-- STREAM record (R303): that of a full image stands at its partition's position, a partial holds its own. -/
def parseStream (partial_ : Bool) (i : Nat) (r : List Byte) : Option StreamRec :=
  if (partial_ || decide (numAt r 0 1 = i)) && decide (numAt r 0 1 ≤ 15) && decide (numAt r 1 1 ≤ 1) && zeros r 3 1 && zeros r 16 16 && zeros r 672 32 then
    some { part := numAt r 0 1, valid := decide (numAt r 1 1 = 1), layers := numAt r 2 1, hkv := numAt r 4 2, hq := numAt r 6 2, dhead := numAt r 8 2,
           ctxMax := numAt r 10 2, scale := BitVec.ofNat 32 (numAt r 12 4),
           frames := (List.range 16).map fun s => (numAt r (32 + 8 * s) 8 % 2 ^ 20, bitsOf (numAt r (32 + 8 * s) 8) 32 20),
           slots := (List.range 16).map fun s => setBits 256 (numAt r (160 + 32 * s) 32) }
  else none

/-- PRECISION record (R305). -/
def parsePrec (_ : Nat) (r : List Byte) : Option PrecRec :=
  if decide (numAt r 6 1 ≤ 1) && zeros r 9 7 && (decide (numAt r 6 1 = 1) || (within 1 3 (numAt r 7 1) && within 1 4 (numAt r 8 1))) then
    some { shape := numAt r 0 4, layer := numAt r 4 2, engine := numAt r 6 1, prec := numAt r 7 1, phases := numAt r 8 1 }
  else none

/-- CREDIT record (R306). -/
def parseCredit (_ : Nat) (r : List Byte) : Option CreditRec :=
  if decide (numAt r 0 2 ≤ 32767) && decide (numAt r 2 1 ≤ 1) && decide (numAt r 3 1 ≤ (if numAt r 2 1 = 0 then 7 else 15))
      && decide (numAt r 5 1 ≤ 15) && decide (numAt r 6 1 ≤ 127) && zeros r 7 1 && decide (numAt r 8 2 ≤ 511) && zeros r 12 4 then
    some { pool := numAt r 0 2, source := numAt r 2 1, id := numAt r 3 1, cls := numAt r 4 1, part := numAt r 5 1, cluster := numAt r 6 1,
           queue := numAt r 8 2, capacity := numAt r 10 2 }
  else none

/-- Core entry k of a leaf block (R298). -/
def parseLeafCore (b : List Byte) (k : Nat) : LeafCore :=
  let o := 64 + 48 * k
  { len := numAt b o 4, entry := numAt b (o + 4) 2, code := numAt b (o + 8) 4, check := BitVec.ofNat 32 (numAt b (o + 12) 4),
    signals := setBits 256 (numAt b (o + 16) 32) }

/-- Leaf blocks one after another (R298). -/
def parseLeaves (img : List Byte) : Nat → Nat → Nat → Nat → Except CatErr (List LeafRec)
  | 0, _, _, _ => .ok []
  | k + 1, i, pos, stop =>
    let n := numAt img (pos + 12) 4
    let b := bytesAt img pos n
    let regions := numAt b 2 2
    let reg (j : Nat) : Nat := 1600 + 16 * j
    let clean := zeros b 16 48 && (List.range 32).all (fun c => zeros b (64 + 48 * c + 6) 2)
      && (List.range regions).all fun j => zeros b (reg j + 3) 1 && zeros b (reg j + 12) 4 && within 1 4095 (numAt b (reg j) 2)
        && decide (numAt b (reg j + 2) 1 ≤ 31) && decide (numAt b (reg j + 4) 4 % 64 = 0) && decide (numAt b (reg j + 8) 4 % 64 = 0)
        && decide (numAt b (reg j + 4) 4 + numAt b (reg j + 8) 4 ≤ clMemSize)
    let block : LeafRec :=
      { cluster := numAt b 0 1, base := pos, jobs := numAt b 1 1, resEnd := numAt b 4 4, latest := numAt b 8 4,
        cores := (List.range 32).map (parseLeafCore b),
        regions := (List.range regions).map fun j =>
          { job := numAt b (reg j) 2, core := numAt b (reg j + 2) 1, addr := numAt b (reg j + 4) 4, len := numAt b (reg j + 8) 4 },
        code := b }
    if n < 1600 + 16 * regions ∨ stop < pos + n ∨ 127 < numAt b 0 1 ∨ !clean then .error { reason := 2, sec := 7, idx := i }
    else
      match parseLeaves img k (i + 1) (pos + n) stop with
      | .error e => .error e
      | .ok l => .ok (block :: l)

/-- Service records one after another, each padded to 64 bytes (R341). -/
def parseServices (img : List Byte) : Nat → Nat → Nat → Nat → Except CatErr (List ServiceRec)
  | 0, _, _, _ => .ok []
  | k + 1, i, pos, stop =>
    let adapt := numAt img (pos + 46) 2
    let n := 64 + (2 * adapt + 63) / 64 * 64
    let r := bytesAt img pos n
    let chunk := numAt r 16 4
    let ok := decide (pos + n ≤ stop) && decide (adapt ≤ 64) && zeros r 48 16 && zeros r (64 + 2 * adapt) (n - 64 - 2 * adapt)
      && decide (numAt r 0 2 ≤ 1023) && decide (numAt r 2 1 ≤ 15) && decide (numAt r 3 1 ≤ 15) && within 1 16 (numAt r 4 1)
      && within 1 255 (numAt r 5 1) && within 1 256 (numAt r 6 2) && within 1 4096 (numAt r 10 2) && within 64 65536 chunk
      && decide (chunk % 64 = 0) && within 1 1024 (numAt r 20 2) && within 1 65535 (numAt r 22 2) && decide (numAt r 24 8 % 65536 = 0)
      && decide (numAt r 32 8 % 65536 = 0) && decide (numAt r 40 4 % 64 = 0) && decide (numAt r 44 2 ≤ 4095)
    let service : ServiceRec :=
      { service := numAt r 0 2, part := numAt r 2 1, valid := (numAt r 3 1).testBit 0, input := (numAt r 3 1).testBit 1,
        gen := (numAt r 3 1).testBit 2, adapt := (numAt r 3 1).testBit 3, stages := numAt r 4 1, maxUnits := numAt r 5 1,
        batch := numAt r 6 2, engines := numAt r 8 2, maxOpen := numAt r 10 2, shape := numAt r 12 4, chunkMax := chunk,
        unitBytes := numAt r 20 2, cost := numAt r 22 2, inputAddr := numAt r 24 8, outAddr := numAt r 32 8, batchAddr := numAt r 40 4,
        job := numAt r 44 2, layers := (List.range adapt).map fun j => numAt r (64 + 2 * j) 2 }
    if !ok then .error { reason := 2, sec := 15, idx := i, part := recordPart 15 r }
    else match parseServices img k (i + 1) (pos + n) stop with
      | .error e => .error e
      | .ok l => .ok (service :: l)

/-- Quota record of partition p at an offset (R304). -/
def parseQuota (img : List Byte) (o : Nat) : QuotaRec :=
  { dirLimit := numAt img (o + 2) 2, aslotFirst := numAt img (o + 4) 2, aslotCount := numAt img (o + 6) 2, libraryMib := numAt img (o + 8) 4,
    adapterMib := (List.range 16).map fun s => numAt img (o + 12 + 2 * s) 2 }

/-- Section record at an offset, its slot list from the section start `base` (R304). -/
def parseSection (img : List Byte) (base o : Nat) : SectionRec :=
  let r := bytesAt img o 48
  let n := numAt r 8 4
  { sec := numAt r 0 2, part := numAt r 2 1, resident := decide (numAt r 3 1 = 1), shape := numAt r 4 4, tiles := n,
    blobBytes := numAt r 12 4, masterAddr := numAt r 16 8, wordAddr := numAt r 24 4, volume := numAt r 32 8, version := numAt r 40 2,
    slots := (List.range n).map fun t => numAt img (base + numAt r 28 4 + 2 * t) 2 }

/-- Are the fields of a section record inside their ranges, its slot list inside the section? -/
def sectionFieldsOk (img : List Byte) (x : SectionHdr) (o : Nat) : Bool :=
  let r := bytesAt img o 48
  decide (numAt r 0 2 ≤ 510) && decide (numAt r 2 1 ≤ 15) && decide (numAt r 3 1 ≤ 1) && decide (numAt r 16 8 % 65536 = 0)
    && decide (numAt r 24 4 % 8 = 0) && decide (numAt r 24 4 + 8 ≤ clMemSize) && decide (numAt r 28 4 + 2 * numAt r 8 4 ≤ x.len)
    && zeros r 42 6 && (decide (numAt r 3 1 = 1) || zeros r 32 10)

/-- The SHELVER section (R304): share, REQUIRE_SIGNED, keys, quotas, sections. -/
def parseShelver (img : List Byte) (d : List SectionHdr) : Except CatErr (Nat × Bool × List (List Byte) × List QuotaRec × List SectionRec) :=
  match d.find? fun x => decide (x.type = 12) with
  | none => .ok (4, false, [], [], [])
  | some x =>
    let m := x.off + 16
    let q (p : Nat) : Nat := m + 512 + 48 * p
    let sec (i : Nat) : Nat := m + 512 + 768 + 48 * i
    let keys := numAt img (m + 2) 1
    let ok := decide (numAt img m 1 ≤ 8) && decide (numAt img (m + 1) 1 ≤ 1) && decide (keys ≤ 15) && zeros img (m + 3) 5 && zeros img (m + 396) 116
      && decide (16 + 512 + 768 + 48 * x.records ≤ x.len)
      && (List.range 16).all fun p => decide (numAt img (q p) 1 = p) && zeros img (q p + 1) 1 && zeros img (q p + 44) 4
        && decide (numAt img (q p + 2) 2 ≤ 16384) && decide (numAt img (q p + 4) 2 + numAt img (q p + 6) 2 ≤ 8192)
    if !ok then .error { reason := 2, sec := 12 }
    else match (List.range x.records).find? fun i => !sectionFieldsOk img x (sec i) with
      | some i => .error { reason := 2, sec := 12, idx := i, part := recordPart 12 (bytesAt img (sec i) 48) }
      | none => .ok (numAt img m 1, decide (numAt img (m + 1) 1 = 1),
          (List.range 4).map fun i => if keys.testBit i then bytesAt img (m + 8 + 97 * i) 97 else [],
          (List.range 16).map fun p => parseQuota img (q p),
          (List.range x.records).map fun i => parseSection img x.off (sec i))

/-- Records of a section that vary in length: where they begin and end, and their count. -/
def spanOf (d : List SectionHdr) (t : Nat) : Nat × Nat × Nat :=
  match d.find? fun x => decide (x.type = t) with
  | some x => (x.records, x.off + 16, x.off + x.len)
  | none => (0, 0, 0)

/-- Section types a full image must carry (R292). -/
def requiredTypes : List Nat := [1, 2, 3, 5, 7, 8, 11, 12, 15]

/-- An image as its sections give it, or the first FORMAT refusal (R309). -/
def Cat.parseBody (img : List Byte) : Except CatErr Cat := do
  if !headerOk img then throw { reason := 2 }
  let d ← directory img
  let full := decide (numAt img 6 1 = 0)
  match requiredTypes.find? fun t => full && !(d.any fun x => decide (x.type = t)) with
  | some t => throw { reason := 2, sec := t }
  | none => pure ()
  let parts ← parseAll img d 1 parsePart
  let hosts ← parseAll img d 2 parseHost
  let regions ← parseAll img d 3 parseRegion
  let tenants ← parseAll img d 4 parseTenant
  let clusters ← parseAll img d 5 parseCluster
  let queues ← parseAll img d 6 parseQueue
  let lv := spanOf d 7
  let leaves ← parseLeaves img lv.1 0 lv.2.1 lv.2.2
  let slots ← parseAll img d 8 parseSlot
  let mcasts ← parseAll img d 9 parseMcast
  let fabrics ← parseAll img d 10 parseFabric
  let streams ← parseAll img d 11 (parseStream (!full))
  let sh ← parseShelver img d
  let precs ← parseAll img d 13 parsePrec
  let credits ← parseAll img d 14 parseCredit
  let sv := spanOf d 15
  let services ← parseServices img sv.1 0 sv.2.1 sv.2.2
  pure { partial_ := !full, part := numAt img 7 1, catId := numAt img 8 8, gen := numAt img 16 4, baseGen := numAt img 20 4,
         tickUs := numAt img 30 2, floorMhz := numAt img 32 2, syncMode := numAt img 34 1, acceptDegraded := decide (numAt img 35 1 = 1),
         refillTicks := numAt img 36 4, present := d.map fun x => x.type, parts, hosts, regions, tenants, clusters, queues, leaves, slots,
         mcasts, fabrics, streams, share := sh.1, requireSigned := sh.2.1, volKeys := sh.2.2.1, quotas := sh.2.2.2.1,
         sections := sh.2.2.2.2, precs, credits, services }

/-- A refusal names the partition of a partial where its condition has no other (R310). -/
def CatErr.ofImage (img : List Byte) (e : CatErr) : CatErr :=
  if e.part.isNone ∧ numAt img 6 1 = 1 ∧ numAt img 7 1 < 16 then { e with part := some (numAt img 7 1) } else e

/-- An image as its sections give it, or the first SIGNATURE or FORMAT refusal (R309). -/
def Cat.parse (keys : List (List Byte)) (img : List Byte) : Except CatErr Cat :=
  if sigOk keys img then (Cat.parseBody img).mapError (CatErr.ofImage img) else .error { reason := 1 }

end Sys2Proof.Machine
end

