-- ==== Sys2Proof/Machine/Formats.lean ====
section
/-! DEFINITION. Number formats and exact floating-point arithmetic: values are exact dyadic numbers, rounded once to nearest even
where the spec rounds (R102, R177 to R182, R224). -/
namespace Sys2Proof.Machine
open Sys2Proof

/-- A floating-point value: NaN, an infinity, or (−1)^neg · m · 2^e. -/
inductive Fp where
  | nan
  | inf (neg : Bool)
  | fin (neg : Bool) (m : Nat) (e : Int)
deriving DecidableEq, Repr

/-- What the topmost exponent of a format holds (R177): infinities and NaNs, one NaN only, or finite values. -/
inductive FpTop where
  | ieee | nanOnly | finite
deriving DecidableEq, Repr

/-- A binary format: exponent bits, fraction bits, bias, topmost exponent. -/
structure FpFmt where
  eb : Nat
  mb : Nat
  bias : Nat
  top : FpTop
deriving DecidableEq, Repr

/-- FP32. -/
def fmtF32 : FpFmt := ⟨8, 23, 127, .ieee⟩
/-- BF16. -/
def fmtBf16 : FpFmt := ⟨8, 7, 127, .ieee⟩
/-- FP16. -/
def fmtF16 : FpFmt := ⟨5, 10, 15, .ieee⟩
/-- FP8 E4M3 (R177). -/
def fmtE4M3 : FpFmt := ⟨4, 3, 7, .nanOnly⟩
/-- FP8 E5M2 (R177). -/
def fmtE5M2 : FpFmt := ⟨5, 2, 15, .ieee⟩
/-- MXFP6 element E3M2 (R177). -/
def fmtE3M2 : FpFmt := ⟨3, 2, 3, .finite⟩
/-- MXFP6 element E2M3 (R177). -/
def fmtE2M3 : FpFmt := ⟨2, 3, 1, .finite⟩
/-- MXFP4 element E2M1 (R177). -/
def fmtE2M1 : FpFmt := ⟨2, 1, 1, .finite⟩

/-- Width of a format. -/
def fpWidth (f : FpFmt) : Nat := 1 + f.eb + f.mb

/-- Decode a pattern; subnormals and negative zero are kept (R177). -/
def fpOf (f : FpFmt) (v : Nat) : Fp :=
  let neg := v.testBit (f.eb + f.mb)
  let ex := bitsOf v f.mb f.eb
  let fr := bitsOf v 0 f.mb
  let topNan := match f.top with
    | .ieee => decide (ex = 2 ^ f.eb - 1)
    | .nanOnly => decide (ex = 2 ^ f.eb - 1) && decide (fr = 2 ^ f.mb - 1)
    | .finite => false
  if topNan then (if f.top = .ieee ∧ fr = 0 then .inf neg else .nan)
  else if ex = 0 then .fin neg fr (1 - (f.bias : Int) - f.mb)
  else .fin neg (2 ^ f.mb + fr) ((ex : Int) - f.bias - f.mb)

/-- m / 2^k to nearest, ties to even. -/
def shiftRNE (m k : Nat) : Nat :=
  let q := m >>> k
  let r := m % 2 ^ k
  if 2 * r < 2 ^ k then q else if 2 * r > 2 ^ k then q + 1 else if q % 2 = 0 then q else q + 1

/-- Canonical NaN of a format (R102, R182). -/
def canonicalNan (f : FpFmt) : Nat :=
  match f.top with
  | .ieee => (2 ^ f.eb - 1) * 2 ^ f.mb + 2 ^ (f.mb - 1)
  | _ => 2 ^ (f.eb + f.mb) - 1

/-- Largest finite pattern of a format, without its sign. -/
def largestFinite (f : FpFmt) : Nat :=
  match f.top with
  | .ieee => (2 ^ f.eb - 1) * 2 ^ f.mb - 1
  | .nanOnly => 2 ^ (f.eb + f.mb) - 2
  | .finite => 2 ^ (f.eb + f.mb) - 1

/-- Round a magnitude m · 2^e to a format, to nearest even: the pattern it would have with an unbounded exponent (R178, R182). -/
def roundMag (f : FpFmt) (m : Nat) (e : Int) : Nat :=
  if m = 0 then 0
  else
    let emin : Int := 1 - (f.bias : Int) - f.mb
    let q := max (e + (Nat.log2 m : Int) - f.mb) emin
    let r := if q ≤ e then m <<< (e - q).toNat else shiftRNE m (q - e).toNat
    -- r < 2^(mb + 1), or equal to it after a carry: adding it to the exponent's place carries into the exponent
    (q - emin).toNat * 2 ^ f.mb + r

/-- Encode a value with one rounding; `sat`: FP8_SAT of R182, overflow and infinities give the largest finite value. -/
def fpTo (f : FpFmt) (sat : Bool) : Fp → Nat
  | .nan => canonicalNan f
  | .inf neg =>
    let s := bitNat neg * 2 ^ (f.eb + f.mb)
    if sat then s + largestFinite f
    else if f.top = .ieee then s + largestFinite f + 1 else canonicalNan f
  | .fin neg m e =>
    let s := bitNat neg * 2 ^ (f.eb + f.mb)
    let r := roundMag f m e
    if r ≤ largestFinite f then s + r
    else if sat || decide (f.top = .finite) then s + largestFinite f
    else if f.top = .ieee then s + largestFinite f + 1 else canonicalNan f

/-- Exact product (R178). -/
def fpMul : Fp → Fp → Fp
  | .nan, _ => .nan
  | _, .nan => .nan
  | .inf a, .inf b => .inf (a != b)
  | .inf a, .fin b m _ => if m = 0 then .nan else .inf (a != b)
  | .fin a m _, .inf b => if m = 0 then .nan else .inf (a != b)
  | .fin a m e, .fin b n g => .fin (a != b) (m * n) (e + g)

/-- A finite value as an integer multiple of 2^e0, for e0 ≤ e. -/
def fpScaled (neg : Bool) (m : Nat) (e e0 : Int) : Int :=
  let k : Int := ((m <<< (e - e0).toNat : Nat) : Int)
  if neg then -k else k

/-- Exact sum (R178); an exact zero sum of opposite signs is +0. -/
def fpAdd : Fp → Fp → Fp
  | .nan, _ => .nan
  | _, .nan => .nan
  | .inf a, .inf b => if a = b then .inf a else .nan
  | .inf a, .fin _ _ _ => .inf a
  | .fin _ _ _, .inf b => .inf b
  | .fin a m e, .fin b n g =>
    let e0 := min e g
    let x := fpScaled a m e e0 + fpScaled b n g e0
    if x = 0 then .fin (decide (m = 0) && decide (n = 0) && a && b) 0 e0
    else .fin (decide (x < 0)) x.natAbs e0

/-- Change of sign. -/
def fpNeg : Fp → Fp
  | .nan => .nan
  | .inf a => .inf (!a)
  | .fin a m e => .fin (!a) m e

/-- a < b for values that are not NaN. -/
def fpLt : Fp → Fp → Bool
  | .nan, _ => false
  | _, .nan => false
  | .inf a, .inf b => a && !b
  | .inf a, .fin _ _ _ => a
  | .fin _ _ _, .inf b => !b
  | .fin a m e, .fin b n g =>
    let e0 := min e g
    decide (fpScaled a m e e0 < fpScaled b n g e0)

/-- Is the value a zero? -/
def fpIsZero : Fp → Bool
  | .fin _ m _ => decide (m = 0)
  | _ => false

/-- Is the sign bit set? -/
def fpSign : Fp → Bool
  | .nan => false
  | .inf a => a
  | .fin a _ _ => a

/-- Maximum that propagates NaN and treats +0 as greater than −0 (R191). -/
def fpMax (a b : Fp) : Fp :=
  if a = .nan ∨ b = .nan then .nan
  else if fpIsZero a && fpIsZero b then (if fpSign a then b else a)
  else if fpLt a b then b else a

/-- Minimum, the mirror of `fpMax`. -/
def fpMin (a b : Fp) : Fp := fpNeg (fpMax (fpNeg a) (fpNeg b))

/-- An integer as an exact value. -/
def fpInt (x : Int) : Fp := .fin (decide (x < 0)) x.natAbs 0

/-- Multiply by a power of two, exactly. -/
def fpScale (v : Fp) (k : Int) : Fp :=
  match v with
  | .fin a m e => .fin a m (e + k)
  | x => x

/-- Quotient of finite values rounded to FP32: the quotient is taken to 64 bits more than its operands need, and a remainder
is kept as a last bit, so the one rounding to nearest even is exact. -/
def fpDiv : Fp → Fp → Fp
  | .nan, _ => .nan
  | _, .nan => .nan
  | .inf _, .inf _ => .nan
  | .inf a, .fin b _ _ => .inf (a != b)
  | .fin a _ _, .inf b => .fin (a != b) 0 0
  | .fin a m e, .fin b n g =>
    if n = 0 then (if m = 0 then .nan else .inf (a != b))
    else
      let k := 64 + Nat.log2 n
      let q := (m <<< k) / n
      let r := (m <<< k) % n
      .fin (a != b) (2 * q + (if r = 0 then 0 else 1)) (e - g - k - 1)

/-- Round a value to FP32. -/
def round32 (v : Fp) : F32 := BitVec.ofNat 32 (fpTo fmtF32 false v)

/-- The value of an FP32 pattern. -/
def val32 (b : F32) : Fp := fpOf fmtF32 b.toNat

/-- Nearest integer of a finite value, ties to even. -/
def fpToInt (neg : Bool) (m : Nat) (e : Int) : Int :=
  let r : Nat := if 0 ≤ e then m <<< e.toNat else shiftRNE m (-e).toNat
  if neg then -(r : Int) else r

end Sys2Proof.Machine
end

