-- ==== Sys2Proof/Machine/Queues.lean ====
section
/-! DEFINITION. The queue manager: cells, room, arrivals, notices, emptying, and the core's QPUSH and QPOP
(R107, R108, R144 to R165). Reserved cells of a SCHED queue are log entry 16; the time course of a copy is log entry 93. -/
namespace Sys2Proof.Machine
open Sys2Proof

/-- Cells of a packet (R147). -/
def cellsOf (len : Nat) : Nat := ceilDiv len 56

/-- Device address of a cell (R144). -/
def State.cellAddr (s : State) (l c : Nat) : Nat := clMem l + s.fld (qmPoolCfgBase l) * 0x20000 + 64 * c

/-- Cells of packets listed. -/
def spillCells (l : List QSpill) : Nat := sumNat (l.map fun p => cellsOf p.len)

/-- QM_QSTAT shows the queue. -/
def State.showQueue (s : State) (l q : Nat) : State :=
  let k := s.queue l q
  let arr := match k.arriving with | some a => a.pkt.cells.length | none => 0
  let s := s.setFld (qmQstatCells l q) (sumNat (k.pkts.map fun p => p.cells.length) + arr)
  let s := s.setFld (qmQstatBinCells l q) (spillCells k.bin)
  let s := s.setFlag (qmQstatArriving l q) k.arriving.isSome
  s.setFld (qmQstatArrived l q) (match k.arriving with | some a => a.written | none => 0)

/-- QM_POOL_FREE shows the pool. -/
def State.showPool (s : State) (l : Nat) : State :=
  let s := s.setFld (qmPoolFreeFree l) (s.pool l).free.length
  s.setFld (qmPoolFreeStageFree l) (s.fld (qmPoolCfgStageCells l) - spillCells (s.pool l).staging)

/-- Descriptor word of a notice (R155). -/
def noticeWord (kind : Nat) (poison chk : Bool) (bytes head tag seq : Nat) : W64 :=
  BitVec.ofNat 64 (2 ^ 63 + kind * 2 ^ 60 + bitNat poison * 2 ^ 59 + bitNat chk * 2 ^ 58 + (bytes % 2 ^ 13) * 2 ^ 45
    + (head % 2 ^ 15) * 2 ^ 30 + (tag % 2 ^ 16) * 2 ^ 14 + seq % 2 ^ 14)

/-- The GAP notice of a queue's discards (R154, R155). DESIGN CHOICE (log entry 94): the spec names no TAG for it; it is 0. -/
def gapNotice (k : QueueSt) : W64 := noticeWord 6 false false (Nat.min k.gapCount 4096) 0 0 k.gapSeq

/-- The GAP notice of the queue's discards, if it has any (R163). -/
def State.flushGap (s : State) (l q : Nat) : State :=
  if (s.queue l q).gapCount = 0 then s
  else s.modQueue l q fun k => { k with notices := k.notices ++ [gapNotice k], gapCount := 0, gapWaits := false }

/-- A GAP that waited for the queue to come into use is its first notice (R159). -/
def State.flushGapFirst (s : State) (l q : Nat) : State :=
  if (s.queue l q).gapCount = 0 then s
  else s.modQueue l q fun k => { k with notices := gapNotice k :: k.notices, gapCount := 0, gapWaits := false }

/-- Post a notice; a GAP due comes before it. -/
def State.postNotice (s : State) (l q : Nat) (w : W64) : State :=
  (s.flushGap l q).modQueue l q fun k => { k with notices := k.notices ++ [w] }

/-- The unused payload bytes of a last cell: the spec gives them no value (log entry 5). -/
def State.padBytes (s : State) (n : Nat) : List Byte :=
  (List.range n).map fun i => (Config.freeWord (s.free + i)).setWidth 8

/-- Write cell i of a packet: header and payload in one access, with its mark (R146). -/
def State.writeCell (s : State) (l : Nat) (p : QPacket) (data : List Byte) (poison : List Bool) (check : BitVec 32) (i : Nat) :
    State :=
  let n := p.cells.length
  let last := decide (i + 1 = n)
  let used := if last then p.len - 56 * i else 56
  let top := if last then check.toNat else p.cells.getD (i + 1) 0
  let hdr := top * 2 ^ 32 + bitNat last * 2 ^ 31 + used * 2 ^ 25 + i * 2 ^ 18 + p.seq * 2 ^ 4
  let body := (data.drop (56 * i)).take used
  let bytes := leBytes 8 hdr ++ body ++ s.padBytes (56 - body.length)
  (s.storeMem (s.cellAddr l (p.cells.getD i 0)) bytes (allBits 64 (poison.getD i false))).draw 56

/-- Write cells from a to b − 1 of a packet, in payload order (R147). -/
def State.writeCells (s : State) (l : Nat) (p : QPacket) (data : List Byte) (poison : List Bool) (check : BitVec 32) (a b : Nat) :
    State :=
  (List.range (b - a)).foldl (fun s i => s.writeCell l p data poison check (a + i)) s

/-- Packets of a queue that are spilled: in the bin or still in staging (R151, R163). -/
def State.spilled (s : State) (l q : Nat) : List QSpill :=
  (s.queue l q).bin ++ (s.pool l).staging.filter fun p => decide (p.q = q)

/-- Pool cells a queue holds (CELLS of QM_QSTAT). -/
def queueCells (k : QueueSt) : Nat :=
  sumNat (k.pkts.map fun p => p.cells.length) + (match k.arriving with | some a => a.pkt.cells.length | none => 0)

/-- Has a queue no room for a packet of n cells (R151)? `sched`: a scheduled arrival into a SCHED queue takes reserved cells. -/
def State.noRoom (s : State) (l q n : Nat) (sched : Bool) : Bool :=
  let k := s.queue l q
  let supply := if sched then k.reserved.length else (s.pool l).free.length
  decide (supply < n) || decide (s.fld (qmQcfgMaxCells l q) < queueCells k + n) || !(s.spilled l q).isEmpty || k.arriving.isSome

/-- Take n cells: from the head of the shared free list, or from the queue's reserved cells (R147, R153). -/
def State.takeCells (s : State) (l q n : Nat) (sched : Bool) : List Nat × State :=
  if sched then
    ((s.queue l q).reserved.take n, s.modQueue l q fun k => { k with reserved := k.reserved.drop n })
  else ((s.pool l).free.take n, s.modPool l fun p => { p with free := p.free.drop n })

/-- The SEQ of the next packet of a queue (R147). -/
def State.takeSeq (s : State) (l q : Nat) : Nat × State :=
  (s.fld (qmQstatNextSeq l q), s.incWrap (qmQstatNextSeq l q) 1)

/-- Cells taken for a packet read without a poison mark until they are written (R156). -/
def State.cleanCells (s : State) (l : Nat) (cells : List Nat) : State := s.setMarks (cells.map fun c => s.cellAddr l c / 64) false

/-- A packet's first cell arrives and finds room: its cells are taken (R147, R152, R156). `by_`: the core and job of a QPUSH. -/
def State.beginArrival (s : State) (l q len tag : Nat) (data : List Byte) (poison : List Bool) (check : BitVec 32)
    (by_ : Option (Nat × Nat)) (pool : Option Nat) (sched : Bool) : State :=
  let t := s.takeCells l q (cellsOf len) sched
  let e := (t.2.cleanCells l t.1).takeSeq l q
  let pkt : QPacket := { seq := e.1, tag, len, cells := t.1, cut := false, popped := false }
  let a : QArrival := { pkt, push := by_.isSome, data, poison, check, thresh := s.fld (qmCutThreshThresh l q), written := 0,
                        core := (by_.getD (0, 0)).1, job := (by_.getD (0, 0)).2, start := s.t, pool }
  let s := e.2.modQueue l q fun k => { k with arriving := some a }
  (s.showQueue l q).showPool l

/-- Cells of an arriving packet that its producer delivers whole: all of them, or those before the point at which it stopped (R158). -/
def QArrival.whole (a : QArrival) : Nat := if a.data.length < a.pkt.len then a.data.length / 56 else a.pkt.cells.length

/-- The first THRESH cells of a packet that will be cut are written and its CUT notice is posted (R154, R156). -/
def State.cutArrival (s : State) (l q : Nat) : State :=
  match (s.queue l q).arriving with
  | none => s
  | some a =>
    if a.thresh = 0 ∨ a.pkt.cells.length ≤ a.thresh ∨ a.whole < a.thresh ∨ a.pkt.cut then s
    else
      let s := s.writeCells l a.pkt a.data a.poison a.check a.written a.thresh
      let w := noticeWord 2 ((a.poison.take a.thresh).any id) false a.pkt.len (a.pkt.cells.getD 0 0) a.pkt.tag a.pkt.seq
      let s := s.postNotice l q w
      (s.modQueue l q fun k => { k with
        arriving := some { a with pkt := { a.pkt with cut := true }, written := a.thresh } }).showQueue l q

/-- Mark every cell of a packet (R157). -/
def State.poisonCells (s : State) (l : Nat) (cells : List Nat) : State :=
  s.setMarks (cells.map fun c => s.cellAddr l c / 64) true

/-- A queue's record against its JOB (R157, R163). -/
def recQueueCheck (s : State) (l q addr : Nat) : Rec :=
  recCluster s l 3 6 0 (s.fld (qmQcfgJob l q)) (4 * 2 ^ 60 + addr % 2 ^ 40)

/-- What the pushing core's latch adds to a QPUSH copy: once it is set for the job, every cell not yet written carries poison (R111). -/
def State.latchArrival (s : State) (l q : Nat) : State :=
  match (s.queue l q).arriving with
  | none => s
  | some a =>
    if a.push && (s.cs a.core).latch && decide ((s.cs a.core).job.toNat = a.job) then
      s.modQueue l q fun k => { k with arriving := some { a with poison := a.poison.zipIdx.map fun e => e.1 || decide (a.written ≤ e.2) } }
    else s

/-- A packet whose producer stops after n cells (R158): unwritten cells are marked poisoned; ABORT after a CUT, else FULL with POISON. -/
def State.stopArrival (s : State) (l q n : Nat) : State :=
  let s := s.latchArrival l q
  let s := match (s.queue l q).arriving with
    | some a => if a.thresh ≤ n then s.cutArrival l q else s
    | none => s
  match (s.queue l q).arriving with
  | none => s
  | some a =>
    let s := s.writeCells l a.pkt a.data a.poison a.check a.written n
    let s := s.poisonCells l (a.pkt.cells.drop n)
    let w := noticeWord (if a.pkt.cut then 4 else 1) true false a.pkt.len (a.pkt.cells.getD 0 0) a.pkt.tag a.pkt.seq
    let s := s.postNotice l q w
    (s.modQueue l q fun k => { k with arriving := none, pkts := k.pkts ++ [a.pkt] }).showQueue l q

/-- The last cell of the arriving packet is written, its check value verified, its ending notice posted (R154, R157). -/
def State.endArrival (s : State) (l q : Nat) : State :=
  let s := s.latchArrival l q
  match (s.queue l q).arriving with
  | none => s
  | some a =>
    let n := a.pkt.cells.length
    let s := s.cutArrival l q
    let a := ((s.queue l q).arriving).getD a
    let s := s.writeCells l a.pkt a.data a.poison a.check a.written n
    let clean := !(a.poison.any id)
    let bad := clean && decide (crc32c a.data ≠ a.check)
    let s := if bad then (s.poisonCells l a.pkt.cells).post (recQueueCheck s l q (s.cellAddr l (a.pkt.cells.getD 0 0))) else s
    let w := noticeWord (if a.pkt.cut then 3 else 1) (!clean || bad) bad a.pkt.len (a.pkt.cells.getD 0 0) a.pkt.tag a.pkt.seq
    let s := s.postNotice l q w
    (s.modQueue l q fun k => { k with arriving := none, pkts := k.pkts ++ [a.pkt] }).showQueue l q

/-- The arriving packet ends: whole, or where its producer stopped. -/
def State.finishArrival (s : State) (l q : Nat) : State :=
  match (s.queue l q).arriving with
  | none => s
  | some a => if a.whole < a.pkt.cells.length then s.stopArrival l q a.whole else s.endArrival l q

/-- Cells of the arriving packet written by now: a QPUSH copy goes at 56 bytes per cycle of the cluster clock (R152), and ARRIVED counts what
a slot has delivered. -/
def State.cellsIn (s : State) (l : Nat) (a : QArrival) : Nat :=
  if a.push then Nat.min a.pkt.cells.length (Nat.max a.written ((s.t - a.start) * s.fld (pwDomainFreqCur (l / 16)) / 1000)) else a.written

/-- The producer of the arriving packet stops now (R158). A copy that has ended by then has not been cut short. -/
def State.abortArrival (s : State) (l q : Nat) : State :=
  match (s.queue l q).arriving with
  | none => s
  | some a =>
    let n := s.cellsIn l a
    if a.pkt.cells.length ≤ n then s.finishArrival l q else s.stopArrival l q n

/-- Cells of a credit pool's packet return to the pool (R164): they are no longer out, and the producer is owed them (R375). -/
def State.creditReturn (s : State) (pool : Option Nat) (cells : Nat) : State :=
  match pool with
  | none => s
  | some n => s.modCredit n fun c => { c with out := c.out - cells, owed := c.owed + cells }

/-- A packet is discarded (R159, R163): LOST counts it, a GAP will report it, its credit returns. -/
def State.discardPacket (s : State) (l q seq : Nat) (pool : Option Nat) (len : Nat) (waits : Bool) : State :=
  let s := s.incSat (qmQstatLost l q) 1
  let s := s.modQueue l q fun k => { k with
    gapCount := k.gapCount + 1,
    gapSeq := if k.gapCount = 0 then seq else k.gapSeq, gapWaits := k.gapWaits || waits }
  s.creditReturn pool (cellsOf len)

/-- Is the cluster in P0? -/
def State.inP0 (s : State) (l : Nat) : Bool := decide (s.fld (clStatusPstateNow l) = 0)

/-- Does the queue's SOURCE admit the producer: a slot entry into a SCHED queue, a credit pool into a CREDIT queue (R150)? -/
def State.admits (s : State) (l q : Nat) (pool : Option Nat) : Bool :=
  decide (s.fld (qmQcfgSource l q) = if pool.isSome then 2 else 1)

/-- A packet cut short, as spill staging holds it: whole in length, the cells that were not delivered poisoned and of no value of the spec's (R158). -/
def State.wholeSpill (s : State) (p : QSpill) : QSpill :=
  { p with
    data := p.data ++ (List.range (p.len - p.data.length)).map fun i => (Config.freeWord (s.free + i)).setWidth 8
    poison := if p.data.length < p.len then (List.range (cellsOf p.len)).map fun i => p.poison.getD i false || decide (p.data.length < 56 * (i + 1))
      else p.poison }

/-- A packet reaches a queue from a slot (R147, R150, R151, R159, R163): it begins to arrive, is spilled, or is discarded. One whose producer the
queue does not admit is discarded too (log entry 95). -/
def State.arrivePacket (s : State) (l q len tag : Nat) (data : List Byte) (poison : List Bool) (check : BitVec 32)
    (pool : Option Nat) : State :=
  let sched := pool.isNone
  let n := cellsOf len
  if !s.flag (qmQcfgEn l q) || !s.inP0 l then
    let e := s.takeSeq l q
    (e.2.discardPacket l q e.1 pool len true).showQueue l q
  else if !s.admits l q pool then
    let e := s.takeSeq l q
    (e.2.discardPacket l q e.1 pool len false).showQueue l q
  else if s.noRoom l q n sched then
    let e := s.takeSeq l q
    let s := e.2
    let held := spillCells (s.spilled l q)
    let stage := s.fld (qmPoolCfgStageCells l) - spillCells (s.pool l).staging
    if s.fld (qmQcfgBinQuota l q) < held + n ∨ stage < n then
      let s := s.discardPacket l q e.1 pool len false
      (s.post (recCluster s l 3 11 2 (s.fld (qmQcfgJob l q)) q)).showQueue l q
    else
      let s := s.incWrap (qmSpillSpilled l) 1
      let held := s.wholeSpill { q, seq := e.1, tag, len, data, poison, check, pool }
      (((s.modPool l fun p => { p with staging := p.staging ++ [held] }).showPool l).showQueue l q).draw (len - data.length)
  else (s.beginArrival l q len tag data poison check none pool sched).creditReturn pool n

/-- A whole packet arrives at once: it begins and, if it found room, ends. -/
def State.deliverPacket (s : State) (l q len tag : Nat) (data : List Byte) (poison : List Bool) (check : BitVec 32)
    (pool : Option Nat) : State :=
  let busy := (s.queue l q).arriving.isSome
  let s := s.arrivePacket l q len tag data poison check pool
  if busy then s else s.finishArrival l q

/-- Cells of packets whose ending notice has been popped return at the boundary, reserved ones to their queue, the others to the
tail of the free list in ascending index (R148, R153). -/
def State.returnCells (s : State) (l q : Nat) : State :=
  let k := s.queue l q
  let cells := sortBy id ((k.pkts.filter fun p => p.popped).foldl (fun a p => a ++ p.cells) [])
  if cells.isEmpty then s
  else
    let mine := cells.filter fun c => decide (c ∈ k.home)
    let s := s.modQueue l q fun k => { k with pkts := k.pkts.filter (fun p => !p.popped), reserved := k.reserved ++ mine }
    let s := s.modPool l fun p => { p with freed := p.freed ++ cells.filter fun c => decide (c ∉ k.home) }
    s.showQueue l q

/-- A queue is emptied (R159): its cells return to the free list, its packets in bin and staging are discarded, credits return.
LOST and the discards that a GAP will report stay. -/
def State.emptyQueue (s : State) (l q : Nat) : State :=
  let k := s.queue l q
  let cells := sortBy id (k.pkts.foldl (fun a p => a ++ p.cells) (match k.arriving with | some a => a.pkt.cells | none => []))
  let s := (s.spilled l q).foldl (fun s p => s.creditReturn p.pool (cellsOf p.len)) s
  let s := s.modQueue l q fun k => { k with
    notices := [], pkts := [], arriving := none, bin := [],
    reserved := k.reserved ++ cells.filter fun c => decide (c ∈ k.home) }
  let s := s.modPool l fun p => { p with
    free := p.free ++ cells.filter (fun c => decide (c ∉ k.home)),
    staging := p.staging.filter fun x => decide (x.q ≠ q) }
  (s.showQueue l q).showPool l

/-- Queues of a cluster that hold anything. -/
def State.busyQueues (s : State) (l : Nat) : List Nat :=
  (List.range 512).filter fun q =>
    let k := s.queue l q
    !(k.notices.isEmpty && k.pkts.isEmpty && k.arriving.isNone && (s.spilled l q).isEmpty)

/-- All queues of a cluster are emptied, with one NOTE record for its partition (R159). -/
def State.emptyCluster (s : State) (l : Nat) : State :=
  let s := (s.busyQueues l).foldl (fun s q => s.emptyQueue l q) s
  s.post (recCluster s l 1 11 1 0 0)

/-- QPUSH: push a packet into a queue of the core's cluster, or be refused, without stalling (R108, R118, R150 to R152). DESIGN CHOICE (log entry
93): a QPUSH refused because its source lies outside data scratch returns an unpoisoned 0; an accepted one takes its source bytes, their marks and the
latch as they stand when it is executed, so that a store to the source during the copy is not seen; the latch alone, when it is set later, poisons
what is not yet written. -/
def execQpush (c : CoreId) (rd : GReg) (q : Fin 512) (src : GReg) (len : Nat) (tag : BitVec 16) (s : State) :
    Host.Outcome State Fault Refusal :=
  .next (s.issue c fun s => s.needJob c fun s =>
    let l := c.val / 32
    let a := (s.gpr c src).toNat
    if len = 0 ∨ 4096 < len then
      let s := (s.setGpr c rd 0 false).setLatch c
      s.post (recCluster s l 3 11 3 (s.cs c).job.toNat q)
    else if s.gprP c src then (s.loadPoisoned c (.g rd)).setLatch c
    else if !inExtent a len 65536 then (s.setGpr c rd 0 false).refuseAccess c 7 a
    else if !s.flag (qmQcfgEn l q) || s.noRoom l q (cellsOf len) false then s.setGpr c rd 0 false
    else
      let s := s.scratchErrors c a len
      let d := s.scratch c a len
      let marks := s.scratchMarks c a len
      let latch := (s.cs c).latch
      let poison := (List.range (cellsOf len)).map fun i => latch || ((marks.drop (56 * i)).take 56).any id
      (s.beginArrival l q len tag.toNat d poison (crc32c d) (some (c.val, (s.cs c).job.toNat)) none false).setGpr c rd (BitVec.ofNat 64 (2 ^ 63)) false)

/-- Does a notice of this kind end its packet (R148)? -/
def endsPacket (kind : Nat) : Bool := decide (kind = 1) || decide (kind = 3) || decide (kind = 4) || decide (kind = 5)

/-- The oldest packet of a number whose ending notice has not been popped is popped (R148). -/
def popPacket (seq : Nat) : List QPacket → List QPacket
  | [] => []
  | p :: r => if p.seq = seq ∧ p.popped = false then { p with popped := true } :: r else p :: popPacket seq r

/-- QPOP: pop the oldest notice of a queue, or receive an empty word (R107, R148). -/
def execQpop (c : CoreId) (rd : GReg) (q : Fin 512) (s : State) : Host.Outcome State Fault Refusal :=
  .next (s.issue c fun s => s.needJob c fun s =>
    let l := c.val / 32
    match (s.queue l q).notices with
    | [] => s.setGpr c rd 0 false
    | w :: rest =>
      let seq := bitsOf w.toNat 0 14
      let ends := endsPacket (bitsOf w.toNat 60 3)
      let s := s.modQueue l q fun k => { k with
        notices := rest,
        pkts := if ends then popPacket seq k.pkts else k.pkts }
      s.setGpr c rd w false)

/-- QPUSH_COPY_COMPLETE: an accepted push finishes its copy and its notice is posted (R152). -/
def execQpushCopyComplete (l : ClusterId) (q : Fin 512) (s : State) : Host.Outcome State Fault Refusal :=
  .next (match (s.queue l q).arriving with
    | some a => if a.push then s.finishArrival l q else s
    | none => s)

end Sys2Proof.Machine
end

