-- ==== Sys2Proof/Machine/Spill.lean ====
section
/-! DEFINITION. Spill and recall: the returns bin of a partition in HBM, the spill slot and the returns slot of a cluster (R163 to R165, R299,
R428). Where a packet stands in the bin is log entry 89. -/
namespace Sys2Proof.Machine
open Sys2Proof

/-- The RETURNS_BIN region of the partition that owns a cluster (R163, R295). -/
def State.binRegion (s : State) (l : Nat) : Option RegionRec :=
  (s.partOf l).bind fun n => s.ctg.regions.find? fun r => decide (r.kind = 5) && decide (r.owner = n)

/-- The 64-byte words of a partition's returns bin in use, over the queues of its clusters. -/
def State.binUsed (s : State) (l : Nat) : List Nat :=
  s.cl.queue.foldl (fun a e => if s.partOf (e.1 / 512) = s.partOf l then e.2.bin.foldl (fun a p => a ++ p.binCells) a else a) []

/-- The n lowest-numbered words of the bin that are free. -/
def State.binFree (s : State) (l n : Nat) : List Nat :=
  let used := s.binUsed l
  ((List.range (used.length + n)).filter fun i => decide (i ∉ used)).take n

/-- The words a spilled packet's cells make: header and payload as in the pool (R146), the header of the last cell with the check value. -/
def spillCell (p : QSpill) (pad : List Byte) (i : Nat) : List Byte :=
  let n := cellsOf p.len
  let last := decide (i + 1 = n)
  let used := if last then p.len - 56 * i else 56
  let hdr := (if last then p.check.toNat else 0) * 2 ^ 32 + bitNat last * 2 ^ 31 + used * 2 ^ 25 + i * 2 ^ 18 + p.seq * 2 ^ 4
  let body := (p.data.drop (56 * i)).take used
  leBytes 8 hdr ++ body ++ pad.take (56 - body.length)

/-- A packet of spill staging is written to the returns bin through HBM write posting (R163): each cell a word, with its poison mark. -/
def State.binPacket (s : State) (l : Nat) (p : QSpill) : State :=
  let s := match s.binRegion l with
    | none => s.modQueue l p.q fun k => { k with bin := k.bin ++ [p] }
    | some r =>
      let ws := s.binFree l (cellsOf p.len)
      let s := ws.zipIdx.foldl (fun (s : State) (e : Nat × Nat) =>
        (s.hbmWrite (r.base * 2 ^ 20 + 64 * e.1) (spillCell p (s.padBytes 56) e.2) (allBits 64 (p.poison.getD e.2 false)) 0).draw 56) s
      s.modQueue l p.q fun k => { k with bin := k.bin ++ [{ p with data := [], poison := [], binCells := ws }] }
  s.showQueue l p.q

/-- Packets of staging that a spill slot of so many bytes carries, in arrival order; a packet takes its full cell count. -/
def fitSpill : Nat → List QSpill → List QSpill
  | _, [] => []
  | room, p :: r => if 64 * cellsOf p.len ≤ room then p :: fitSpill (room - 64 * cellsOf p.len) r else []

/-- Staging is written to the returns bin in arrival order, as far as the slot's bytes go (R163, R299). -/
def State.drainStaging (s : State) (l room : Nat) : State :=
  let st := (s.pool l).staging
  let go := fitSpill room st
  let s := s.modPool l fun p => { p with staging := st.drop go.length }
  (go.foldl (fun s p => s.binPacket l p) s).showPool l

/-- A packet is read back from the bin (R206, R428): its bytes, the poison of each cell, and its check value as it came. -/
def State.binFetch (s : State) (r : SlotRec) (p : QSpill) : QSpill × State :=
  match s.binRegion r.dst with
  | none => (p, s)
  | some g =>
    if p.binCells = [] then (p, s)
    else
      p.binCells.foldl (fun e w =>
        let a := g.base * 2 ^ 20 + 64 * w
        let d := e.2.gateRead r a 64 r.job
        ({ e.1 with data := e.1.data ++ (d.2.1.drop 8).take (Nat.min 56 (p.len - e.1.data.length))
                    poison := e.1.poison ++ [d.2.2.any id] }, d.1)) (p, s)

/-- Recall of one packet of a queue into shared free cells (R163): placed as one piece, RECALLED posted, credit returned. -/
def State.recallOne (s : State) (r : SlotRec) (q : Nat) (p : QSpill) : State :=
  let l := r.dst
  let n := cellsOf p.len
  let b := s.binFetch r p
  let p := b.1
  let t := b.2.takeCells l q n false
  let pkt : QPacket := { seq := p.seq, tag := p.tag, len := p.len, cells := t.1, cut := false, popped := false }
  let s := t.2.writeCells l pkt p.data p.poison p.check 0 n
  let clean := !(p.poison.any id)
  let bad := clean && decide (crc32c p.data ≠ p.check)
  let s := if bad then (s.poisonCells l pkt.cells).post (recQueueCheck s l q (s.cellAddr l (pkt.cells.getD 0 0))) else s
  let s := s.postNotice l q (noticeWord 5 (!clean || bad) bad p.len (pkt.cells.getD 0 0) p.tag p.seq)
  let s := s.modQueue l q fun k => { k with pkts := k.pkts ++ [pkt], bin := k.bin.drop 1 }
  let s := (s.incWrap (qmSpillRecalled l) 1).creditReturn p.pool n
  (s.showQueue l q).showPool l

/-- Recall a queue's packets in SEQ order until one does not fit, in the pool or in what is left of the slot's bytes; answers those bytes and
whether all fitted. -/
def State.recallQueue (s : State) (r : SlotRec) (q room : Nat) : List QSpill → State × Nat × Bool
  | [] => (s, room, true)
  | p :: rest =>
    let l := r.dst
    let n := cellsOf p.len
    if (s.pool l).free.length < n ∨ s.fld (qmQcfgMaxCells l q) < queueCells (s.queue l q) + n ∨ (s.queue l q).arriving.isSome
        ∨ room < 64 * n then (s, room, false)
    else (s.recallOne r q p).recallQueue r q (room - 64 * n) rest

/-- Recall queue by queue in ascending number, stopping at the first packet that does not fit (R163). -/
def State.recallAll (s : State) (r : SlotRec) (room : Nat) : List Nat → State
  | [] => s
  | q :: rest =>
    let e := s.recallQueue r q room (s.queue r.dst q).bin
    if e.2.2 then e.1.recallAll r e.2.1 rest else e.1

/-- The returns slot of a cluster opens: spilled packets come back into free pool cells (R163, R299). -/
def State.openReturns (s : State) (r : SlotRec) : State :=
  s.recallAll r r.bytes ((List.range 512).filter fun q => !(s.queue r.dst q).bin.isEmpty)

end Sys2Proof.Machine
end

