-- ==== Sys2Proof/Machine/Codeword.lean ====
section
/-! DEFINITION. Codewords of a fabric link: the header, the lanes, the place of a codeword in time (R365, R366, R378). Log entry 108. -/
namespace Sys2Proof.Machine
open Sys2Proof

/-- The 20-bit header of the codeword with a place in the stream: the framing pattern and CW_COUNT, which wraps (R365). -/
def codewordHeader (n : Nat) : BitVec 20 := 0b1010#4 ++ BitVec.ofNat 16 n

/-- Does a header hold the framing pattern (R365)? -/
def framed (h : BitVec 20) : Bool := decide (h.extractLsb' 16 4 = 0b1010#4)

/-- CW_COUNT of a header (R365). -/
def cwCount (h : BitVec 20) : Nat := (h.setWidth 16).toNat

/-- The symbols of a codeword that lane j carries: every fourth, from symbol j (R365). -/
def laneSymbols (w : List (BitVec 10)) (j : Nat) : List (BitVec 10) := (List.range 136).map fun i => w.getD (4 * i + j) 0

/-- The four lanes of a codeword (R365). -/
def lanesOf (w : List (BitVec 10)) : List (List (BitVec 10)) := (List.range 4).map (laneSymbols w)

/-- The codeword that four aligned lanes carry (R365). -/
def alignLanes (l : List (List (BitVec 10))) : List (BitVec 10) := (List.range 544).map fun i => (l.getD (i % 4) []).getD (i / 4) 0

/-- The next codeword free at a port, counted in codewords of 6.4 ns since reset (R365): those between carried idle flits (R367). -/
def State.nextCodeword (s : State) (p : Nat) : Nat := Nat.max (s.fport p).cw (10 * s.now / 64)

/-- The codeword header of what leaves a port now. -/
def State.txHeader (s : State) (p : Nat) : BitVec 20 := codewordHeader (s.nextCodeword p)

/-- The packet header in the first 32 payload bytes of a FIRST flit, with LEN, and the data bytes and POISON bits that came with it (R366, R378). -/
def partialOf (f : Flit) : PartialPkt :=
  let h := f.payload
  { vc := f.vc
    len := numAt h 12 2
    pkt := { cls := f.cls, op := numAt h 0 1 / 16, dstPart := numAt h 1 1 % 16, dest := numAt h 2 2 % 4096, src := numAt h 4 2 % 4096,
             job := numAt h 6 2 % 4096, pool := numAt h 8 2 % 2 ^ 15, tag := numAt h 10 2, tick := numAt h 14 2, offset := numAt h 16 5,
             check := BitVec.ofNat 32 (numAt h 24 4), data := h.drop 32, poison := f.poison } }

/-- The packet being received after an accepted data flit (R378): complete at LAST. -/
def PartialPkt.take (k : Option PartialPkt) (f : Flit) : Option PartialPkt :=
  if f.last then none
  else if f.first then some (partialOf f)
  else k.map fun x => { x with pkt := { x.pkt with data := x.pkt.data ++ f.payload, poison := x.pkt.poison ++ f.poison } }

end Sys2Proof.Machine
end

