-- ==== Sys2Proof/Machine/Route.lean ====
section
/-! DEFINITION. Fabric routing, credits, control messages and the sending of a packet (R362, R367, R370 to R376, R380, R384 to R389, R394, R395). A packet whose
credits and replay room are there leaves whole. Log entries 32, 33, 45. -/
namespace Sys2Proof.Machine
open Sys2Proof

/-- Port states (FB_PORT_STATE). -/
def portOff : Nat := 0
/-- See `portOff`. -/
def portTraining : Nat := 1
/-- See `portOff`. -/
def portIdent : Nat := 2
/-- See `portOff`. -/
def portUp : Nat := 3
/-- See `portOff`. -/
def portQuarantined : Nat := 4
/-- See `portOff`. -/
def portDown : Nat := 5
/-- See `portOff`. -/
def portDisabled : Nat := 6

/-- Does a port lie on a bridge's native side (R419, R420)? -/
def State.nativeSide (s : State) (p : Nat) : Bool := decide (s.syncMode = 3) && decide (4 ≤ p)

/-- This module's number as a port's side knows it (R387, R420). -/
def State.ownNumber (s : State) (p : Nat) : Nat := if s.nativeSide p then s.fld fbBridgeIdNativeModule else s.fld fbCoordModule

/-- State of a fabric port. -/
def State.fbState (s : State) (p : Nat) : Nat := s.fld (fbPortStateState p)

/-- Is the port UP? -/
def State.fbUp (s : State) (p : Nat) : Bool := decide (s.fbState p = portUp)

/-- Coordinate of this module in dimension d. -/
def State.coordOf (s : State) (d : Nat) : Nat := s.fld (match d with | 0 => fbCoordX | 1 => fbCoordY | _ => fbCoordZ)

/-- Size of dimension d. -/
def State.dimOf (s : State) (d : Nat) : Nat := 1 + s.fld (match d with | 0 => fbCoordDxm1 | 1 => fbCoordDym1 | _ => fbCoordDzm1)

/-- The next hop of dimension-order routing (R388): the dimension and whether it goes in the + direction; none at the destination. -/
def State.nextHop (s : State) (dest : Nat) : Option (Nat × Bool) :=
  (List.range 3).findSome? fun d =>
    let size := s.dimOf d
    let c := s.coordOf d
    let t := bitsOf dest (4 * d) 4
    if t = c then none
    else some (d, decide ((t + size - c) % size ≤ (c + size - t) % size))

/-- The service port whose gateway has this number (R388, R389). -/
def State.gatewayPort (s : State) (dest : Nat) : Option Nat :=
  [6, 7].find? fun p => decide (s.fld (fbPlanNeighbourKind p) = 2) && decide (s.fld (fbPlanNeighbourModule p) = dest)

/-- The port a class 2 or class 3 packet leaves by, and its VC (R376, R388): VC1 from the wrap link of its dimension on. -/
def State.route (s : State) (src dest : Nat) : Option (Nat × Nat) :=
  match s.gatewayPort dest with
  | some p => some (p, 0)
  | none =>
    match s.nextHop dest with
    | none => none
    | some (d, plus) =>
      let c := s.coordOf d
      let o := bitsOf src (4 * d) 4
      let wraps := if plus then decide (c < o) || decide (c + 1 = s.dimOf d) else decide (o < c) || decide (c = 0)
      some (2 * d + bitNat (!plus), bitNat wraps)

/-- Flits of a packet: its 32-byte header and data in payloads of 616 bytes (R366, R378). -/
def flitsOf (k : Packet) : Nat := ceilDiv (32 + k.data.length) 616

/-- 56-byte payload units of a packet of n data bytes (R366, R380). -/
def unitsOf (n : Nat) : Nat := ceilDiv (32 + n) 56

/-- Poison bit of each data byte: that of the payload unit that carries it, the header in front (R378, R380). -/
def packetMarks (k : Packet) : List Bool := (List.range k.data.length).map fun i => k.poison.getD ((32 + i) / 56) false

/-- Every unit of a packet poisoned (R379, R381, R382). -/
def packetPoisoned (k : Packet) : Packet := { k with poison := allBits (unitsOf k.data.length) true }

/-- Poison bit of each cell of a packet's data (R380). -/
def packetCells (k : Packet) : List Bool :=
  (List.range (cellsOf k.data.length)).map fun i => (((packetMarks k).drop (56 * i)).take 56).any id

/-- Poison bits of payload units from those of the bytes of header and data (R380). -/
def unitMarks (n : Nat) (bp : List Bool) : List Bool := (List.range (unitsOf n)).map fun i => ((bp.drop (56 * i)).take 56).any id

/-- Key of a link-credit counter. -/
def creditKey (cls vc : Nat) : Nat := 2 * cls + vc

/-- Buffer of a class in flits (R374). -/
def creditSize (cls : Nat) : Nat := match cls with | 1 => 128 | 2 => 96 | 3 => 32 | _ => 0

/-- A control message goes out in a control flit of its own; it waits while the replay buffer is full (R367, R370; log entry 45). -/
def State.sendCtl (s : State) (p : Nat) (m : FbOut) : State :=
  s.modFport p fun f =>
    if f.replay.length < 512 then
      { f with replay := f.replay ++ [f.next], next := (f.next + 1) % 65536, sent := (s.txHeader p, m) :: f.sent, cw := s.nextCodeword p + 1, ctlRun := 0 }
    else { f with ctl := f.ctl ++ [m] }

/-- Control messages that waited for the replay buffer go out. -/
def State.flushCtl (s : State) (p : Nat) : State :=
  let l := (s.fport p).ctl
  l.foldl (fun s m => s.sendCtl p m) (s.modFport p fun f => { f with ctl := [] })

/-- Ingress frees flits of a buffer: credits are owed, and returned from 16 flits on (R374). -/
def State.owe (s : State) (p cls vc n : Nat) : State :=
  let k := creditKey cls vc
  let o := tabGet 0 (s.fport p).owed k + n
  if 16 ≤ o then (s.modFport p fun f => { f with owed := tabSet 0 f.owed k 0 }).sendCtl p (.credit cls vc o)
  else s.modFport p fun f => { f with owed := tabSet 0 f.owed k o }

/-- VC by which a packet arrived at a port: 1 from the wrap link of its dimension on (R376). -/
def State.arrivalVc (s : State) (p : Nat) (k : Packet) : Nat :=
  if k.cls = 1 ∨ 6 ≤ p then 0
  else
    let d := p / 2
    let c := s.coordOf d
    let o := bitsOf k.src (4 * d) 4
    bitNat (if p % 2 = 1 then decide (c < o) else decide (o < c))

/-- The ingress space of an arrived packet is free (R374). -/
def State.oweFor (s : State) (p : Nat) (k : Packet) : State := s.owe p k.cls (s.arrivalVc p k) (flitsOf k)

/-- Has this module left its domain, so that it sends no class 1 or class 2 traffic (R410)? -/
def State.hasExited (s : State) : Bool := s.fb.out

/-- Flits that n data flits take with the control flits among them, one in every 64 at least (R367). -/
def FabPort.withControl (f : FabPort) (n : Nat) : Nat := n + (f.ctlRun + n) / 63

/-- Send a packet now, if the port is UP and its credits and replay buffer have room (R370, R374, R375). -/
def State.trySend (s : State) (p : Nat) (e : Egress) : Option State :=
  let f := s.fport p
  let n := flitsOf e.pkt
  let m := f.withControl n
  let key := creditKey e.pkt.cls e.vc
  let cells := cellsOf e.pkt.data.length
  let pool := tabGet 0 f.pools e.pkt.pool
  if s.fbUp p && decide (n ≤ tabGet 0 f.credits key) && decide (f.replay.length + m ≤ 512)
      && (decide (e.pkt.cls ≠ 1) || decide (cells < pool)) && (decide (e.pkt.cls = 3) || !s.hasExited) then
    let s := s.modFport p fun f => { f with
      credits := tabSet 0 f.credits key (tabGet 0 f.credits key - n)
      pools := if e.pkt.cls = 1 then tabSet 0 f.pools e.pkt.pool (pool - cells) else f.pools
      replay := f.replay ++ (List.range m).map fun i => (f.next + i) % 65536
      next := (f.next + m) % 65536
      sent := (s.txHeader p, .packet e.pkt f.next) :: f.sent
      cw := s.nextCodeword p + m
      ctlRun := (f.ctlRun + n) % 63 }
    some (match e.from_ with
      | some (q, vc) => s.owe q e.pkt.cls vc n
      | none => s)
  else none

/-- A packet discarded at a port (R375, R379, R388, R395): counted, with its record, `sub` by R445. -/
def State.discardAt (s : State) (p : Nat) (k : Packet) (sub detail : Nat) (part : Option Nat) : State :=
  (s.incSat (fbLinkStatDiscards p) 1).post
    (recUnit 2 p (if k.cls = 3 then 1 else 3) 20 sub k.job (k.src * 2 ^ 16 + detail) part)

/-- Does a slot own the present time at a port (R373)? -/
def State.slotOwned (s : State) (p : Nat) : Bool :=
  (List.range 256).any fun e => s.flag (fbSlotTableValid p e) && decide (s.fld (fbSlotTableStart p e) ≤ s.t)
    && decide (s.t < s.fld (fbSlotTableStart p e) + s.fld (fbSlotTableLength p e))

/-- Send what a port holds of class 3: it uses time that no slot owns (R373, R384). -/
def State.drain3Loop (s : State) (p : Nat) : Nat → State
  | 0 => s
  | n + 1 =>
    match takeFirst (fun e : Egress => decide (e.pkt.cls = 3)) (s.fport p).egress with
    | none => s
    | some (e, rest) =>
      match s.trySend p e with
      | none => s
      | some s' => (s'.modFport p fun f => { f with egress := rest }).drain3Loop p n

/-- See `drain3Loop`. -/
def State.drain3 (s : State) (p : Nat) : State := if s.slotOwned p then s else s.drain3Loop p (s.fport p).egress.length

/-- A class 3 packet enters the fabric here, or passes (R373, R388): discarded where its next port is not UP. -/
def State.sendClass3 (s : State) (k : Packet) (from_ : Option (Nat × Nat)) : State :=
  match s.route k.src k.dest with
  | none => s
  | some (p, vc) =>
    if s.fbUp p then
      (s.modFport p fun f => { f with egress := f.egress ++ [{ pkt := k, vc, entry := none, any := true, from_ }] }).drain3 p
    else
      let s := match from_ with
        | some (q, v) => s.owe q 3 v (flitsOf k)
        | none => s
      s.discardAt p k 5 0 none

/-- A class 3 packet of this module (R378, R379). -/
def State.shardPacket (s : State) (op dest : Nat) (data : List Byte) : Packet :=
  { cls := 3, op, dstPart := 0, dest, src := s.fld fbCoordModule, job := 0, pool := 0, tag := 0, tick := s.tick % 65536, offset := 0,
    check := crc32c data, data, poison := allBits (unitsOf data.length) false }

/-- Ask a peer module for a shard of a volume (R249). -/
def State.askPeer (s : State) (peer id version shard : Nat) : State :=
  s.sendClass3 (s.shardPacket 1 peer ((Config.shardEncode id version shard 0 []).take 4096)) none

/-! Owned slots (R372, R384, R395). -/

/-- Discard what waits for an INERT entry: one record for each GATE_OUT it came from (R395). -/
def State.dropInert (s : State) (p : Nat) : State :=
  let dead (e : Egress) : Bool := match e.entry with | some (x, _) => s.flag (fbSlotTableInert p x) | none => false
  let l := (s.fport p).egress.filter dead
  let s := s.modFport p fun f => { f with egress := f.egress.filter fun e => !dead e }
  let gates := (l.filterMap fun e => e.entry.map fun x => (x.2, e.pkt, x.1)).foldl
    (fun acc g => if acc.any fun h : Nat × Packet × Nat => decide (h.1 = g.1) then acc else acc ++ [g]) []
  let s := s.incSat (fbLinkStatDiscards p) l.length
  gates.foldl (fun s g => s.post (recUnit 2 p 3 20 7 g.2.1.job (g.2.1.src * 2 ^ 16 + g.2.2)
    (some (s.fld (fbSlotTablePart p g.2.2))))) s

/-- May a packet go out in slot x of a port: its own slot, or a later one of its job and class (R379, R384)? -/
def State.eligible (s : State) (p x : Nat) (e : Egress) : Bool :=
  decide (e.pkt.job = s.fld (fbSlotTableJob p x)) && decide (e.pkt.cls = s.fld (fbSlotTableClass p x))
    && (e.any || match e.entry with | some (y, _) => decide (y = x) | none => true)

/-- 0.1 ns that n flits take, one control flit in every 64 with them (R372). -/
def flitTime (n : Nat) : Nat := 64 * (n + ceilDiv n 63)

/-- Send one packet of a list in the open slot if it ends 640 ns before the slot does (R372). -/
def State.sendInSlot (s : State) (p x : Nat) (e : Egress) : Option State :=
  let ends := Nat.max (s.fport p).busy (10 * s.t) + flitTime (flitsOf e.pkt)
  if ends + 6400 ≤ 10 * (s.fld (fbSlotTableStart p x) + s.fld (fbSlotTableLength p x)) then
    (s.trySend p e).map fun s => s.modFport p fun f => { f with busy := ends }
  else none

/-- The next packet from the row gate goes out; one whose pool the far module has not advertised is discarded (R375, R384). -/
def State.slotGate (s : State) (p x : Nat) : Option State :=
  match takeFirst (s.eligible p x) (s.fport p).egress with
  | none => none
  | some (e, rest) =>
    let drop (s : State) : State := s.modFport p fun f => { f with egress := rest, lastTransit := false }
    if e.pkt.cls = 1 ∧ tabGet 0 (s.fport p).pools e.pkt.pool = 0 then
      some ((drop s).discardAt p e.pkt 1 e.pkt.pool (s.fld (fbSlotTablePart p x)))
    else (s.sendInSlot p x e).map drop

/-- The next packet in transit goes out. -/
def State.slotTransit (s : State) (p x : Nat) : Option State :=
  match takeFirst (s.eligible p x) (s.fport p).transit with
  | none => none
  | some (e, rest) => (s.sendInSlot p x e).map fun s => s.modFport p fun f => { f with transit := rest, lastTransit := true }

/-- Packets of the open slot's job and class go out, the gate's and those in transit in turn while both wait (R384). -/
def State.drainLoop (s : State) (p x : Nat) : Nat → State
  | 0 => s
  | n + 1 =>
    match (if (s.fport p).lastTransit then (s.slotGate p x).orElse fun _ => s.slotTransit p x
           else (s.slotTransit p x).orElse fun _ => s.slotGate p x) with
    | none => s
    | some s' => s'.drainLoop p x n

/-- See `drainLoop`. -/
def State.drainSlot (s : State) (p : Nat) : State :=
  match (s.fport p).open_ with
  | none => s
  | some x => s.drainLoop p x ((s.fport p).egress.length + (s.fport p).transit.length)

/-- What a port holds goes out as far as it may. -/
def State.drainPort (s : State) (p : Nat) : State := (s.drainSlot p).drain3 p

end Sys2Proof.Machine
end

