-- ==== Sys2Proof/Machine/Transfers.lean ====
section
/-! DEFINITION. Scheduled transfers: a slot opens, its transfer or stand-in starts; its last word lands, is verified and signals
(R119, R121, R125, R131 to R134, R147, R195, R213, R222, R226, R299, R317, R379, R382, R426 to R430). Log entries 17, 21, 22, 23. -/
namespace Sys2Proof.Machine
open Sys2Proof

/-- Bytes that the spec gives no value: those of a stand-in, all of them poisoned (R125; log entry 5). -/
def State.freeBytes (s : State) (n : Nat) : List Byte := (List.range n).map fun i => (Config.freeWord (s.free + i)).setWidth 8

/-- Packets of at most 4,096 bytes that a transfer into a queue, or a result for a credit pool, makes (R147, R299). -/
def slicePackets (q tag : Nat) : Nat → List Byte → List Bool → List QSpill
  | 0, _, _ => []
  | k + 1, d, bp =>
    if d.isEmpty then []
    else
      let b := d.take 4096
      let p := bp.take 4096
      let cells := (List.range (cellsOf b.length)).map fun i => ((p.drop (56 * i)).take 56).any id
      { q, seq := 0, tag, len := b.length, data := b, poison := cells, check := crc32c b, pool := none }
        :: slicePackets q tag k (d.drop 4096) (bp.drop 4096)

/-- Is a logical cluster able to send or receive: mapped, not failed, in P0? -/
def State.clRuns (s : State) (l : Nat) : Bool := decide (l < 128) && decide (s.fld (clStatusMap l) = 0) && s.inP0 l

/-- Post packets of a transfer into a queue: the first begins to arrive, the others follow at landing. -/
def State.startPackets (s : State) (l q : Nat) : List QSpill → State × List QSpill
  | [] => (s, [])
  | p :: rest => ((s.arrivePacket l q p.len p.tag p.data p.poison p.check p.pool).cutArrival l q, rest)

/-- The transfer of an entry starts with these bytes. -/
def State.startXfer (s : State) (r : SlotRec) (d : List Byte) (bp : List Bool) (standIn lands : Bool) : State :=
  let x : Xfer := { entry := r.entry, data := d, poison := bp, check := crc32c d, standIn, lands, pkts := [] }
  if r.dstQueue && lands && decide (r.kind ≠ 2) then
    let ps := slicePackets (r.dstAddr % 512) r.tag (d.length / 4096 + 1) d bp
    let e := s.startPackets r.dst (r.dstAddr % 512) ps
    { e.1 with cl := { e.1.cl with xfers := e.1.cl.xfers ++ [{ x with pkts := e.2 }] } }
  else { s with cl := { s.cl with xfers := s.cl.xfers ++ [x] } }

/-- A stand-in: the slot's full length of poisoned words (R125). -/
def State.startStandIn (s : State) (r : SlotRec) : State :=
  (s.startXfer r (s.freeBytes r.bytes) (allBits r.bytes true) true true).draw r.bytes

/-- Is the transfer's data poisoned by the poster's latch (R111)? -/
def State.postLatched (s : State) (r : SlotRec) : Bool :=
  s.core.st.any fun k => (k.2.posted.any fun p => decide (p.1 = r.entry) && p.2)
    || (k.2.posted.any fun p => decide (p.1 = r.entry)) && k.2.latch && decide (k.2.job.toNat = r.job)

/-- A transfer out of cluster memory starts: MESH, MCAST, GATE_OUT (R132 to R134). -/
def State.openFromCluster (s : State) (r : SlotRec) : State :=
  let s := s.readErrors r.src r.job r.srcAddr r.bytes
  let a := clMem r.src + r.srcAddr
  let bp := if s.postLatched r then allBits r.bytes true else s.byteMarks a r.bytes
  s.startXfer r (s.bytes a r.bytes) bp false true

/-- A transfer from HBM through the gate starts (R133, R206, R213, R428). -/
def State.openFromHbm (s : State) (r : SlotRec) : State :=
  let a := bitsOf r.far 0 40
  if !s.gateReads r.part a r.bytes then
    (s.post (recGate s r 6 a)).startStandIn r
  else
    let d := s.gateRead r a r.bytes r.job
    d.1.startXfer r d.2.1 (if s.postLatched r then allBits r.bytes true else d.2.2) false true

/-- A command whose result is not complete when its return slot opens is counted and recorded (R226). -/
def State.countLate (s : State) (i : Nat) (c : SeCmd) : State :=
  let p := s.partOf c.cluster
  let s := match p with
    | some n => (s.incSat (sePartEventsLate i n) 1).setFlag (sePartEventsNew i n) true
    | none => s
  s.post (recUnit 3 i 3 1 0 c.job (1 + 4 * 2) p)

/-- Does the engine act on the RETURN of a command: its KIND is ATTEND or GATHER (R222)? -/
def SeCmd.returns (c : SeCmd) : Bool := decide (c.kind = 2) || decide (c.kind = 3)

/-- A stream engine whose result for an entry is not complete when its slot opens (R226): counted and recorded, its result to be
discarded. -/
def State.lateResult (s : State) (r : SlotRec) : State :=
  let i := r.far % 16
  match (s.seCmds i).find? fun c => c.returns && decide (c.ret = r.entry) && decide (c.tick = s.tick) && !c.late with
  | none => s
  | some c => (s.setSeCmds i ((s.seCmds i).map fun x => if x = c then { x with late := true } else x)).countLate i c

/-- A GATE_IN from a stream engine: the result that is ready, else a stand-in (R226, R299). -/
def State.openFromEngine (s : State) (r : SlotRec) : State :=
  match takeFirst (fun x => decide (x.ret = r.entry) && decide (x.eng = r.far % 16)) s.se.results with
  | some (x, rest) =>
    let d := x.data.take r.bytes
    { s with se := { s.se with results := rest } }.startXfer r d (x.marks.take d.length) false true
  | none => (s.lateResult r).startStandIn r

/-- A result enters a credit pool as one packet if the pool's capacity allows (R164). -/
def State.poolResult (s : State) (c : CreditRec) (x : SeResult) : Option State :=
  let cells := cellsOf x.data.length
  if (s.credit c.pool).out + cells ≤ c.capacity then
    let p : QSpill := { q := c.queue, seq := 0, tag := 0, len := x.data.length, data := x.data,
                        poison := (List.range cells).map fun i => ((x.marks.drop (56 * i)).take 56).any id, check := crc32c x.data,
                        pool := some c.pool }
    let s := { s with se := { s.se with results := s.se.results.erase x } }
    some (s.modCredit c.pool fun k => { k with out := k.out + cells, waiting := k.waiting ++ [p] })
  else none

/-- Results for a credit pool enter it in order while its capacity allows. -/
def State.poolResults (s : State) (c : CreditRec) : List SeResult → State
  | [] => s
  | x :: r => match s.poolResult c x with
    | some s => s.poolResults c r
    | none => s

/-- Results that wait for a credit pool enter it while its capacity allows (R164). -/
def State.fillPool (s : State) (n : Nat) : State :=
  match s.ctg.credits.find? fun c => decide (c.pool = n) with
  | none => s
  | some c => s.poolResults c (s.se.results.filter fun x => decide (x.ret = 2 ^ 15 + n))

/-- A result that is ready (R226): whole for a slot, in packets of at most 4,096 bytes for a credit pool (R147). -/
def State.addResult (s : State) (x : SeResult) : State :=
  let l := if x.ret < 2 ^ 15 then [x]
    else (List.range (ceilDiv x.data.length 4096)).map fun i =>
      { x with data := (x.data.drop (4096 * i)).take 4096, marks := (x.marks.drop (4096 * i)).take 4096 }
  { s with se := { s.se with results := s.se.results ++ l } }

/-- Packets of a list that fit in so many bytes, in order. -/
def fitPackets : Nat → List QSpill → List QSpill
  | _, [] => []
  | room, p :: r => if p.len ≤ room then p :: fitPackets (room - p.len) r else []

/-- The queue that an entry delivers into: that of its CREDIT record for a credit pool, else the one it names (R299, R306). -/
def State.slotQueue (s : State) (r : SlotRec) : Nat :=
  if r.kind = 3 ∧ r.far / 2 ^ 62 % 4 = 3 then
    match s.ctg.credits.find? fun c => decide (c.pool = r.far % 2 ^ 15) with
    | some c => c.queue
    | none => r.dstAddr % 512
  else r.dstAddr % 512

/-- A GATE_IN from a credit pool delivers the packets that are ready into the queue of its CREDIT record (R150, R299, R306). -/
def State.openFromPool (s : State) (r : SlotRec) : State :=
  let n := r.far % 2 ^ 15
  let s := s.fillPool n
  let ps := fitPackets r.bytes (s.credit n).waiting
  let s := s.modCredit n fun k => { k with waiting := k.waiting.drop ps.length }
  let e := s.startPackets r.dst (s.slotQueue r) ps
  let x : Xfer := { entry := r.entry, data := [], poison := [], check := crc32c [], standIn := false, lands := true, pkts := e.2 }
  { e.1 with cl := { e.1.cl with xfers := e.1.cl.xfers ++ [x] } }

/-- A GATE_IN that names a fabric port takes the held packets whose range its destination buffer contains (R382). -/
def State.openFromPort (s : State) (r : SlotRec) : State :=
  let p := r.far % 8
  let a := clMem r.dst + r.dstAddr
  let mine (k : Packet) : Bool := decide (a ≤ k.offset) && decide (k.offset + k.data.length ≤ a + r.bytes)
  let ks := (s.fport p).held.filter mine
  let s := s.modFport p fun f => { f with held := f.held.filter fun k => !mine k }
  let aims (k : Packet) : Bool := s.aimsPool r.dst (k.offset - clMem r.dst) k.data.length
  let s := ks.foldl (fun s k =>
    (if aims k then s.post (recGate s r 5 k.offset) else s.storeMem k.offset k.data (packetMarks k)).oweFor p k) s
  let any := ks.any fun k => k.poison.any id || aims k
  s.startXfer r [] (if any then [true] else []) false true

/-- The section and list position of a logical slot (R235). -/
def State.sectionOf (s : State) (x : Nat) : Option (SectionRec × Nat) :=
  s.ctg.sections.findSome? fun r => (r.slots.findIdx? fun k => decide (k = x)).map fun t => (r, t)

/-- An arbitration slot: the group block of the disputed group of the request at the head of the queue (R194, R195). -/
def State.openArb (s : State) (r : SlotRec) : State :=
  if tabGet false s.cl.arbData r.dst then s
  else
    match (s.xe r.dst).arb with
    | [] => s
    | x :: _ =>
      match (s.xrun x).dispute, s.sectionOf x with
      | some d, some (sec, t) =>
        let r' := { r with far := sec.masterAddr + t * tileBytes + d.group * blockBytes, bytes := blockBytes, dstQueue := false }
        if !s.gateReads r.part r'.far blockBytes then (s.post (recGate s r 6 r'.far)).startStandIn r' else
          let h := s.gateRead r r'.far blockBytes d.prod.job
          h.1.startXfer r' h.2.1 h.2.2 false true
      | _, _ => s

/-- Code bytes of a new leaf block in order, core 0 first, each with its offset from SWAP_ADDR and from the image (R298, R317). -/
def imageStream (b : LeafRec) : List (Nat × Nat) :=
  (b.cores.zipIdx).foldl (fun l e => l ++ (List.range e.1.len).map fun i => (32768 * e.2 + i, b.base + e.1.code + i)) []

/-- An IMAGE slot carries the next bytes of the cluster's new code from the incoming area into SWAP_ADDR, from the first tick after acceptance on
(R317). -/
def State.carryImage (s : State) (r : SlotRec) (agree : Bool) : State :=
  let l := r.dst
  match s.cat.staged, s.ctg.clusters.find? fun c => decide (c.cluster = l) with
  | some k, some c =>
    match k.leaves.find? fun b => decide (b.cluster = l) with
    | some b =>
      if decide (s.tick ≠ s.cat.announcedIn) && s.cat.local_.any fun a => decide (s.owns a.part l) then
        let sent := tabGet 0 s.cat.imgSent l
        let part := ((imageStream b).drop sent).take r.bytes
        let s := match part with
          | [] => s
          | e :: _ => s.hbmErrors 4 (0x70000000 + e.2) part.length r.job (some r.part)
        let s := part.foldl (fun s e =>
          let a := 0x70000000 + e.2
          s.storeMem (clMem l + c.swapAddr + e.1) [s.byte a] [s.poisoned a || !agree]) s
        { s with cat := { s.cat with imgSent := tabSet 0 s.cat.imgSent l (sent + part.length) } }
      else s
    | none => s
  | _, _ => s

/-- An IMAGE slot opens; its counter is signalled when it has landed (R299, R317). -/
def State.openImage (s : State) (r : SlotRec) (agree : Bool) : State :=
  (s.carryImage r agree).startXfer { r with dstQueue := false } [] (if agree then [] else [true]) false true

/-- An entry's transfer starts once its slot is open: the data of its source, or the stand-in where nobody has posted it, its cluster no longer runs, or
the two address computations disagree (R125, R299, R430). -/
def State.openKind (s : State) (r : SlotRec) (agree posted : Bool) : State :=
  match r.kind with
  | 5 => if s.clRuns r.src then s.drainStaging r.src r.bytes else s
  | 6 => if s.clRuns r.dst then (s.openReturns r).startXfer { r with dstQueue := false } [] [] false true else s
  | 7 => if s.clRuns r.dst then s.openArb r else s
  | 8 => if s.clRuns r.dst then s.openImage r agree else s
  | 3 =>
    let s := if agree then s else s.post (recGateKind s r 4 (r.far % 2 ^ 40))
    if !agree || !posted then s.startStandIn r
    else
      match r.far / 2 ^ 62 % 4 with
      | 0 => s.openFromHbm r
      | 1 => s.openFromEngine r
      | 2 => if s.clRuns r.dst then s.openFromPort r else s
      | _ => s.openFromPool r
  | _ =>
    let s := if agree then s else s.post (recGateKind s r 4 r.srcAddr)
    if !agree || !posted || !s.clRuns r.src then s.startStandIn r else s.openFromCluster r

/-- SLOT_OPEN: an entry's slot opens at its start: posted, it starts; unposted or with disagreeing addresses, its stand-in does
(R125, R131, R430). Nothing opens in an idle tick (R510) or in the guard band. -/
def State.openSlot (s : State) (r : SlotRec) (agree : Bool) : State :=
  let s := s.advance r.start
  let s := { s with cl := { s.cl with opened := r.entry :: s.cl.opened } }
  let posted := s.isPosted r.entry
  let s := if (slotPoster r).isSome && !posted then
      match s.slotCore r with
      | some c => s.chargeSlot r.entry c
      | none => s
    else s
  let s := s.openKind r agree (posted || (slotPoster r).isNone)
  match slotPoster r with
  | some l => s.settleCluster l
  | none => s

/-- May an entry's slot open: once in a working tick, before the guard band, under a catalogue in force (R283, R510)? -/
def State.slotOpens (s : State) (r : SlotRec) : Bool :=
  !s.guarded && !s.idle && decide (r.entry ∉ s.cl.opened) && decide (s.fld ctCatStateState = 2)

/-- SLOT_OPEN. -/
def execSlotOpen (e : Nat) (addrAgree : Bool) (s : State) : Host.Outcome State Fault Refusal :=
  .next (match s.slotRec e with
    | none => s
    | some r => if s.slotOpens r then s.openSlot r addrAgree else s)

/-- The spill slot (KIND 5) or the returns slot (KIND 6) that the catalogue gives a cluster (R163, R299). -/
def State.queueSlot (s : State) (kind l : Nat) : Option SlotRec :=
  s.ctg.slots.find? fun r => decide (r.kind = kind) && decide ((if kind = 5 then r.src else r.dst) = l)

/-- SPILL_SLOT: the cluster's spill slot opens, once in the tick, at its start: staging is written in arrival order to the returns bin, as far as the
slot's bytes go (R163). -/
def execSpillSlot (l : ClusterId) (s : State) : Host.Outcome State Fault Refusal :=
  .next (match s.queueSlot 5 l with
    | none => s
    | some r => if s.slotOpens r then s.openSlot r true else s)

/-- RETURNS_SLOT: the cluster's returns slot opens, once in the tick, at its start: spilled packets are recalled into free pool cells (R163). -/
def execReturnsSlot (l : ClusterId) (s : State) : Host.Outcome State Fault Refusal :=
  .next (match s.queueSlot 6 l with
    | none => s
    | some r => if s.slotOpens r then s.openSlot r true else s)

/-! Landing. -/

/-- Parse the 32-byte header of a stream-engine command (R222). DESIGN CHOICE (log entry 102): a command whose reserved bytes or bits are not 0,
an ATTEND whose FIRST is not 0, and a GATHER whose COUNT or FIRST 31:16 is not 0 is an invalid command (`reservedZero`, `judgeSlot`,
`State.runGather`). -/
def seCmdOf (d : List Byte) (bp : List Bool) (cluster tick : Nat) (bad : Bool) : SeCmd :=
  { kind := numAt d 0 1, job := numAt d 2 2 % 4096, slot := numAt d 4 2, layer := numAt d 6 2, first := numAt d 8 4,
    count := numAt d 12 4, length := numAt d 16 4, ret := numAt d 20 2,
    reservedZero := decide (numAt d 1 1 = 0) && decide (numAt d 2 2 < 4096) && decide (numAt d 22 10 = 0),
    payload := (d.drop 32).take (numAt d 16 4), marks := (bp.drop 32).take (numAt d 16 4), bad, cluster, tick, late := false }

/-- Length of a result that delivers itself to a credit pool: what the slot's partition attends over (R222, R224). -/
def State.attendLen (s : State) (part : Option Nat) : Nat :=
  match part.bind fun p => s.ctg.streams.find? fun r => decide (r.part = p) with
  | some r => 2 * r.hq * r.dhead
  | none => 0

/-- A command's stand-in at its return (R215, R222): a slot carries its own (R299); a credit pool receives a poisoned packet. -/
def State.standInResult (s : State) (i : Nat) (c : SeCmd) (n : Nat) : State :=
  if c.ret < 2 ^ 15 ∨ n = 0 then s
  else
    (s.addResult { eng := i, ret := c.ret, data := s.freeBytes n, marks := allBits n true, tick := s.tick }).draw n

/-- STATE of SE_STATUS (log entry 100): failed, stopped while its stack is limited under R204 or the module has stopped under MODULE_FATAL, running
while it holds commands, else idle. -/
def State.seState (s : State) (i : Nat) : Nat :=
  if tabGet false s.se.failed i then 3
  else if tabGet false s.se.limited i || s.ig.moduleFatal then 2
  else if (s.seCmds i).isEmpty then 0 else 1

/-- QDEPTH and STATE of SE_STATUS. -/
def State.showSe (s : State) (i : Nat) : State :=
  (s.setFld (seStatusQdepth i) (s.seCmds i).length).setFld (seStatusState i) (s.seState i)

/-- STREAM_COMMAND_ARRIVAL (R222, R427 POINT 7): queued, or refused when 64 are held. A command that arrives after its return slot has opened is
late from the start (R226). -/
def State.commandArrives (s : State) (i : Nat) (c : SeCmd) (failed : Bool) : State :=
  let p := s.partOf c.cluster
  let s := if failed then s.post (recUnit 3 i 3 6 0 c.job (7 * 2 ^ 60) p) else s
  if 64 ≤ (s.seCmds i).length then
    let s := s.post (recUnit 3 i 3 10 3 c.job (c.kind % 256) p)
    if c.kind = 2 then s.standInResult i c (s.attendLen p) else if c.kind = 3 then s.standInResult i c 64 else s
  else
    let late := c.returns && decide (c.ret < 2 ^ 15) && decide (c.ret ∈ s.cl.opened)
    let s := if late then s.countLate i c else s
    (s.setSeCmds i (s.seCmds i ++ [{ c with late }])).showSe i

/-- Check of a packet a leaf program sends (R379): its class and job against the entries, the neighbour, AMODE, reserved bytes. -/
def State.packetOk (s : State) (r : SlotRec) (p cls : Nat) (h : List Byte) : Bool :=
  let co := numAt h 0 1
  decide (co % 4 = cls) && decide (numAt h 6 2 = r.job)
    && (decide (cls ≠ 1) || decide (numAt h 2 2 = s.fld (fbSeenNeighbourModule p)))
    && (decide (cls ≠ 2) || s.flag fbCoordAmode)
    && decide (bitsOf co 2 2 = 0) && decide (numAt h 1 1 < 16) && decide (numAt h 2 2 < 4096) && decide (numAt h 8 2 < 2 ^ 15)
    && decide (numAt h 21 3 = 0) && decide (numAt h 28 4 = 0) && decide (1 ≤ numAt h 12 2) && decide (numAt h 12 2 ≤ 4096)

/-- A packet joins egress (R379): class 1 on VC0, class 2 by its route; one whose slot has ended goes in a later one. -/
def State.putEgress (s : State) (p : Nat) (k : Packet) (entry gate : Nat) : State :=
  let vc := if k.cls = 1 then 0 else match s.route k.src k.dest with | some r => r.2 | none => 0
  let past := decide (s.fld (fbSlotTableStart p entry) + s.fld (fbSlotTableLength p entry) ≤ s.t)
  s.modFport p fun f => { f with egress := f.egress ++ [{ pkt := k, vc, entry := some (entry, gate), any := past, from_ := none }] }

/-- Parse the packets of a buffer into egress in order (R378, R379); `fuel` bounds their number. -/
def State.egressPackets (s : State) (r : SlotRec) (p entry cls : Nat) (bad : Bool) : Nat → List Byte → List Bool → State
  | 0, _, _ => s
  | k + 1, d, bp =>
    if d.length < 32 then s
    else
      let h := d.take 32
      let n := numAt h 12 2
      let step := 32 + (n + 63) / 64 * 64
      let data := (d.drop 32).take n
      let marks := if bad then allBits (unitsOf n) true else unitMarks n (bp.take (32 + n))
      let pk : Packet :=
        { cls := numAt h 0 1 % 4, op := numAt h 0 1 / 16, dstPart := numAt h 1 1 % 16, dest := numAt h 2 2 % 4096,
          src := s.ownNumber p, job := numAt h 6 2 % 4096, pool := numAt h 8 2 % 2 ^ 15, tag := numAt h 10 2, tick := s.tick % 65536,
          offset := numAt h 16 5, check := crc32c data, data, poison := marks }
      let s := if n = 0 ∨ d.length < step then s
        else if s.packetOk r p cls h then s.putEgress p pk entry r.entry
        else s.post (recUnit 2 p 3 20 2 r.job (pk.src * 2 ^ 16 + entry) (some r.part))
      if n = 0 then s else s.egressPackets r p entry cls bad k (d.drop step) (bp.drop step)

/-- FAR of a GATE_OUT at landing (R133, R213, R222, R379). -/
def State.landOut (s : State) (r : SlotRec) (x : Xfer) (bp : List Bool) (bad : Bool) : State :=
  match r.far / 2 ^ 62 % 4 with
  | 0 =>
    let a := bitsOf r.far 0 40
    if s.gateWrites r.part a x.data.length then s.hbmWrite a x.data bp 0 else s.post (recGate s r 6 a)
  | 1 =>
    if x.standIn then s
    else
      let head := (bp.take 32).any id
      s.commandArrives (r.far % 16) (seCmdOf x.data bp r.src s.tick (bad || head)) bad
  | 2 =>
    let p := r.far % 8
    let e := bitsOf r.far 16 15
    if x.standIn then s
    else
      let s := if bad then s.post (recUnit 2 p 3 6 0 r.job (6 * 2 ^ 60) (some r.part)) else s
      ((s.egressPackets r p e (s.fld (fbSlotTableClass p e)) bad 4096 x.data bp).dropInert p).drainSlot p
  | _ => s

/-- Members of the multicast tree of an entry (R134, R301), as cluster, offset, counter. -/
def State.treeMembers (s : State) (r : SlotRec) : List (Nat × Nat × Nat) :=
  match s.ctg.mcasts.find? fun m => decide (m.tree = r.tree) with
  | some m => m.members.map fun l => (l, m.dstAddr, m.token)
  | none => []

/-- A copy lands in a cluster's buffer and its counter is signalled (R119, R121). The memory of an UNAVAILABLE cluster is unmapped (R16, R28); a copy
aimed at the cell pool is not performed and its counter takes a poisoned signal (R145; log entry 96). DESIGN CHOICE (log entry 96): a transfer into a
failed cluster or one outside P0 is dropped, and its counter is not signalled. -/
def State.landAt (s : State) (r : SlotRec) (l off token : Nat) (x : Xfer) (bp : List Bool) : State :=
  if !s.clAvailable l then s.post (recGate s r 1 (clMem l + off))
  else if !s.clRuns l then s
  else if s.aimsPool l off x.data.length then (s.post (recGate s r 5 (clMem l + off))).signal l token 1 true
  else (s.storeMem (clMem l + off) x.data bp).signal l token 1 (x.standIn || bp.any id)

/-- Packets of a transfer into a queue land (R147, R154). -/
def State.landPackets (s : State) (l q : Nat) (rest : List QSpill) : State :=
  let s := match (s.queue l q).arriving with
    | some a => if a.push then s else s.finishArrival l q
    | none => s
  rest.foldl (fun s p => s.deliverPacket l q p.len p.tag p.data p.poison p.check p.pool) s

/-- The last word of a transfer has landed: its check value is verified (R427 POINT 3, R428), then it is delivered and signalled. -/
def State.landXfer (s : State) (r : SlotRec) (x : Xfer) : State :=
  let bad := !(x.poison.any id) && decide (crc32c x.data ≠ x.check)
  let bp := if bad then allBits x.data.length true else x.poison
  let s := if bad ∧ r.kind ≠ 2 then s.post (recGateKind s { r with kind := 3 } 6 (3 * 2 ^ 60 + r.dstAddr)) else s
  match r.kind with
  | 2 => s.landOut r x bp bad
  | 4 => (s.treeMembers r).foldl (fun s m => s.landAt r m.1 m.2.1 m.2.2 x bp) s
  | 7 =>
    let s := s.landAt r r.dst (s.fld (xeArbCfgArbBuf r.dst)) r.token x bp
    { s with cl := { s.cl with arbData := tabSet false s.cl.arbData r.dst true } }
  | _ =>
    if r.dstQueue || decide (r.kind = 3 ∧ r.far / 2 ^ 62 % 4 = 3) then
      (s.landPackets r.dst (s.slotQueue r) x.pkts).signal r.dst r.token 1 (x.standIn || bp.any id)
    else s.landAt r r.dst r.dstAddr r.token x bp

/-- TRANSFER_LANDING: the last word of an entry's transfer lands within its slot. -/
def execTransferLanding (e : Nat) (s : State) : Host.Outcome State Fault Refusal :=
  .next (match takeFirst (fun x => decide (x.entry = e)) s.cl.xfers, s.slotRec e with
    | some (x, rest), some r =>
      let s := { s with cl := { s.cl with xfers := rest } }
      if x.lands then s.landXfer r x else s
    | _, _ => s)

end Sys2Proof.Machine
end

