-- ==== Sys2Proof/Machine/StreamEng.lean ====
section
/-! DEFINITION. The stream engines: decode slots, KV pages, KV_APPEND, ATTEND, GATHER (R214 to R228, R426 to R428).
Log entries 6, 27, 28. -/
namespace Sys2Proof.Machine
open Sys2Proof

/-- The STREAM record of a partition (R303). -/
def State.streamOf (s : State) (p : Nat) : Option StreamRec := s.ctg.streams.find? fun r => decide (r.part = p) && r.valid

/-- The KV layout and the frame ranges of a partition (R217, R230). -/
def kvOf (c : Cat) (n : Nat) : Option StreamRec :=
  (c.streams.find? fun r => decide (r.part = n) && r.valid).map fun r => { r with slots := [] }

/-- Does a swap change a partition's KV layout or frame range (R230)? -/
def kvChanged (old new : Cat) (n : Nat) : Bool := decide (kvOf old n ≠ kvOf new n)

/-- Positions a page holds (R217). -/
def pagePositions (r : StreamRec) : Nat := 65536 / (4 * r.hkv * r.dhead)

/-- Device address of byte `off` of frame f of stack i (R219). -/
def frameAddr (i f off : Nat) : Nat := f * 2 ^ 20 + i * 2 ^ 16 + off

/-- States of SE_SLOT_STAT. -/
def slotFree : Nat := 1
/-- See `slotFree`. -/
def slotOpen : Nat := 2
/-- See `slotFree`. -/
def slotClosing : Nat := 3
/-- See `slotFree`. -/
def slotStopped : Nat := 4

/-- OPEN of SE_STATUS shows the slots OPEN or CLOSING. -/
def State.showSlots (s : State) (i : Nat) : State :=
  s.setFld (seStatusOpen i) ((List.range 256).countP fun k =>
    decide (s.fld (seSlotStatState i k) = slotOpen) || decide (s.fld (seSlotStatState i k) = slotClosing))

/-- Free frames of a partition in a stack, in list order (R221). -/
def State.freeFrames (s : State) (i p : Nat) : List Nat := tabGet [] s.se.free (16 * i + p)

/-- Set a partition's free list in a stack and show its length. -/
def State.setFreeFrames (s : State) (i p : Nat) (l : List Nat) : State :=
  ({ s with se := { s.se with free := tabSet [] s.se.free (16 * i + p) l } }).setFld (seKvPagesFree i p) l.length

/-- TPNs of a tenant in use, all stacks (R220). -/
def State.tpns (s : State) (t : Nat) : List Nat := tabGet [] s.se.tpn t

/-- Address of an entry of a tenant's page table (R220). -/
def tableEntry (t tpn : Nat) : Nat := 0x10000000 + t * 0x40000 + 4 * tpn

/-- LIMIT of a tenant in a stack, from its TENANT record (R220, R294). -/
def State.pageLimit (s : State) (t i : Nat) : Nat :=
  match s.ctg.tenants.find? fun r => decide (r.tenant = t) with
  | some r => r.limit.getD i 0
  | none => 0

/-- Write a tenant's page-table entry and its header word in a stack (R220, R221). -/
def State.writeTable (s : State) (t i tpn entry : Nat) : State :=
  let used := (s.tpns t).countP fun x => decide (x % 16 = i)
  let s := s.hbmUpdate (tableEntry t tpn) (leBytes 4 entry)
  s.hbmUpdate (tableEntry t i) (leBytes 4 (used * 2 ^ 12 + s.pageLimit t i))

/-- The lowest free TPN of a tenant in a stack (R220, R221). -/
def State.lowestTpn (s : State) (t i : Nat) : Option Nat :=
  let used := s.tpns t
  (List.range 4095).findSome? fun k => if 16 * (k + 1) + i ∈ used then none else some (16 * (k + 1) + i)

/-- Allocate logical page n of slot k (R221): none when the allocation fails. -/
def State.allocPage (s : State) (i k p t : Nat) (r : StreamRec) (n : Nat) : Option State :=
  if r.ctxMax ≤ n ∨ s.pageLimit t i ≤ (s.tpns t).countP fun x => decide (x % 16 = i) then none
  else
    match s.lowestTpn t i, s.freeFrames i p with
    | some tpn, f :: rest =>
      let s := s.setFreeFrames i p rest
      let s := { s with se := { s.se with tpn := tabSet [] s.se.tpn t (s.tpns t ++ [tpn]) } }
      let s := s.writeTable t i tpn (2 ^ 31 + f)
      let s := s.modDslot i k fun d => { d with pages := tabInsert (tabErase d.pages n) n (tpn, f) }
      some (s.setFld (seSlotStatPages i k) (s.dslot i k).pages.length)
    | _, _ => none

/-- Allocate the pages of a rising list; whether every allocation succeeded. -/
def State.allocPages (s : State) (i k p t : Nat) (r : StreamRec) : List Nat → State × Bool
  | [] => (s, true)
  | n :: rest =>
    if (tabFind (s.dslot i k).pages n).isSome then s.allocPages i k p t r rest
    else match s.allocPage i k p t r n with
      | some s' => s'.allocPages i k p t r rest
      | none => (s, false)

/-- Positions written of a layer (R217). -/
def State.written (s : State) (i k layer : Nat) : Nat := tabGet 0 (s.dslot i k).written layer

/-- Device address of the key of position p in a layer, when its page is held (R218). -/
def State.keyAddr (s : State) (i k : Nat) (r : StreamRec) (layer p : Nat) : Option Nat :=
  let tpp := pagePositions r
  (tabFind (s.dslot i k).pages (p / tpp * r.layers + layer)).map fun e => frameAddr i e.2 (p % tpp * 2 * r.hkv * r.dhead)

/-- Bytes of one position's keys (R217). -/
def keyBytes (r : StreamRec) : Nat := 2 * r.hkv * r.dhead

/-- Write keys and values of the positions that have pages, ascending, each one check unit; the number written (R218, R223, R426). -/
def State.appendPositions (s : State) (i k : Nat) (r : StreamRec) (layer first count : Nat) (d : List Byte) (bp : List Bool) :
    State × Nat :=
  let kb := keyBytes r
  (List.range count).foldl (fun e j =>
    match e.1.keyAddr i k r layer (first + j) with
    | none => e
    | some a =>
      let s := e.1.hbmWrite a ((d.drop (kb * j)).take kb) ((bp.drop (kb * j)).take kb) 0
      let v := kb * (count + j)
      (s.hbmWrite (a + 32768) ((d.drop v).take kb) ((bp.drop v).take kb) 0, e.2 + 1)) (s, 0)

/-- A DESC_INVALID record of a stream engine (R215 SUB 2, R222 SUB 3, R223 SUB 4). -/
def recSe (s : State) (i sub : Nat) (c : SeCmd) : Rec := recUnit 3 i 3 10 sub c.job (c.kind % 256) (s.partOf c.cluster)

/-- Count an event of a partition in SE_PART_EVENTS. -/
def State.partEvent (s : State) (i : Nat) (part : Option Nat) (f : Nat → Nat → Fld) : State :=
  match part with
  | none => s
  | some n => (s.incSat (f i n) 1).setFlag (sePartEventsNew i n) true

/-- A result is ready for its return (R222, R226): discarded when its return slot has opened without it. -/
def State.giveResult (s : State) (i : Nat) (c : SeCmd) (d : List Byte) (bp : List Bool) : State :=
  if c.late then s
  else
    let s := if bp.any id then s.partEvent i (s.partOf c.cluster) sePartEventsPoisoned else s
    s.addResult { eng := i, ret := c.ret, data := d, marks := bp, tick := s.tick }

/-- A command that is not performed (R215, R222): ATTEND and GATHER deliver a stand-in, and a record is posted when `sub` names one. -/
def State.refuseCmd (s : State) (i : Nat) (c : SeCmd) (sub : Option Nat) : State :=
  let p := s.partOf c.cluster
  let s := match sub with
    | some n => s.post (recSe s i n c)
    | none => s
  if c.late ∨ ¬(c.kind = 2 ∨ c.kind = 3) then s
  else (s.partEvent i p sePartEventsPoisoned).standInResult i c (if c.kind = 2 then s.attendLen p else 64)

/-- The command at the head of an engine's queue once those of unknown kind before it have been passed over (R222). -/
def State.skipUnknown (s : State) (i : Nat) : Nat → State
  | 0 => s
  | n + 1 =>
    match s.seCmds i with
    | c :: rest =>
      if c.kind = 1 ∨ c.kind = 2 ∨ c.kind = 3 then s
      else
        let s := (s.setSeCmds i rest).showSe i
        (if c.tick = s.tick then s.post (recSe s i 3 c) else s).skipUnknown i n
    | [] => s

/-- A command of kind k starts (R215, R222): taken from the head of the queue, not performed when it arrived in an earlier tick or the
engine has failed; otherwise `f` performs it. -/
def State.startCmd (s : State) (i k : Nat) (f : State → SeCmd → State) : State :=
  let s := s.skipUnknown i 64
  match s.seCmds i with
  | [] => s
  | c :: rest =>
    if c.kind ≠ k then s
    else
      let s := (s.setSeCmds i rest).showSe i
      if c.tick ≠ s.tick then s
      else if tabGet false s.se.failed i then s.refuseCmd i c none
      else f s c

/-- The decode slot of a command, judged when it starts (R215): its partition and STREAM record, or how it is refused. -/
def State.judgeSlot (s : State) (i : Nat) (c : SeCmd) (ok : StreamRec → Bool) : Except (Option Nat) (Nat × StreamRec) :=
  match s.partOf c.cluster with
  | none => .error (some 2)
  | some p =>
    match s.streamOf p with
    | none => .error (some 2)
    | some r =>
      if !(c.reservedZero && decide (c.layer < r.layers) && ok r) then .error (some 3)
      else if 256 ≤ c.slot ∨ s.fld (seSlotStatPart i c.slot) ≠ p then .error (some 2)
      else if s.fld (seSlotStatState i c.slot) = slotClosing then .error none
      else if s.fld (seSlotStatState i c.slot) ≠ slotOpen then .error (some 2)
      else .ok (p, r)

/-- A KV_APPEND is performed (R221, R223). -/
def State.runAppend (s : State) (i : Nat) (c : SeCmd) : State :=
  if c.bad then s
  else
    match s.judgeSlot i c fun r => decide (c.length = 2 * c.count * keyBytes r) with
    | .error sub => s.refuseCmd i c sub
    | .ok (p, r) =>
      if s.written i c.slot c.layer ≠ c.first then s.post (recSe s i 4 c)
      else
        let tpp := pagePositions r
        let t := s.fld (seSlotStatTenant i c.slot)
        let pages := if c.count = 0 then []
          else (List.range ((c.first + c.count - 1) / tpp - c.first / tpp + 1)).map fun j => (c.first / tpp + j) * r.layers + c.layer
        let e := s.allocPages i c.slot p t r pages
        let w := e.1.appendPositions i c.slot r c.layer c.first c.count c.payload c.marks
        let s := w.1.modDslot i c.slot fun d => { d with written := tabSet 0 d.written c.layer (c.first + w.2) }
        let s := if c.layer + 1 = r.layers then s.setFld (seSlotStatLen i c.slot) (c.first + w.2) else s
        if e.2 then s
        else
          let s := (s.setFlag (seSlotStatCtxFull i c.slot) true).partEvent i (some p) sePartEventsCtxFull
          s.post (recUnit 3 i 1 14 3 c.job c.slot (some p))

/-- KV_APPEND: the engine performs the KV_APPEND at the head of its queue. -/
def execKvAppend (i : Fin 16) (s : State) : Host.Outcome State Fault Refusal := .next (s.startCmd i 1 fun s c => s.runAppend i c)

/-! Attention (R224). -/

/-- e to x, for x below 128 in units of 2⁻³²⁰, in the same units: the series of x / 256, squared eight times. Its relative error is below
2⁻³⁰⁰. -/
def expFix (x : Nat) : Nat :=
  let y := x >>> 8
  let sum := ((List.range 80).foldl (fun (a : Nat × Nat) i =>
    let t := a.2 * y / ((i + 1) <<< 320)
    (a.1 + t, t)) (2 ^ 320, 2 ^ 320)).1
  (List.range 8).foldl (fun a _ => (a * a) >>> 320) sum

/-- A positive FP32 pattern in units of 2⁻³²⁰; infinity stands at 2¹²⁸. -/
def f32Fix (p : Nat) : Nat :=
  match fpOf fmtF32 p with
  | .fin _ m e => m <<< (e + 320).toNat
  | _ => 2 ^ 448

/-- The FP32 patterns within 1 ulp of v in units of 2⁻³²⁰. -/
def withinUlp (v : Nat) : List Nat :=
  let q : Int := max ((Nat.log2 v : Int) - 343) (-149)
  let low := (q + 149).toNat * 2 ^ 23 + v >>> (q + 320).toNat
  ((List.range 5).filter fun i => decide (2 ≤ low + i) && decide (low + i - 2 ≤ 0x7F800000)
    && decide (f32Fix (low + i - 2) ≤ v + 2 ^ (q + 320).toNat) && decide (v ≤ f32Fix (low + i - 2) + 2 ^ (q + 320).toNat)).map fun i =>
      low + i - 2

/-- e to the value of an FP32 pattern below 128 in magnitude, in units of 2⁻³²⁰. -/
def expOf (neg : Bool) (x : Nat) : Nat := if neg then 2 ^ 640 / expFix x else expFix x

/-- The engine's exponential (R224): exp(−∞) = 0; of a finite number one of the patterns within 1 ulp, the choice a free value that depends on
the operand alone (log entry 6). -/
def seExp (x : F32) : F32 :=
  match val32 x with
  | .nan => 0x7FC00000
  | .inf neg => if neg then 0 else 0x7F800000
  | .fin neg m e =>
    let k := m <<< (e + 320).toNat
    if 2 ^ 327 ≤ k ∧ !neg then 0x7F800000
    else
      let l := withinUlp (expOf neg (Nat.min k (2 ^ 327 - 1)))
      BitVec.ofNat 32 (l.getD (Config.expChoice x % l.length) 0x7F800000)

/-- FP32 product, sum, difference, maximum and quotient, each rounded to nearest even (R224). -/
def mulF (a b : F32) : F32 := round32 (fpMul (val32 a) (val32 b))
/-- See `mulF`. -/
def addF (a b : F32) : F32 := round32 (fpAdd (val32 a) (val32 b))
/-- See `mulF`. -/
def subF (a b : F32) : F32 := round32 (fpAdd (val32 a) (fpNeg (val32 b)))
/-- See `mulF`. -/
def maxF (a b : F32) : F32 := round32 (fpMax (val32 a) (val32 b))
/-- See `mulF`. -/
def divF (a b : F32) : F32 := round32 (fpDiv (val32 a) (val32 b))

/-- An FP32 pattern of BF16 element j of a byte string. -/
def bfAt (d : List Byte) (j : Nat) : F32 := BitVec.ofNat 32 (numAt d (2 * j) 2 * 2 ^ 16)

/-- Dot product in ascending element order (R224). -/
def dotF (xs ys : List F32) : F32 := (xs.zip ys).foldl (fun a e => addF a (mulF e.1 e.2)) 0

/-- State of one head's running softmax: maximum, sum and output (R224). -/
structure Soft where
  m : F32
  sum : F32
  o : List F32
deriving DecidableEq, Repr

/-- One block of positions, each its score and values (R224). -/
def softBlock (st : Soft) (blk : List (F32 × List F32)) : Soft :=
  let mn := blk.foldl (fun a e => maxF a e.1) st.m
  let c := seExp (subF st.m mn)
  let es := blk.map fun e => (seExp (subF e.1 mn), e.2)
  { m := mn
    sum := addF (mulF st.sum c) (es.foldl (fun a e => addF a e.1) 0)
    o := st.o.zipIdx.map fun x => addF (mulF x.1 c) (es.foldl (fun a e => addF a (mulF e.1 (e.2.getD x.2 0))) 0) }

/-- Blocks of 32 positions, ascending. -/
def softBlocks (d : Nat) : Nat → Soft → List (F32 × List F32) → Soft
  | 0, st, _ => st
  | n + 1, st, l => if l.isEmpty then st else softBlocks d n (softBlock st (l.take 32)) (l.drop 32)

/-- Output of one query head over keys and values of its key and value head (R224), as BF16 patterns. -/
def headOut (scale : F32) (q : List F32) (kv : List (List F32 × List F32)) : List Nat :=
  let l := kv.map fun e => (mulF scale (dotF q e.1), e.2)
  let st := softBlocks q.length (l.length / 32 + 1) { m := 0xFF800000, sum := 0, o := List.replicate q.length 0 } l
  st.o.map fun x => fpTo fmtBf16 false (val32 (divF x st.sum))

/-- A read of HBM by a stream engine for a command: bytes, poison, with the errors and failed check units it meets (R206, R427
POINT 8, R428). -/
def State.seRead (s : State) (i a n : Nat) (c : SeCmd) : State × List Byte × List Bool :=
  let p := s.partOf c.cluster
  s.hbmRead a n c.job p fun u => recUnit 3 i 3 6 0 c.job (8 * 2 ^ 60 + u) p

/-- Keys and values of the positions an ATTEND reads, and whether any word of them is poisoned. -/
def State.readPositions (s : State) (i : Nat) (c : SeCmd) (r : StreamRec) (n : Nat) : State × List (List Byte × List Byte) × Bool :=
  (List.range n).foldl (fun e p =>
    match e.1.keyAddr i c.slot r c.layer p with
    | none => (e.1, e.2.1 ++ [([], [])], true)
    | some a =>
      let k := e.1.seRead i a (keyBytes r) c
      let v := k.1.seRead i (a + 32768) (keyBytes r) c
      (v.1, e.2.1 ++ [(k.2.1, v.2.1)], e.2.2 || k.2.2.any id || v.2.2.any id)) (s, [], false)

/-- BF16 elements of head g of a position's keys or values. -/
def headElems (r : StreamRec) (g : Nat) (d : List Byte) : List F32 := (List.range r.dhead).map fun j => bfAt d (g * r.dhead + j)

/-- An ATTEND is performed (R223, R224). -/
def State.runAttend (s : State) (i : Nat) (c : SeCmd) : State :=
  match s.judgeSlot i c fun r => decide (c.first = 0) && decide (c.length = 2 * r.hq * r.dhead) with
  | .error sub => s.refuseCmd i c sub
  | .ok (_, r) =>
    let beyond := decide (s.written i c.slot c.layer < c.count)
    let s := if beyond then s.post (recSe s i 4 c) else s
    let e := s.readPositions i c r (if beyond then 0 else c.count)
    let kv := e.2.1
    let out := (List.range r.hq).foldl (fun l h =>
      let g := h / (r.hq / r.hkv)
      l ++ headOut r.scale (headElems r h c.payload) (kv.map fun x => (headElems r g x.1, headElems r g x.2))) []
    let d := out.foldl (fun l x => l ++ leBytes 2 x) []
    e.1.giveResult i c d (allBits d.length (beyond || e.2.2 || c.bad || c.marks.any id))

/-- ATTEND: the engine performs the ATTEND at the head of its queue. -/
def execAttend (i : Fin 16) (s : State) : Host.Outcome State Fault Refusal := .next (s.startCmd i 2 fun s c => s.runAttend i c)

/-! Adapter gathering (R227, R228). -/

/-- Read n bytes from offset o of the version in an adapter slot, frame by frame and in whole check units of 4,096 bytes, none beyond the
version's `top` (R227, R267, R427 POINT 8); `fuel` bounds the frames. -/
def State.readVersion (s : State) (i : Nat) (c : SeCmd) (frame top : Nat) : Nat → Nat → Nat → State × List Byte × List Bool
  | 0, _, _ => (s, [], [])
  | k + 1, o, n =>
    if n = 0 then (s, [], [])
    else
      let m := Nat.min n (65536 - o % 65536)
      let lo := o / 4096 * 4096
      let hi := Nat.min (ceilDiv (o + m) 4096 * 4096) (Nat.max (o + m) (ceilDiv top 64 * 64))
      let x := s.seRead i (frameAddr i (frame + lo / 65536) (lo % 65536)) (hi - lo) c
      let y := x.1.readVersion i c frame top k (o + m) (n - m)
      (y.1, (x.2.1.drop (o - lo)).take m ++ y.2.1, (x.2.2.drop (o - lo)).take m ++ y.2.2)

/-- A GATHER is performed (R228). -/
def State.runGather (s : State) (i : Nat) (c : SeCmd) : State :=
  let a := s.aslot c.slot
  let own := match s.partOf c.cluster with
    | some p => decide (c.slot < 8192) && decide (a.st ≠ .unassigned) && decide (a.part = p) && decide (c.slot % 16 = i)
    | none => false
  if !(c.reservedZero && decide (c.length = 0) && decide (c.count = 0) && decide (c.first < 65536)) then s.refuseCmd i c (some 3)
  else if !own then s.refuseCmd i c (some 2)
  else
    let hd (slot gen rank din dout alpha : Nat) : List Byte :=
      leBytes 2 slot ++ leBytes 2 gen ++ leBytes 2 rank ++ leBytes 2 din ++ leBytes 2 dout ++ leBytes 2 0 ++ leBytes 4 alpha
        ++ leBytes 4 64 ++ leBytes 4 (64 + 2 * rank * din) ++ List.replicate 40 0
    if a.frames = 0 then s.giveResult i c (hd c.slot a.gen 0 0 0 0) (allBits 64 c.bad)
    else
      let top := leNat (s.bytes (frameAddr i a.frame 8) 4)
      let h := s.readVersion i c a.frame top 2 0 64
      let n := numAt h.2.1 4 2
      if n ≤ c.layer then h.1.giveResult i c (hd (numAt h.2.1 0 2) (numAt h.2.1 2 2) 0 0 0 0) (allBits 64 (c.bad || h.2.2.any id))
      else
        let e := h.1.readVersion i c a.frame top 2 (64 + 32 * c.layer) 32
        let d := e.2.1
        let r := numAt d 0 2
        let din := numAt d 2 2
        let dout := numAt d 4 2
        let x := e.1.readVersion i c a.frame top 1100 (numAt d 10 4) (2 * r * din)
        let y := x.1.readVersion i c a.frame top 1100 (numAt d 14 4) (2 * dout * r)
        let data := hd (numAt h.2.1 0 2) (numAt h.2.1 2 2) r din dout (numAt d 6 4) ++ x.2.1 ++ y.2.1
        let marks := allBits 64 (h.2.2.any id || e.2.2.any id) ++ x.2.2 ++ y.2.2
        y.1.giveResult i c data (marks.map fun b => b || c.bad)

/-- GATHER: the engine performs the GATHER at the head of its queue. -/
def execGather (i : Fin 16) (s : State) : Host.Outcome State Fault Refusal := .next (s.startCmd i 3 fun s c => s.runGather i c)

/-! Slots at boundaries (R214, R221). -/

/-- A slot leaves CLOSING: its frames join the tail of the free list in logical page order, its table entries clear (R221). -/
def State.freeSlot (s : State) (i k : Nat) : State :=
  let p := s.fld (seSlotStatPart i k)
  let t := s.fld (seSlotStatTenant i k)
  let ps := (s.dslot i k).pages
  let s := s.setFreeFrames i p (s.freeFrames i p ++ ps.map fun e => e.2.2)
  let s := ps.foldl (fun s e =>
    let s := { s with se := { s.se with tpn := tabSet [] s.se.tpn t ((s.tpns t).erase e.2.1) } }
    s.writeTable t i e.2.1 0) s
  let s := s.modDslot i k fun _ => {}
  s.setReg (seSlotStatReg i k) (BitVec.ofNat 64 (p * 16 + slotFree))

/-- Admission gives a decode slot to a request (R214): it becomes OPEN at the admission boundary. -/
def State.openSlotFor (s : State) (i k p t : Nat) : State :=
  { s with se := { s.se with opening := s.se.opening ++ [(256 * i + k, p, t)] } }

/-- At the admission boundary the slots given become OPEN, with no pages and all WRITTEN counts 0 (R214); one that is no longer FREE, since its
engine has failed, does not. -/
def State.openSlots (s : State) : State :=
  let s := s.se.opening.foldl (fun s e =>
    let i := e.1 / 256
    let k := e.1 % 256
    if s.fld (seSlotStatState i k) ≠ slotFree then s
    else (s.modDslot i k fun _ => {}).setReg (seSlotStatReg i k) (BitVec.ofNat 64 (e.2.2 % 1024 * 256 + e.2.1 * 16 + slotOpen))) s
  (List.range 16).foldl State.showSlots { s with se := { s.se with opening := [] } }

/-- A request's slot becomes CLOSING (R214); one that admission has given and that has not yet become OPEN stays FREE. -/
def State.closeSlot (s : State) (i k : Nat) : State :=
  if s.fld (seSlotStatState i k) = slotOpen then s.setFld (seSlotStatState i k) slotClosing
  else match s.se.opening.find? fun e => decide (e.1 = 256 * i + k) with
    | some e =>
      { s with se := { s.se with opening := s.se.opening.filter fun x => decide (x.1 ≠ 256 * i + k) } }.decFld (tnStatActive e.2.2) 1
    | none => s

/-- STACK_FAILURE: memory controller s or stack s fails, which is MODULE_FATAL (R216). -/
def execStackFailure (i : Fin 16) (s : State) : Host.Outcome State Fault Refusal :=
  .next (s.post { sev := 5, kind := 15, sub := 1, domain := 4, unit := 0, detail := i })

end Sys2Proof.Machine
end

