-- ==== Sys2Proof/Machine/Serve.lean ====
section
/-! DEFINITION. Host serving: completion entries, interrupt vectors, how requests end (R325, R327, R333, R337 to R340, R346, R357).
A request is 4,096 × port + entry of the port's request table. Log entries 29, 30. -/
namespace Sys2Proof.Machine
open Sys2Proof

/-- Entries of a request ring and of a completion ring (R329). -/
def State.ringSize (s : State) (p k : Nat) : Nat := 2 ^ (6 + s.fld (hpRingCfgRq p k))
/-- See `ringSize`. -/
def State.cplSize (s : State) (p k : Nat) : Nat := 2 ^ (6 + s.fld (hpRingCfgCq p k))

/-- Completion entries written and not yet passed by the host's head. -/
def State.cplUsed (s : State) (p k : Nat) : Nat :=
  let n := s.cplSize p k
  (s.fld (hpRingStatCplTail p k) + n - s.fld (hpCplHeadHead p k) % n) % n

/-- Unreserved completion entries: a ring of n entries holds n − 1 (R329). -/
def State.cplFree (s : State) (p k : Nat) : Nat := s.cplSize p k - 1 - s.cplUsed p k - s.fld (hpRingStatReserved p k)

/-- Reserve completion entries. -/
def State.reserveCpl (s : State) (p k n : Nat) : State := s.incWrap (hpRingStatReserved p k) n
/-- Release reserved completion entries. -/
def State.unreserveCpl (s : State) (p k n : Nat) : State := s.decFld (hpRingStatReserved p k) n

/-- Is the ring pair the host's (EN set; RUNNING or ERROR)? -/
def State.ringOn (s : State) (p k : Nat) : Bool := decide (s.fld (hpRingStatState p k) ≠ 0)

/-- The MSI-X vector of a ring pair (R325), as 512 × function + vector: k + 1 of the PF, or j of the VF for its j-th ring. -/
def State.ringVector (s : State) (p k : Nat) : Nat :=
  let fn := s.fld (hpRingCfgFn p k)
  if fn = 0 then k + 1
  else 512 * fn + (List.range k).countP fun j => decide (s.fld (hpRingCfgFn p j) = fn)

/-- An event of HP_EVENTS (R325): counted, NEW set; vector 0 fires when NEW was clear. -/
def State.hpEvent (s : State) (p : Nat) (f : Nat → Fld) : State :=
  let s := s.incSat (f p) 1
  if s.flag (hpEventsNew p) then s else (s.setFlag (hpEventsNew p) true).fireMsix p 0

/-- A NOTE record of a host port (R327 SUB 1, R332 SUB 2), or CONTAINED (R346 SUB 3). -/
def recHost (s : State) (p sev sub job k : Nat) (part : Option Nat) : Rec :=
  { recUnit 1 p sev 18 sub job k part with custOnly := part.isNone && (s.partsOf p).isEmpty }

/-- What a completion entry says, beside its place in the ring (R337). -/
structure CplBody where
  kind : Nat
  status : Nat
  flags : Nat
  req : Nat
  units : Nat
  reason : Nat
  payload : List Byte
  user : W64
  irq : Bool
deriving DecidableEq, Repr

/-- Write a completion entry into a reserved place (R325, R337): nothing is written to a ring that is off. -/
def State.writeCpl (s : State) (p k : Nat) (e : CplBody) : State :=
  if s.ringOn p k then
    let i := s.fld (hpRingStatCplTail p k)
    let last := decide (i + 1 = s.cplSize p k)
    let ph := (s.ring p k).phase
    let c : CplEntry := { port := p, ring := k, index := i, kind := e.kind, status := e.status, flags := e.flags, phase := ph,
                          req := e.req, tick := s.tick % 2 ^ 32, units := e.units, reason := e.reason, payload := e.payload, user := e.user }
    let s := { s with sv := { s.sv with out := c :: s.sv.out } }
    let s := (s.setFld (hpRingStatCplTail p k) (if last then 0 else i + 1)).unreserveCpl p k 1
    let s := s.modRing p k fun r => { r with
      phase := if last then !ph else ph
      wrote := r.wrote || !e.irq
      ids := if e.kind = 1 then r.ids else (r.ids.filter fun x => decide (x.1 ≠ e.req)) ++ [(e.req, .ended i)] }
    if e.irq then s.fireMsix p (s.ringVector p k) else s
  else s

/-- A staging request ends with its DONE entry (R337, R340): `handle` and `gen` are bytes 24 to 27 of the entry, `tiles` bytes 28 to 29. -/
def State.doneReq (s : State) (r : StageReq) (status reason handle gen tiles : Nat) : State :=
  s.writeCpl r.port r.ring
    { kind := 3, status, flags := 0, req := r.req, units := 0, reason, user := r.user, irq := r.irq
      payload := leBytes 2 handle ++ leBytes 2 gen ++ leBytes 2 tiles }

/-- The same for a request that may not wait any more. -/
def State.doneOpt (s : State) (r : Option StageReq) (status reason handle gen tiles : Nat) : State :=
  match r with
  | some r => s.doneReq r status reason handle gen tiles
  | none => s

/-! Stream requests. -/

/-- A request by its number. -/
def State.rq (s : State) (n : Nat) : Option Request := tabFind s.sv.req n

/-- Put a request. -/
def State.setRq (s : State) (n : Nat) (r : Request) : State :=
  { s with sv := { s.sv with req := tabInsert (tabErase s.sv.req n) n r } }

/-- Change a request. -/
def State.modRq (s : State) (n : Nat) (f : Request → Request) : State :=
  match s.rq n with
  | some r => s.setRq n (f r)
  | none => s

/-- The SERVICE record of a service number (R341). -/
def State.serviceOf (s : State) (v : Nat) : Option ServiceRec := s.ctg.services.find? fun r => decide (r.service = v)

/-- Completion entries a step of a service may write: R of R342. -/
def stepEntries (v : ServiceRec) : Nat := v.maxUnits * ceilDiv v.unitBytes 32

/-- The tick whose next boundary frees what an ended request holds: this one, or the next when the end comes after T+L − 500 ns
(R357; log entry 30). -/
def State.endTick (s : State) : Nat := if s.tickNs < s.t + 500 then s.nextTick else s.tick

/-- A request ends with its FINAL entry (R337, R339, R357): nothing more of it is delivered, its slot becomes CLOSING. `final` is clear
when its ring pair is no longer the host's (R327); `t` is the tick whose next boundary frees what it holds. -/
def State.endReqAt (s : State) (t n status reason : Nat) (final : Bool) : State :=
  match s.rq n with
  | none => s
  | some r =>
    if r.ended.isSome then s
    else
      let s := if final then
          s.writeCpl r.port r.ring
            { kind := 2, status, req := r.req, units := r.delivered, reason, payload := [], user := r.user, irq := r.irq
              flags := bitNat (decide (status = 0) && r.suspect) + 2 * bitNat (decide (status = 0) && r.ctxLimit) }
        else s
      let s := s.setRq n { r with ended := some t, status, muted := true }
      let s := (s.decFld (hpStatusOpen r.port) 1).decFld (tnStatOpen r.tenant) 1
      match r.dslot with
      | some d => if t = s.tick then s.closeSlot (d / 256) (d % 256) else s
      | none => s

/-- A request ends with what reaches its port now. -/
def State.endReq (s : State) (n status reason : Nat) (final : Bool) : State := s.endReqAt s.endTick n status reason final

/-- A request ends in the guard band of the tick: what it holds is freed at the coming boundary (R349, R352, R358). -/
def State.endNow (s : State) (n status reason : Nat) : State := s.endReqAt s.tick n status reason true

/-- Numbers of the requests not ended that satisfy a test. -/
def State.liveReqs (s : State) (f : Request → Bool) : List Nat :=
  s.sv.req.filterMap fun e => if e.2.ended.isNone && f e.2 then some e.1 else none

/-- End every live request that satisfies a test. -/
def State.endReqs (s : State) (f : Request → Bool) (status reason : Nat) (final : Bool) : State :=
  (s.liveReqs f).foldl (fun s n => s.endReq n status reason final) s

/-- A request is cancelled (R357): FINAL CANCELLED. -/
def State.cancelReq (s : State) (n : Nat) : State := s.endReq n 1 0 true

/-- Is a credit pool one that a stream engine feeds (R303)? -/
def State.poolOfEngine (s : State) (i : Nat) (pool : Option Nat) : Bool :=
  pool.any fun n => s.ctg.credits.any fun c => decide (c.pool = n) && decide (c.source = 1) && decide (c.id = i)

/-- Packets that a failed engine was delivering are cut short (R158); what its slots still had to deliver is poisoned. -/
def State.cutEngine (s : State) (i : Nat) : State :=
  let s := (s.cl.queue.map Prod.fst).foldl (fun s k => match (s.queue (k / 512) (k % 512)).arriving with
    | some a => if s.poolOfEngine i a.pool then s.abortArrival (k / 512) (k % 512) else s
    | none => s) s
  { s with cl := { s.cl with xfers := s.cl.xfers.map fun x => { x with
    pkts := x.pkts.map fun p => if s.poolOfEngine i p.pool then { p with poison := allBits (cellsOf p.len) true } else p } } }

/-- STREAM_ENGINE_FAILURE: the engine's slots become STOPPED, the requests that hold one end POISONED, commands it holds deliver
stand-ins (R214, R216). -/
def execStreamEngineFailure (i : Fin 16) (s : State) : Host.Outcome State Fault Refusal :=
  .next (
    if tabGet false s.se.failed i then s
    else
      let s := ({ s with se := { s.se with failed := tabSet false s.se.failed i true } }).showSe i
      let s := (s.post (recUnit 3 i 3 14 2 0 0 none)).cutEngine i
      let s := s.endReqs (fun r => match r.dslot with | some d => decide (d / 256 = i) | none => false) 3 0 true
      let s := (List.range 256).foldl (fun s k =>
        if s.fld (seSlotStatState i k) = 0 then s else s.setFld (seSlotStatState i k) slotStopped) s
      (s.showSlots i))

/-! Output records (R345, R346, R435). -/

/-- The request admitted to a batch slot of a cohort of a service. -/
def State.admittedAt (s : State) (v n b : Nat) : Option (Nat × Request × Step) :=
  s.sv.req.findSome? fun e => match e.2.step with
    | some st => if e.2.svc = v ∧ st.cohort = n ∧ st.batch = b then some (e.1, e.2, st) else none
    | none => none

/-- Units delivered come off the oldest GENERATE first. -/
def dropUnits : Nat → List Gen → List Gen
  | _, [] => []
  | n, g :: r => if n < g.units then { g with units := g.units - n } :: r else dropUnits (n - g.units) r

/-- Write the OUTPUT entry of a record that is delivered (R337, R338). Its units come off the GENERATEs that its step began with; EOS drops all that
remain, and a GENERATE fetched later counts from the next step (R359). -/
def State.deliverRecord (s : State) (k : Nat) (r : Request) (st : Step) (d : List Byte) : State :=
  let fl := numAt d 5 1
  let units := numAt d 4 1
  let len := Nat.min (numAt d 6 2) 32
  let s := s.writeCpl r.port r.ring
    { kind := 1, status := 0, req := r.req, units, reason := 0, user := st.user, irq := st.irq
      flags := bitNat (bitOf fl 1) + 4 * bitNat (bitOf fl 0) + 8 * bitNat (bitOf fl 2)
      payload := (d.drop 32).take len }
  s.setRq k { r with
    delivered := r.delivered + units
    suspect := r.suspect || bitOf fl 1
    gens := if bitOf fl 0 then [] else dropUnits (Nat.min units st.owed) r.gens
    step := some { st with used := st.used + units, resv := st.resv - 1, owed := if bitOf fl 0 then 0 else st.owed - units } }

/-- OUTPUT_RECORD_COMPLETE: record j of batch slot b of cohort n of a service completes at the row gate (R345, R346, R357 to R359,
R427 POINT 10, R435). -/
def execOutputRecordComplete (svc n b j : Nat) (s : State) : Host.Outcome State Fault Refusal :=
  .next (match s.serviceOf svc with
    | none => s
    | some v =>
      let port := s.fld (btPartHost v.part)
      let a := v.outAddr + ((n % 2) * v.batch * stepEntries v + b * stepEntries v + j) * 64
      let h := s.hbmRead a 64 v.job (some v.part) fun u => recUnit 1 port 3 6 0 v.job (10 * 2 ^ 60 + u) (some v.part)
      let s := h.1
      let d := h.2.1
      match s.admittedAt svc n b with
      | none => s.post (recHost s port 3 3 v.job 0 (some v.part))
      | some (k, r, st) =>
        if r.muted || r.ended.isSome then
          (if r.ended.isNone || decide (r.status = 1) || decide (r.status = 2) then s.hpEvent port hpEventsDiscarded else s)
        else if h.2.2.any id then s.endReq k 3 0 true
        else if numAt d 2 2 ≠ r.openIx then s.post (recHost s port 3 3 v.job r.ring (some v.part))
        else if bitOf (numAt d 5 1) 1 && decide (s.fld (inPolicyPolicy v.part) = 2) then s.endReq k 6 0 true
        else
          let s := s.incWrap (tnStatCharged r.tenant) (numAt d 4 1 * st.cost)
          s.deliverRecord k r st d)

/-! Ring pairs (R327 to R333). -/

/-- Is a descriptor the OPEN of a REQ_ID on a ring pair? -/
def Desc.opens (d : Desc) (k req : Nat) : Bool := decide (d.kind = 1) && decide (d.ring = k) && decide (d.req = req)

/-- An OPEN that has been fetched and has not yet taken effect is cancelled: its FINAL CANCELLED takes the entry reserved for it (R333, R357). -/
def State.cancelOpen (s : State) (p : Nat) (d : Desc) : State :=
  (s.modHport p fun h => { h with store := h.store.filter fun x => !x.opens d.ring d.req }).writeCpl p d.ring
    { kind := 2, status := 1, flags := 0, req := d.req, units := 0, reason := 0, payload := [], user := d.user, irq := d.irq }

/-- A write of a REQ_ID to HP_CANCEL cancels the request, or is counted: for an ended request, one unknown, or a staging request (R357; log entry 30). -/
def State.cancelById (s : State) (p k req : Nat) : State :=
  match (s.ring p k).ids.lookup req with
  | some (.stream n) => if (s.rq n).any fun r => r.ended.isNone then s.cancelReq n else s.hpEvent p hpEventsCancelIgnored
  | _ => match (s.hport p).store.find? fun d => d.opens k req with
    | some d => s.cancelOpen p d
    | none => s.hpEvent p hpEventsCancelIgnored

/-- The port p's ring pairs given to a function. -/
def State.fnRings (s : State) (p fn : Nat) : List Nat := (List.range 256).filter fun k => decide (s.fld (hpRingCfgFn p k) = fn)

/-- Is the virtual function one that its port offers: 1 to VFS (R324)? -/
def State.vfExists (s : State) (p fn : Nat) : Bool := decide (1 ≤ fn) && decide (fn ≤ s.fld (btHostwinVfs p))

/-- May an accessor reach ring pair k of port p (R19, R50, R324)? The PF reaches every ring pair of its port, a VF those given to it. -/
def State.mayRing (s : State) (acc : Accessor) (p k : Nat) : Bool :=
  match acc with
  | .custodian => true
  | .host q => decide (q.val = p)
  | .vf q fn => decide (q.val = p) && s.vfExists p fn && decide (s.fld (hpRingCfgFn p k) = fn)

/-- Does a staging request come from a ring pair? -/
def StageReq.of (p k : Nat) (r : StageReq) : Bool := decide (r.port = p) && decide (r.ring = k)

/-- The staging requests of a ring pair end without a DONE entry (R327); a VOLUME_STAGE whose manifest has not been accepted holds nothing, and what else
they staged goes on (log entry 107). -/
def State.forgetStaging (s : State) (p k : Nat) : State :=
  let drop (r : Option StageReq) : Option StageReq := r.filter fun x => !x.of p k
  let vol := s.sh.vol.filter fun e => !(decide (e.2.st = .absent) && e.2.stager.any (StageReq.of p k))
  { s with
    sh := { s.sh with
      vol := vol.map fun (e : Nat × Volume) => (e.1, { e.2 with stager := drop e.2.stager, watch := e.2.watch.filter fun x => !x.of p k })
      aslot := s.sh.aslot.map fun (e : Nat × ASlot) => (e.1, { e.2 with stager := drop e.2.stager }) }
    cat := { s.cat with stager := drop s.cat.stager } }

/-- A ring pair stops being the host's (R327): its requests end as cancellations without a final entry, its waiting descriptors are
dropped, HEAD and CPL_TAIL stay. -/
def State.stopRing (s : State) (p k : Nat) : State :=
  let s := s.forgetStaging p k
  let s := s.endReqs (fun r => decide (r.port = p) && decide (r.ring = k)) 1 0 false
  let s := { s with sv := { s.sv with req := s.sv.req.map fun (e : Nat × Request) =>
    if e.2.port = p ∧ e.2.ring = k then (e.1, { e.2 with step := e.2.step.map fun (st : Step) => { st with resv := 0 } }) else e } }
  let s := s.modHport p fun h => { h with
    store := h.store.filter fun d => decide (d.ring ≠ k)
    bytes := h.bytes - sumNat (((h.store.filter fun d => decide (d.ring = k) && decide (d.kind = 2)) ++ (s.ring p k).chunk.toList).map fun d =>
      numAt d.body 8 4) }
  let s := s.modRing p k fun _ => {}
  let s := (s.setFld (hpRingStatState p k) 0).setFld (hpRingStatReserved p k) 0
  s.setFlag (hpRingCfgEn p k) false

/-- The ring enters ERROR (R332). -/
def State.ringError (s : State) (p k err : Nat) (part : Option Nat) : State :=
  if s.fld (hpRingStatState p k) ≠ 1 then s
  else
    let s := (s.setFld (hpRingStatState p k) 2).setFld (hpRingStatErr p k) err
    (s.hpEvent p hpEventsRingErrors).post (recHost s p 1 2 0 k part)

/-- HP_DOORBELL: a new tail; one at or beyond the ring's size is an error (R330, R332). -/
def execHpDoorbell (acc : Accessor) (p : Fin 4) (k : Fin 256) (tail : BitVec 16) (s : State) : Host.Outcome State Fault Refusal :=
  .next (
    if !(s.mayRing acc p k) then s.hiddenAccess acc (hpDoorbellReg p k)
    else if !(s.ringOn p k) then s
    else if s.ringSize p k ≤ tail.toNat then s.ringError p k 1 (s.partsOf p).head?
    else s.modRing p k fun r => { r with tail := tail.toNat })

/-- HP_CANCEL: a write of a REQ_ID. -/
def execHpCancel (acc : Accessor) (p : Fin 4) (k : Fin 256) (req : BitVec 32) (s : State) : Host.Outcome State Fault Refusal :=
  .next (
    if !(s.mayRing acc p k) then s.hiddenAccess acc (hpCancelReg p k)
    else s.cancelById p k req.toNat)

/-- Indices the host passes when its completion head moves from a to b in a ring of n. -/
def passedIx (n a b i : Nat) : Bool := decide ((i + n - a) % n < (b + n - a) % n)

/-- HP_CPL_HEAD: entries up to the new head are freed, REQ_IDs whose last entry is passed become unknown; a head beyond the
completion tail is an error (R332, R333). -/
def execHpCplHead (acc : Accessor) (p : Fin 4) (k : Fin 256) (head : BitVec 16) (s : State) : Host.Outcome State Fault Refusal :=
  .next (
    if !(s.mayRing acc p k) then s.hiddenAccess acc (hpCplHeadReg p k)
    else
      let n := s.cplSize p k
      let a := s.fld (hpCplHeadHead p k)
      if !(s.ringOn p k) then s.setFld (hpCplHeadHead p k) head.toNat
      else if n ≤ head.toNat ∨ s.cplUsed p k < (head.toNat + n - a % n) % n then s.ringError p k 8 (s.partsOf p).head?
      else
        let s := s.setFld (hpCplHeadHead p k) head.toNat
        s.modRing p k fun r => { r with ids := r.ids.filter fun e => match e.2 with
          | .ended i => !(passedIx n a head.toNat i)
          | _ => true })

/-- RING_ENABLE: EN is set: HEAD and CPL_TAIL start at 0 (R326, R329); refused while the port is not ready, or for a ring size
beyond the table. -/
def execRingEnable (acc : Accessor) (p : Fin 4) (k : Fin 256) (s : State) : Host.Outcome State Fault Refusal :=
  .next (
    if !(s.mayRing acc p k) then s.hiddenAccess acc (hpRingCfgReg p k)
    else if s.ringOn p k || !(s.flag (hpStatusReady p)) || decide (10 < s.fld (hpRingCfgRq p k))
        || decide (10 < s.fld (hpRingCfgCq p k)) then s
    else
      let s := (s.modRing p k fun _ => {}).setReg (hpRingStatReg p k) (BitVec.ofNat 64 (2 ^ 62))
      (s.setFld (hpCplHeadHead p k) 0).setFlag (hpRingCfgEn p k) true)

/-- RING_DISABLE: EN is cleared (R327). -/
def execRingDisable (acc : Accessor) (p : Fin 4) (k : Fin 256) (s : State) : Host.Outcome State Fault Refusal :=
  .next (
    if !(s.mayRing acc p k) then s.hiddenAccess acc (hpRingCfgReg p k)
    else if s.ringOn p k then (s.stopRing p k).post (recHost s p 1 1 0 k (s.partsOf p).head?) else s)

end Sys2Proof.Machine
end

