-- ==== Sys2Proof/Machine/CoreArray.lean ====
section
/-! DEFINITION. Array instructions of a core, release of a product and re-evaluation (R72, R73, R85, R96, R103 to R106, R111, R118, R431,
R434 to R436). -/
namespace Sys2Proof.Machine
open Sys2Proof

/-- XPHASE: set the declared phase count D (R103). -/
def execXphase (c : CoreId) (d : BitVec 2) (s : State) : Host.Outcome State Fault Refusal :=
  .next (s.issue c fun s => s.modCore c fun k => { k with phase := d })

/-- XISSUE: issue a product of a vector in data scratch to one of the core's crossbars (R73, R104, R111, R118). -/
def execXissue (c : CoreId) (j : Fin 16) (vec : GReg) (fmt : InFmt) (res : GReg) (acc : Bool) (s : State) :
    Host.Outcome State Fault Refusal :=
  .next (s.issue c fun s => s.needJob c fun s =>
    let x := coreXb c j
    let a := (s.gpr c vec).toNat
    let b := (s.gpr c res).toNat
    if s.gprP c vec || s.gprP c res then s.setLatch c
    else if !inExtent a (vecBytes fmt) 65536 then s.refuseAccess c 7 a
    else if !inExtent b (4 * weightCols (s.slotPrec x)) 65536 then s.refuseAccess c 7 b
    else
      let s := s.incWrap (xbUsageProducts (xbCluster x) (xbSlot x)) 1
      s.issueProduct x
        { core := c, job := (s.cs c).job.toNat, fmt, vecAddr := a, vec := [], vecPoison := false, res := b, acc,
          d := (s.cs c).phase.toNat + 1, t0 := 0, need := 0, reserved := sliceCount fmt * ((s.cs c).phase.toNat + 1),
          kind := .normal, prec := 0, base := 0, redo := [], settled := [], suspect := false, hold := false, earliest := 0,
          verdict := none, allPoison := false })

/-- XSYNC: wait until the most recent product on the named crossbar has released (R106). -/
def execXsync (c : CoreId) (j : Fin 16) (s : State) : Host.Outcome State Fault Refusal :=
  .next (s.issue c fun s =>
    (s.modCore c fun k => { k with run := .waiting (.xsync (coreXb c j)) }).wakeXb c (coreXb c j))

/-- XSTAT: LAST_N, TWINNED and SUSPECT at the positions their registers give them (R106). -/
def execXstat (c : CoreId) (rd : GReg) (j : Fin 16) (s : State) : Host.Outcome State Fault Refusal :=
  .next (s.issue c fun s =>
    let l := xbCluster (coreXb c j)
    let k := xbSlot (coreXb c j)
    s.setGpr c rd (BitVec.ofNat 64 (s.fld (xbUsageLastN l k) * 2 ^ 48 + s.fld (xbStatSuspect l k) * 32
      + s.fld (xbStatTwinned l k) * 16)) false)

/-- PRODUCT_RELEASE: results that wait are released; otherwise the conversion periods end: a period that fails its check waits for
re-evaluation (R85); a product that waits for a verdict is held (R434); one still converting at L − 1,000 ns does not release here (R96). -/
def execProductRelease (x : XbId) (s : State) : Host.Outcome State Fault Refusal :=
  .next (match (s.xrun x).out, (s.xrun x).conv with
    | some p, _ => s.releaseOut x p
    | none, none => s
    | none, some p =>
      if (s.xrun x).failing.isSome then s
      else
        match s.firstFail x p 0 (p.periods.map Prod.fst) with
        | some (k, ph) =>
          if s.tickNs ≤ p.t0 + 6 + 66 * k + 1000 then s
          else
            let s := s.advance (Nat.min (p.t0 + 72 + 66 * k) (s.tickNs - 1000))
            let codes := s.prodCodes x p ph (periodBase p k)
            let vals := s.prodValues x codes
            (s.countFails x ph vals (s.failGroups x ph codes vals)).modXrun x fun r => { r with failing := some k }
        | none =>
          if s.convertsOut x p then
            let s := s.endConversions x p
            if p.hold then s else s.releaseOut x p
          else s)

/-- A verdict code schedules what it does to the crossbar from the next boundary (R433). -/
def State.addEffect (s : State) (x verdict g : Nat) : State :=
  { s with xb := { s.xb with effects := s.xb.effects ++ [(x, verdict, g)] } }

/-- DETAIL of CHECK_DISAGREE (R445). -/
def disagreeDetail (dd di : Int) (verdict policy : Nat) (ph : Phase) (g : Nat) : Nat :=
  pattern 16 (clamp (-32768) 32767 dd) * 2 ^ 48 + pattern 16 (clamp (-32768) 32767 di) * 2 ^ 32 + verdict * 2 ^ 28
    + policy * 2 ^ 26 + (rangeCode ph.act - 1) * 2 ^ 20 + ph.num * 2 ^ 18 + ph.slice * 2 ^ 16 + g * 2 ^ 13

/-- A CHECK_DISAGREE record (R434), in the crossbar's domain. -/
def disagreeRec (s : State) (x sev job detail : Nat) : Rec :=
  { sev, kind := 2, domain := 0, unit := x, job, detail, part := s.partOf (xbCluster x) }

/-- IN_POLICY in force of the partition that owns a crossbar (R434): 0 HOLD, 1 FLAG, 2 DROP. -/
def State.policyOf (s : State) (x : Nat) : Nat :=
  match s.partOf (xbCluster x) with
  | some n => s.fld (inPolicyPolicy n)
  | none => 1

/-- A disagreement that persists (R431, R434, R436, R197): it takes the arbitration latch and joins the engine's queue, or is
released with SUSPECT and recorded as the queue-full row. -/
def State.persistDisagree (s : State) (x : Nat) (p : Product) (k : Nat) (ph : Phase) (base g : Nat) : State :=
  let l := xbCluster x
  let policy := s.policyOf x
  let late := p.t0 + 22 + 66 * (p.need + redoCount p + 1)
  let p := { p with settled := k :: p.settled }
  let full := (s.xrun x).dispute.isSome || decide (8 ≤ (s.xe l).arb.length)
  let s := if (s.xrun x).dispute.isSome then s else s.incSat (xeArbStatRequests l) 1
  if full then
    let s := (s.incSat (xeArbStatQueueFull l) 1).addEffect x 5 g
    let s := s.modXrun x fun r => { r with conv := some { p with suspect := true, earliest := late }, failing := none }
    s.post (disagreeRec s x 3 p.job (disagreeDetail 0 0 5 policy ph g))
  else
    let p' := if policy = 0 then { p with hold := true } else { p with suspect := true, earliest := late }
    let s := s.modXe l fun e => { e with arb := e.arb ++ [x] }
    s.modXrun x fun r => { r with conv := some p', failing := none, dispute := some { prod := p, period := k, base, group := g, policy } }

/-- RE_EVALUATION: the failing slice and phase are converted again for all groups (R85, R431): every group passing clears a
transient; otherwise the disagreement persists for the lowest-numbered group that failed. A period that would begin in the guard band is not
converted (R96). -/
def execReEvaluation (x : XbId) (s : State) : Host.Outcome State Fault Refusal :=
  .next (match (s.xrun x).conv, (s.xrun x).failing with
    | some p, some k =>
      match (vecPhases p.fmt p.vec)[k]? with
      | none => s
      | some ph =>
        let start := p.t0 + 6 + 66 * (p.need + redoCount p)
        if s.tickNs ≤ start + 1000 then s
        else
          let base := s.free
          let s := (s.advance (Nat.min (start + 66) (s.tickNs - 1000))).draw 528
          let codes := s.prodCodes x p ph base
          let vals := s.prodValues x codes
          let s := s.countUnderrange x codes
          match s.failGroups x ph codes vals with
          | [] =>
            (s.incSat (xbCheckTransients (xbCluster x) (xbSlot x)) 1).modXrun x fun r =>
              { r with conv := some { p with redo := (k, base) :: p.redo }, failing := none }
          | g :: rest => (s.countFails x ph vals (g :: rest)).persistDisagree x p k ph base g
    | _, _ => s)


end Sys2Proof.Machine
end

