-- ==== Sys2Proof/Machine/Tiles.lean ====
section
/-! DEFINITION. Tile images and what they give a crossbar: weights of a group block, cell levels, index and reference levels (R56 to
R58, R246). -/
namespace Sys2Proof.Machine
open Sys2Proof

/-- First weight column with a slice in group g (R246). -/
def blockFirst (prec g : Nat) : Nat := 64 * g / prec

/-- Weight columns with any slice in group g (R246). -/
def blockCols (prec g : Nat) : List Nat :=
  (List.range 64).filterMap fun i =>
    let k := blockFirst prec g + i
    if k ≤ (64 * g + 63) / prec ∧ k < weightCols prec then some k else none

/-- Weight of column k in row r of a group block (R246): rows of 33 bytes, columns packed from the least significant bit. -/
def blockWeight (prec g : Nat) (d : List Byte) (r k : Nat) : Int :=
  signed (4 * prec) (bitsOf (numAt d (33 * r) 33) (4 * prec * (k - blockFirst prec g)) (4 * prec))

/-- Slice j of a weight in offset-binary form (R56). -/
def weightSlice (prec : Nat) (w : Int) (j : Nat) : Nat := bitsOf (w + (2 ^ (4 * prec - 1) : Nat)).toNat (4 * j) 4

/-- Level of data column c of group g in row r of a group block; unused W12 columns hold level 0 (R56). -/
def blockLevel (prec g : Nat) (d : List Byte) (r c : Nat) : Nat :=
  if weightCols prec ≤ c / prec then 0 else weightSlice prec (blockWeight prec g d r (c / prec)) (c % prec)

/-- Level of index column g in row r (R58). -/
def indexLevel (prec g : Nat) (d : List Byte) (r : Nat) : Nat :=
  (divRNE (sumNat ((List.range 64).map fun j => blockLevel prec g d r (64 * g + j)) : Nat) 64).toNat

/-- Block g of a tile image (R246). -/
def tileBlock (img : List Byte) (g : Nat) : List Byte := (img.drop (16896 * g)).take 16896

/-- Level of row r, column c of a crossbar that holds a tile image (R56 to R58). -/
def tileLevel (prec : Nat) (img : List Byte) (r c : Nat) : Nat :=
  if c < 512 then blockLevel prec (c / 64) (tileBlock img (c / 64)) r c
  else if c < 520 then indexLevel prec (c - 512) (tileBlock img (c - 512)) r
  else 8

/-- Program a tile image into a physical crossbar (R255, R256). -/
def State.writeTile (s : State) (n prec : Nat) (img : List Byte) : State :=
  let f (i : Nat) : BitVec 4 := BitVec.ofNat 4 (tileLevel prec img (i / 528) (i % 528))
  ({ s with xb := { s.xb with cells := tabBlock 0 s.xb.cells (270336 * n) 270336 f } }).modPhys n fun p => { p with prec }

/-- Charge of data, index or reference column c of group g computed from a group block (R195). -/
def exactCharge (prec g : Nat) (d : List Byte) (f : InFmt) (v : List Byte) (ph : Phase) (c : Nat) : Int :=
  columnCharge (fun r c => if c < 512 then blockLevel prec g d r c else if c < 520 then indexLevel prec g d r else 8) f v ph c

/-- Exact results of the weight columns with a slice in group g (R195). -/
def exactOut (prec g : Nat) (d : List Byte) (f : InFmt) (v : List Byte) : List (Nat × Int) :=
  (blockCols prec g).map fun k =>
    (k, sumInt ((List.range 512).map fun r => element f v r * blockWeight prec g d r k))

end Sys2Proof.Machine
end

