-- ==== Sys2Proof/Machine/Place.lean ====
section
/-! DEFINITION. The shelver's shared operations: states of crossbars, weeding, charges, the start of shelver work, sections and demands
(R232 to R239, R252 to R263, R270 to R276). Log entries 34 to 37. -/
namespace Sys2Proof.Machine
open Sys2Proof

/-! Crossbars. -/

/-- The logical core that the physical core of a physical crossbar serves (R32). -/
def State.coreOfPhys (s : State) (n : Nat) : Option Nat :=
  (List.range 128).findSome? fun l =>
    if s.physCluster l = n / 612 ∧ s.fld (clStatusMap l) = 0 then
      (List.range 32).findSome? fun k => if s.pcoreOf (32 * l + k) = n % 612 / 18 then some (32 * l + k) else none
    else none

/-- The sixteen logical crossbars of a core (R104). -/
def coreSlots (c : Nat) : List Nat := (List.range 16).map (coreXb c)

/-- The logical crossbar that a physical one is mapped to (R232). -/
def State.logicalOf (s : State) (n : Nat) : Option Nat :=
  (s.coreOfPhys n).bind fun c => (coreSlots c).find? fun x => decide (s.mappedXb x = n)

/-- State of a physical crossbar (R276): one of which nothing is recorded is FENCED where it maps a slot, else RESERVE. -/
def State.xst (s : State) (n : Nat) : XState :=
  match (s.phys n).st with
  | .reserve => if (s.logicalOf n).isSome then .fenced else .reserve
  | x => x

/-- Code of XSTATE (SH_MAP_QUERY). -/
def xstCode : XState → Nat
  | .serving => 0
  | .fenced => 1
  | .writing => 2
  | .reserve => 3
  | .twinPrep => 4
  | .twin => 5
  | .held => 6
  | .weeded => 7

/-- The 18 physical crossbars of the physical core that serves a logical core (R32). -/
def State.coreXbs (s : State) (c : Nat) : List Nat := (List.range 18).map fun i => s.corePhys (c / 32) (s.pcoreOf c) + i

/-- Usable reserve crossbars of a logical core (R32, R33). -/
def State.reserves (s : State) (c : Nat) : List Nat := (s.coreXbs c).filter fun n => decide (s.xst n = .reserve) && (s.phys n).cause.isNone

/-- Has a core no reserve left (R33): is every crossbar of its physical core that no slot maps weeded? A reserve that serves as a twin or is being
written is only in use. -/
def State.noReserve (s : State) (c : Nat) : Bool :=
  (s.coreXbs c).all fun n => (s.phys n).cause.isSome || (coreSlots c).any fun x => decide (s.mappedXb x = n)

/-- The crossbar of a list with the fewest writes, the lowest number among equals. -/
def State.leastWorn (s : State) (l : List Nat) : Option Nat :=
  l.foldl (fun a n => match a with
    | none => some n
    | some m => if (s.phys n).writes < (s.phys m).writes then some n else some m) none

/-- RES_LEFT of a core and RESERVE_LEFT of the module (R30, R280): crossbars not mapped and not weeded, two to a core. -/
def State.coreReserve (s : State) (c : Nat) : Nat := 2 - Nat.min 2 ((s.coreXbs c).countP fun n => (s.phys n).cause.isSome)

/-- Show the reserve counts (CL_REMAP, SH_WEED_COUNT) after a core's changed. -/
def State.showReserve (s : State) (c : Nat) : State :=
  let s := s.setFld (clRemapResLeft (c / 32) (c % 32)) (s.coreReserve c)
  s.setFld shWeedCountReserveLeft (sumNat ((List.range 128).map fun l =>
    if s.fld (clStatusMap l) = 0 then sumNat ((List.range 32).map fun k => s.coreReserve (32 * l + k)) else 0))

/-- Show QUALITY and TWINNED of a logical slot from the crossbar that serves it (XB_STAT, R464). -/
def State.showSlot (s : State) (x : Nat) : State :=
  (s.setFld (xbStatQuality (xbCluster x) (xbSlot x)) (s.phys (s.servingXb x)).quality).setFlag
    (xbStatTwinned (xbCluster x) (xbSlot x)) (tabFind s.xb.twin x).isSome

/-- Map a logical crossbar to a physical one (R232). -/
def State.mapXb (s : State) (x n : Nat) : State :=
  { s with xb := { s.xb with map := tabInsert (tabErase s.xb.map x) x n } }

/-- Set or clear the twin of a logical crossbar (R270). -/
def State.setTwin (s : State) (x : Nat) (n : Option Nat) : State :=
  { s with xb := { s.xb with twin := match n with
    | some n => tabInsert (tabErase s.xb.twin x) x n
    | none => tabErase s.xb.twin x } }

/-- Copy the corrections in force of one physical crossbar to another (R29, R270). -/
def State.copyTrims (s : State) (from_ to_ : Nat) : State :=
  let s := { s with xb := { s.xb with
    corr := tabBlock 0 s.xb.corr (528 * to_) 528 fun c => s.corr from_ c
    refTrim := tabBlock 0 s.xb.refTrim (8 * to_) 8 fun g => tabGet 0 s.xb.refTrim (8 * from_ + g) } }
  s.modPhys to_ fun p => { p with quality := (s.phys from_).quality, qSet := (s.phys from_).qSet, monUp := (s.phys from_).monUp }

/-- The trims of a crossbar's cluster are to be recomputed: a crossbar of it begins or returns to serving, or a set changed (R463). -/
def State.trimsDue (s : State) (n : Nat) : State :=
  { s with ca := { s.ca with theta := tabErase s.ca.theta (n / 612) } }

/-! Sections. -/

/-- A section's record in force (R304). -/
def State.secRec (s : State) (n : Nat) : Option SectionRec := s.ctg.sections.find? fun r => decide (r.sec = n)

/-- A slot-list entry as a logical crossbar number (R304). -/
def slotXb (e : Nat) : Nat := 512 * (e / 512 % 128) + e % 512

/-- Logical crossbars of a section, in tile order. -/
def SectionRec.xbs (r : SectionRec) : List Nat := r.slots.map slotXb

/-- Logical clusters of a section, each once. -/
def SectionRec.clusters (r : SectionRec) : List Nat := (r.xbs.map xbCluster).eraseDups

/-- Master-area address of a tile (R235). -/
def SectionRec.tileAddr (r : SectionRec) (t : Nat) : Nat := r.masterAddr + t * tileBytes

/-- A tile to restore (R272), named once. -/
def State.wantRestore (s : State) (sec t : Nat) : State :=
  if (sec, t) ∈ s.sh.restore then s else { s with sh := { s.sh with restore := s.sh.restore ++ [(sec, t)] } }

/-- The CHECK_VALUE record of the shelver's reads of master areas and of the library (R427 POINT 11), from the unit's address. -/
def recLibrary (a : Nat) : Rec := recUnit 5 0 3 6 0 0 (11 * 2 ^ 60 + a) none

/-- Read a tile of a master area (R206, R272, R427 POINT 11): its image when no word is poisoned, else it is to be restored. -/
def State.readMaster (s : State) (r : SectionRec) (t : Nat) : State × Option (List Byte) :=
  let a := r.tileAddr t
  let h := s.hbmRead a tileBytes 0 none recLibrary
  if h.2.2.any id then (h.1.wantRestore r.sec t, none) else (h.1, some h.2.1)

/-- Precision of a tile of a volume (R241, R244). -/
def Volume.precOf (v : Volume) (t : Nat) : Nat :=
  match v.layers.find? fun e => decide (e.1 = 0) && decide (e.2.2.1 ≤ t) && decide (t < e.2.2.1 + e.2.2.2) with
  | some e => e.2.1
  | none => 0

/-! Weeding (R257, R275). -/

/-- Counter of a cause in SH_WEED_COUNT. -/
def weedFld : WeedCause → Fld
  | .calibration => shWeedCountCalibration
  | .writeFail => shWeedCountWriteFail
  | .drift => shWeedCountDrift
  | .endurance => shWeedCountEndurance

/-- The handle a SHELVER record names for a physical crossbar: of the volume in the section of its slot, else all ones. -/
def State.weedHandle (s : State) (n : Nat) : Nat :=
  match s.logicalOf n with
  | some x => match s.sectionOf x with
    | some (r, _) => (s.sect r.sec).vol.getD 0x3FFF
    | none => 0x3FFF
  | none => 0x3FFF

/-- A SHELVER record (R445): 1 of R257, 2 of R272, 3 of R275. -/
def recShelver (sev sub handle : Nat) (part : Option Nat) : Rec := recUnit 5 0 sev 16 sub 0 handle part

/-- A core without a reserve is to be substituted (R33): suspect, SUBST_PEND where a spare is left. -/
def State.wantSubst (s : State) (c : Nat) : State :=
  let s := s.suspectCore c
  if 0 < s.fld (clStatusSpares (c / 32)) then s.setFlag (clStatusSubstPend (c / 32)) true else s

/-- A core falls under R33 once it has no reserve left. -/
def State.checkReserve (s : State) (c : Nat) : State := if s.noReserve c then s.wantSubst c else s

/-- A crossbar is weeded (R275, R276): recorded and counted; one that serves keeps serving until its replacement does; a core that has no
reserve left falls under R33. -/
def State.weed (s : State) (n : Nat) (cause : WeedCause) : State :=
  if (s.phys n).cause.isSome then s
  else
    let x := if (s.phys n).st = .twin then some (s.phys n).forXb else s.logicalOf n
    let serves := decide ((s.phys n).st = .serving) || decide ((s.phys n).st = .held) || decide ((s.phys n).st = .twin)
    let h := s.weedHandle n
    let s := s.modPhys n fun p => { p with cause := some cause, reading := false, st := if serves then p.st else .weeded }
    let s := (s.incSat (weedFld cause) 1).post (recShelver 1 (if cause = .writeFail then 1 else 3) h none)
    let s := match s.coreOfPhys n with
      | some c => (s.showReserve c).checkReserve c
      | none => s
    match x with
    | none => s
    | some x =>
      if ((s.phys n).st = .serving ∨ (s.phys n).st = .twin) ∧ !(s.noReserve (xbCore x)) ∧ x ∉ s.sh.replace then
        { s with sh := { s.sh with replace := s.sh.replace ++ [x] } }
      else s

/-! Charges (R258, R259). -/

/-- Is a write of the crossbar under way? -/
def PhysXb.writingNow (p : PhysXb) : Bool := (decide (p.st = .writing) || decide (p.st = .twinPrep)) && !p.passed

/-- Crossbars being written for substitution, for any other purpose, and being read. -/
def State.charges (s : State) : Nat × Nat × Nat :=
  (s.xb.phys.countP fun e => e.2.writingNow && decide (e.2.writeFor = .substitution),
   s.xb.phys.countP fun e => e.2.writingNow && decide (e.2.writeFor ≠ .substitution),
   s.xb.phys.countP fun e => e.2.reading)

/-- May one more write begin? In 0.01 W: 45 a write, 4 a read, 8,560 for other work than substitution, 10,000 in all. -/
def State.mayWrite (s : State) (why : WriteFor) : Bool :=
  let (u, w, r) := s.charges
  decide (u + w + r < 2048) &&
    if why = .substitution then decide (45 * (u + w + 1) + 4 * r ≤ 10000)
    else decide (45 * (w + 1) + 4 * r ≤ 8560) && decide (45 * (u + w + 1) + 4 * r ≤ 10000)

/-- May one more read begin, within the same limits? -/
def State.mayRead (s : State) : Bool :=
  let (u, w, r) := s.charges
  decide (u + w + r < 2048) && decide (45 * w + 4 * (r + 1) ≤ 8560) && decide (45 * (u + w) + 4 * (r + 1) ≤ 10000)

/-- Show SH_STATUS. -/
def State.showShelver (s : State) : State :=
  let (u, w, r) := s.charges
  let p := (s.sh.placing.find? fun h => decide ((s.vol h).st = .placing)).getD 0x3FFF
  ((((s.setFld shStatusPlacing p).setFld shStatusDemands (Nat.min 1023 s.sh.demands.length)).setFld shStatusReads r).setFld
    shStatusSubst (Nat.min u 255)).setFld shStatusWrites w

/-- A write of a crossbar begins: its count rises first (R233, R273). -/
def State.beginWrite (s : State) (n x : Nat) (why : WriteFor) (h t : Nat) : State :=
  s.modPhys n fun p => { p with
    st := if why = .twin then .twinPrep else .writing
    writes := p.writes + 1
    writeFor := why, forXb := x, handle := h, tile := t, passed := false, reading := false, checked := false }

/-- Begin a write of a slot's tile from its master copy into a given crossbar; a master copy that is poisoned waits for its restore
(R255, R270, R272, R275). -/
def State.writeFromMaster (s : State) (n x : Nat) (why : WriteFor) : State × Bool :=
  match s.sectionOf x with
  | none => (s, false)
  | some (r, t) =>
    if (r.sec, t) ∈ s.sh.restore ∨ !(s.mayWrite why) then (s, false)
    else
      match s.readMaster r t with
      | (s, none) => (s, false)
      | (s, some _) => (s.beginWrite n x why ((s.sect r.sec).vol.getD 0x3FFF) t, true)

/-! Starting waiting work (R258). -/

/-- Slots of a core whose content a spare needs (R29): those of live sections. -/
def State.contentSlots (s : State) (c : Nat) : List Nat :=
  (coreSlots c).filter fun x => match s.sectionOf x with
    | some (r, _) => (s.sect r.sec).live
    | none => false

/-- The crossbar of a spare that holds, or is being given, a slot's tile. -/
def State.spareXb (s : State) (c spare x : Nat) : Option Nat :=
  ((List.range 18).map fun i => s.corePhys (c / 32) spare + i).find? fun n =>
    decide ((s.phys n).writeFor = .substitution) && decide ((s.phys n).forXb = x) && decide ((s.phys n).st = .writing)

/-- The next unused crossbar of a spare. -/
def State.spareFree (s : State) (c spare : Nat) : Option Nat :=
  ((List.range 18).map fun i => s.corePhys (c / 32) spare + i).find? fun n =>
    (s.phys n).cause.isNone && decide ((s.phys n).st ≠ .writing)

/-- Start the writes of a core's substitution (R29, R34). -/
def State.startSubst (s : State) (c spare : Nat) : State :=
  (s.contentSlots c).foldl (fun s x =>
    if (s.spareXb c spare x).isSome then s
    else match s.spareFree c spare with
      | none => s
      | some n => (s.writeFromMaster n x .substitution).1) s

/-- Is a write of this purpose for a logical crossbar recorded? -/
def State.writeOf (s : State) (x : Nat) (why : WriteFor) : Option Nat :=
  s.xb.phys.findSome? fun e =>
    if e.2.writeFor = why ∧ e.2.forXb = x ∧ (e.2.st = .writing ∨ e.2.st = .twinPrep) then some e.1 else none

/-- Start a write into a reserve of the slot's core (R270, R275). -/
def State.startReserve (s : State) (x : Nat) (why : WriteFor) : State :=
  if (s.writeOf x why).isSome ∨ !(s.clRuns (xbCluster x)) then s
  else match s.leastWorn (s.reserves (xbCore x)) with
    | none => s
    | some n => (s.writeFromMaster n x why).1

/-! Volumes that stop. -/

/-- Placement of a volume stops: what it waited for is withdrawn. -/
def State.dropPlacing (s : State) (h : Nat) : State :=
  { s with sh := { s.sh with
    demands := s.sh.demands.filter fun e => decide (e ≠ h)
    placing := s.sh.placing.filter fun e => decide (e ≠ h) } }

/-- Progress of a placement is forgotten. -/
def Volume.idle (v : Volume) : Volume :=
  { v with sec := none, done := [], copied := [], begun := [], differ := [], failed := [], blobs := false }

/-- The requests that wait for a volume's placement end (R340). -/
def State.endWatch (s : State) (h status reason : Nat) : State :=
  let v := s.vol h
  let s := s.modVol h fun v => { v with watch := [] }
  v.watch.foldl (fun s r => s.doneReq r status reason h v.version v.done.length) s

/-- The staging request of a volume ends (R340). -/
def State.endStager (s : State) (h status reason : Nat) : State :=
  let v := s.vol h
  (s.modVol h fun v => { v with stager := none }).doneOpt v.stager status reason h v.version v.done.length

/-! The library copy (R248, R251, R272; log entry 34). -/

/-- Offset of shard i in a volume's frames: shards follow one another, each from a 64-byte boundary. -/
def Volume.shardOff (v : Volume) (i : Nat) : Nat := 64 * sumNat ((v.shards.take i).map fun e => ceilDiv (e.1 + 64) 64)

/-- Device address of byte o of a volume's frames. -/
def Volume.libAddr (v : Volume) (o : Nat) : Nat := v.libFrames.getD (o / 2 ^ 20) 0 * 2 ^ 20 + o % 2 ^ 20

/-- The parts of bytes o to o + n − 1 that lie in one frame each, as address and length; `fuel` bounds the frames. -/
def Volume.libRuns (v : Volume) : Nat → Nat → Nat → List (Nat × Nat)
  | 0, _, _ => []
  | k + 1, o, n =>
    if n = 0 then []
    else
      let m := Nat.min n (2 ^ 20 - o % 2 ^ 20)
      (v.libAddr o, m) :: v.libRuns k (o + m) (n - m)

/-- The parts of n bytes from offset o. -/
def Volume.libParts (v : Volume) (o n : Nat) : List (Nat × Nat) := v.libRuns (n / 2 ^ 20 + 2) o n

/-- The n lowest 1 MiB frames of LIBRARY that no volume holds. -/
def State.freeLib (s : State) (n : Nat) : List Nat :=
  let used := s.sh.vol.foldl (fun a e => a ++ e.2.libFrames) []
  let all := s.ctg.regions.foldl (fun a r => if r.kind = 1 then a ++ (List.range r.size).map (r.base + ·) else a) []
  (all.filter fun f => decide (f ∉ used)).take n

/-- Write bytes at an offset of a volume's frames, in check units that end at each 4,096 bytes of a frame (R427 POINT 11). -/
def State.writeLib (s : State) (v : Volume) (o : Nat) (d : List Byte) : State :=
  ((v.libParts o d.length).foldl (fun (e : State × List Byte) p =>
    let x := padWord (e.2.take p.2)
    let s := e.1.storeMem p.1 x (allBits x.length false)
    (s.formChecks 4096 (x.length / 4096 + 2) (p.1 / 4096 * 4096) p.1 (p.1 + x.length), e.2.drop p.2)) (s, d)).1

/-- Bytes at an offset of a volume's frames. -/
def State.libData (s : State) (v : Volume) (o n : Nat) : List Byte :=
  (v.libParts o n).foldl (fun a p => a ++ s.bytes p.1 p.2) []

/-- A volume is lost (R249, R250, R262, R272): its frames are freed, its section is free from the following boundary, and what waited for it
ends. -/
def State.loseVolume (s : State) (h reason : Nat) : State :=
  let s := s.dropPlacing h
  let s := s.modVol h fun v => { v.idle with
    st := .unavailable, reason, lib := false, verified := [], mending := [], libFrames := [], partials := [], frames := 0, pin := false }
  ((s.endStager h 5 reason).endWatch h 5 reason).showShelver

/-- A volume being staged or placed becomes UNAVAILABLE (R249, R250, R262). -/
def State.failVolume (s : State) (h reason : Nat) : State :=
  if (s.vol h).st = .staging ∨ (s.vol h).st = .placing then s.loseVolume h reason else s

/-- The library copy is dropped (R272): a volume that needs it becomes UNAVAILABLE, any other stays without it. -/
def State.dropLibrary (s : State) (h : Nat) : State :=
  match (s.vol h).st with
  | .staging | .staged | .placing => s.loseVolume h 1
  | _ => s.modVol h fun v => { v with lib := false, verified := [], mending := [], libFrames := [], partials := [], frames := 0 }

/-- Shard i of the library copy is fetched again from the first peer named, or the copy is dropped (R272). -/
def State.mendShard (s : State) (h i : Nat) : State :=
  let v := s.vol h
  if i ∉ v.verified ∨ (tabFind v.mending i).isSome then s
  else match v.peers with
    | [] => s.dropLibrary h
    | p :: _ =>
      (s.modVol h fun v => { v with mending := tabInsert v.mending i 0, partials := tabErase v.partials i }).askPeer p v.id v.version i

/-- A read of bytes o to o + n − 1 of shard i of the library copy in whole check units (R206, R426 to R428): the bytes, or none when a word
of them is poisoned or their unit fails, which calls for the shard again (R272). -/
def State.readLib (s : State) (h i o n : Nat) : State × Option (List Byte) :=
  let v := s.vol h
  let base := v.shardOff i
  let top := base + (ceilDiv ((v.shards.getD i (0, 0)).1 + 64) 64) * 64
  let lo := Nat.max base ((base + o) / 4096 * 4096)
  let hi := Nat.min top (ceilDiv (base + o + n) 4096 * 4096)
  let r := (v.libParts lo (hi - lo)).foldl (fun (e : State × List Byte × List Bool) p =>
    let x := e.1.hbmRead p.1 p.2 0 none recLibrary
    (x.1, e.2.1 ++ x.2.1, e.2.2 ++ x.2.2)) (s, [], [])
  let skip := base + o - lo
  if ((r.2.2.drop skip).take n).any id then (r.1.mendShard h i, none) else (r.1, some ((r.2.1.drop skip).take n))

/-- Shards of the library copy that can be read. -/
def Volume.readable (v : Volume) : List Nat := v.verified.filter fun i => (tabFind v.mending i).isNone

/-- Records of a payload as KIND, INDEX, offset of the body, padded length (R244); `fuel` bounds them. -/
def recordsOf : Nat → Nat → List Byte → List (Nat × Nat × Nat × Nat)
  | 0, _, _ => []
  | k + 1, off, d =>
    if d.length < 64 then []
    else
      let n := (numAt d 8 4 + 63) / 64 * 64
      (numAt d 0 1, numAt d 4 4, off + 64, n) :: recordsOf k (off + 64 + n) (d.drop (64 + n))

/-- Records of shard i of a volume. -/
def State.shardRecords (s : State) (v : Volume) (i : Nat) : List (Nat × Nat × Nat × Nat) :=
  let len := (v.shards.getD i (0, 0)).1
  recordsOf (len / 64 + 1) 0 (s.libData v (v.shardOff i) len)

/-- Where the image of a tile lies in the library copy, once its shard has verified: shard and offset. -/
def State.libTile (s : State) (h t : Nat) : Option (Nat × Nat) :=
  let v := s.vol h
  v.readable.findSome? fun i =>
    ((s.shardRecords v i).find? fun r => decide (r.1 = 1) && decide (r.2.1 = t)).map fun r => (i, r.2.2.1)

/-- The image of a tile read from the library copy. -/
def State.readTile (s : State) (h t : Nat) : State × Option (List Byte) :=
  match s.libTile h t with
  | some (i, o) => s.readLib h i o tileBytes
  | none => (s, none)

/-- Has every shard verified? -/
def Volume.complete (v : Volume) : Bool := !v.shards.isEmpty && decide (v.verified.length = v.shards.length)

/-- Blobs of a volume in ascending number, as (number, shard, offset, length). -/
def State.blobPlaces (s : State) (v : Volume) : List (Nat × Nat × Nat × Nat) :=
  sortBy Prod.fst (v.readable.foldl (fun a i =>
    a ++ ((s.shardRecords v i).filter fun r => decide (r.1 = 2)).map fun r => (r.2.1, i, r.2.2.1, r.2.2.2)) [])

/-- Copy a volume's blobs after the tiles of the master area (R255), unless one waits for its restore. -/
def State.copyBlobs (s : State) (h : Nat) (r : SectionRec) : State :=
  if (s.vol h).readable.length < (s.vol h).shards.length then s
  else
    let e := (s.blobPlaces (s.vol h)).foldl (fun (e : State × Option (List Byte)) b =>
      match e.2 with
      | none => e
      | some d => match e.1.readLib h b.2.1 b.2.2.1 b.2.2.2 with
        | (s, none) => (s, none)
        | (s, some x) => (s, some (d ++ x))) (s, some [])
    match e.2 with
    | none => e.1
    | some d => (e.1.hbmWrite (r.tileAddr r.tiles) d (allBits d.length false) 0).modVol h fun v => { v with blobs := true }

/-- Copy a tile image into the master area and keep its check value (R255). -/
def State.copyTile (s : State) (h : Nat) (r : SectionRec) (t : Nat) (img : List Byte) : State :=
  let s := s.hbmWrite (r.tileAddr t) img (allBits tileBytes false) blockBytes
  let s := { s with sh := { s.sh with
    tileCheck := tabInsert (tabErase s.sh.tileCheck (65536 * r.sec + t)) (65536 * r.sec + t) (crc32c img)
    restore := s.sh.restore.filter fun e => decide (e ≠ (r.sec, t)) } }
  s.modVol h fun v => { v with copied := v.copied ++ [t] }

/-- The crossbar a tile is written into (R257, R274): the slot's own, or a reserve when that is weeded, when a write of the tile has failed or, for
a pool slot, when it has 1,000 writes more. -/
def State.tileTarget (s : State) (v : Volume) (r : SectionRec) (t x : Nat) : Option Nat :=
  let m := s.mappedXb x
  let must := (s.phys m).cause.isSome || decide (t ∈ v.failed)
  match s.leastWorn (s.reserves (xbCore x)) with
  | some n => if must || (!r.resident && decide ((s.phys n).writes + 1000 ≤ (s.phys m).writes)) then some n else some m
  | none => if must then none else some m

/-- Start the work of a tile of a placement (R255, R278): the copy, then a readback where the section retains the version and the slot's crossbar is
not weeded (R275), else the write. A tile whose library image is poisoned waits for its restore (R272). -/
def State.startTile (s : State) (h : Nat) (r : SectionRec) (t x : Nat) : State :=
  let v := s.vol h
  let back := decide ((s.sect r.sec).retained = some (v.id, v.version)) && decide (t ∉ v.differ) && (s.phys (s.mappedXb x)).cause.isNone
  if !(s.clRuns (xbCluster x)) then s
  else if back then
    if s.mayRead then
      match s.readTile h t with
      | (s, none) => s
      | (s, some img) =>
        let s := s.copyTile h r t img
        (s.modPhys (s.mappedXb x) fun p => { p with reading := true, forXb := x, handle := h, tile := t }).modVol h fun v =>
          { v with begun := v.begun ++ [t] }
    else s
  else if s.mayWrite .placement && !(s.flag shPoolSharePause) then
    match s.tileTarget v r t x with
    | none => s
    | some n =>
      let begin_ (s : State) : State := (s.beginWrite n x .placement h t).modVol h fun v => { v with begun := v.begun ++ [t] }
      if t ∈ v.copied ∧ (r.sec, t) ∉ s.sh.restore then begin_ s
      else match s.readTile h t with
        | (s, none) => s
        | (s, some img) => begin_ (s.copyTile h r t img)
  else s

/-- Tiles of a volume not yet begun. -/
def Volume.waiting (v : Volume) : List Nat := (List.range v.tiles).filter fun t => decide (t ∉ v.begun)

/-- Start what a volume being placed waits for. -/
def State.startPlacing (s : State) (h : Nat) : State :=
  let v := s.vol h
  match v.sec.bind s.secRec with
  | none => s
  | some r =>
    let s := if v.complete && !v.blobs then s.copyBlobs h r else s
    v.waiting.foldl (fun s t => match r.xbs[t]? with
      | some x => if (s.vol h).st = .placing ∧ (s.libTile h t).isSome then s.startTile h r t x else s
      | none => s) s

/-- Placements in the order served: a later volume's tiles start once the earlier has begun its last (R252). -/
def State.startPlacements (s : State) : List Nat → State
  | [] => s
  | h :: rest =>
    if (s.vol h).st = .placing then
      let s := s.startPlacing h
      if (s.vol h).waiting = [] then s.startPlacements rest else s
    else s.startPlacements rest

/-- Begin the re-verify reads of held originals, of precedence 3 (for a recalibration or overdue) or 5, as far as charges allow (R258, R270, R271,
R469 step 1). -/
def State.startHeld (s : State) (urgent : Bool) : State :=
  ((s.xb.phys.filter fun e => decide (e.2.st = .held) && e.2.cause.isNone && !e.2.reading && !e.2.checked
      && ((e.2.recal || e.2.overdue) == urgent)).map Prod.fst).foldl (fun s n =>
    if s.mayRead then s.modPhys n fun p => { p with reading := true } else s) s

/-- Start waiting work in order of precedence (R258): substitution, replacement, twins and reads of precedence 3, placement, twins and reads of
precedence 5. -/
def State.startWork (s : State) : State :=
  let s := s.sh.subst.foldl (fun s e => s.startSubst e.1 e.2) s
  let s := s.sh.replace.foldl (fun s x => s.startReserve x .replacement) s
  let s := ((s.sh.twinWanted.filter fun e => decide (e.2 = 3)).foldl (fun s e => s.startReserve e.1 .twin) s).startHeld true
  let s := s.startPlacements s.sh.placing
  let s := ((s.sh.twinWanted.filter fun e => decide (e.2 ≠ 3)).foldl (fun s e => s.startReserve e.1 .twin) s).startHeld false
  s.showShelver

/-- A serving crossbar is to be twinned (R270), under a precedence of R258, and waits while its core's reserves are in use; a core that has none left
falls under R33. -/
def State.wantTwin (s : State) (x prec : Nat) : State :=
  if (tabFind s.xb.twin x).isSome then s
  else if s.noReserve (xbCore x) then s.wantSubst (xbCore x)
  else
    let p := match tabFind s.sh.twinWanted x with | some q => Nat.min q prec | none => prec
    { s with sh := { s.sh with twinWanted := tabInsert (tabErase s.sh.twinWanted x) x p } }

/-! Volumes and demands. -/

/-- Are all tiles of a placement done and its volume staged (R260)? -/
def Volume.placed (v : Volume) : Bool := decide (v.st = .placing) && v.complete && v.blobs && decide (v.done.length = v.tiles)

/-- Pool sections that count against LIMIT (R253). -/
def State.poolUsed (s : State) : Nat := s.ctg.sections.countP fun r => !r.resident && (s.sect r.sec).vol.isSome

/-- May a pool section be chosen now: LIMIT and PAUSE of SH_POOL_SHARE (R253)? -/
def State.mayChoose (s : State) (r : SectionRec) : Bool :=
  !(s.flag shPoolSharePause) &&
    (r.resident || ((decide (s.fld shPoolShareLimit = 0x3FF) || decide (s.poolUsed < s.fld shPoolShareLimit)) && r.clusters.all s.clRuns))

/-- Does a section suit a volume (R236, R263)? -/
def sectionSuits (v : Volume) (r : SectionRec) : Bool :=
  decide (r.part = v.part) && decide (r.shape = v.shape) &&
    if v.resident then r.resident && decide (r.volume = v.id) && decide (r.version = v.version) else !r.resident

/-- Highest write count among the crossbars of a section's slots (R253). -/
def State.sectionWear (s : State) (r : SectionRec) : Nat := r.xbs.foldl (fun a x => Nat.max a (s.phys (s.mappedXb x)).writes) 0

/-- The free section for a demand (R253): one that retains the version, else the least worn, the lower number among equals. -/
def State.chooseSection (s : State) (h : Nat) : Option SectionRec :=
  let v := s.vol h
  let free := sortBy SectionRec.sec (s.ctg.sections.filter fun r =>
    sectionSuits v r && s.mayChoose r && (s.sect r.sec).vol.isNone)
  match free.find? fun r => decide ((s.sect r.sec).retained = some (v.id, v.version)) with
  | some r => some r
  | none => free.foldl (fun a r => match a with
      | none => some r
      | some b => if s.sectionWear r < s.sectionWear b then some r else some b) none

/-- A section is chosen for a volume (R253, R255). -/
def State.claimSection (s : State) (h n : Nat) : State :=
  let s := (s.modSect n fun x => { x with vol := some h }).modVol h fun v => { v with sec := some n }
  { s with sh := { s.sh with demands := s.sh.demands.filter fun e => decide (e ≠ h), placing := s.sh.placing ++ [h] } }

/-- A resident section held by another version is asked back (R263): that version retires and loses its pin. -/
def State.askResident (s : State) (h : Nat) : State :=
  if (s.vol h).resident then
    match s.ctg.sections.find? (sectionSuits (s.vol h)) with
    | none => s
    | some r => match (s.sect r.sec).vol with
      | none => s
      | some o => if o ≠ h ∧ (s.vol o).st = .shelved then s.modVol o fun v => { v with st := .retiring, pin := false } else s
  else s

/-- Serve one waiting demand if a section can be had (R252, R253). -/
def State.serveDemand (s : State) (h : Nat) : State :=
  if h ∈ s.sh.demands then
    match s.chooseSection h with
    | some r => s.claimSection h r.sec
    | none => s.askResident h
  else s

/-- Serve waiting demands, the oldest first. -/
def State.serveDemands (s : State) (l : List Nat) : State := (l.foldl State.serveDemand s).showShelver

/-- A demand is raised (R252); one for a volume already placed or being placed joins what there is (R279). -/
def State.raiseDemand (s : State) (h : Nat) : State :=
  if h ∈ s.sh.demands ∨ (s.vol h).sec.isSome then s else ({ s with sh := { s.sh with demands := s.sh.demands ++ [h] } }).showShelver

/-- A directory entry is given up: ABSENT (R262); a request that waits for the volume ends with its reason (R351). -/
def State.clearVolume (s : State) (h reason : Nat) : State :=
  let v := s.vol h
  let s := ((s.dropPlacing h).endStager h 5 reason).endWatch h 5 reason
  let s := { s with sv := { s.sv with req := s.sv.req.map fun (e : Nat × Request) =>
    if v.st ≠ VolState.absent ∧ e.2.part = v.part ∧ e.2.volId = v.id ∧ e.2.admitted = false then (e.1, { e.2 with why := reason }) else e } }
  { s with sh := { s.sh with vol := tabErase s.sh.vol h } }

/-- A volume leaves its section (R262): STAGED with a library copy, else ABSENT, and ABSENT after VOLUME_RELEASE. -/
def State.leaveSection (s : State) (h : Nat) : State :=
  let v := s.vol h
  if v.lib && !v.released then (s.dropPlacing h).modVol h fun v => { v.idle with st := .staged }
  else s.clearVolume h v.reason

end Sys2Proof.Machine
end

