-- ==== Sys2Proof/Machine/Calibrate.lean ====
section
/-! DEFINITION. Calibration: records and sets, interpolation, gaps and monitoring, recalibration, lanes (R456 to R473, R486, R487).
Temperatures are in 1/8 °C here, so that the mean of two sensors is exact. Log entries 41 to 44. -/
namespace Sys2Proof.Machine
open Sys2Proof

/-! Calibration records (R458, R459). -/

/-- Address of the calibration record of a physical crossbar. -/
def calAddr (n : Nat) : Nat := 0x30000000 + 0x3000 * n

/-- Offset of set t of a record. -/
def setOff (t : Nat) : Nat := 64 + 2176 * t

/-- Set points in 1/8 °C (R458). -/
def setPoint (t : Nat) : Int := [240, 400, 560, 720, 840].getD t 840

/-- A number of n bytes at an offset of a crossbar's record. -/
def State.calNum (s : State) (n off k : Nat) : Nat := leNat (s.bytes (calAddr n + off) k)

/-- Write bytes at an offset of a crossbar's record. -/
def State.setCal (s : State) (n off : Nat) (d : List Byte) : State := s.hbmUpdate (calAddr n + off) d

/-- Is set t of a record VALID? -/
def State.setValid (s : State) (n t : Nat) : Bool := bitOf (s.calNum n (setOff t) 1) 0

/-- QUALITY of a set. -/
def State.setQuality (s : State) (n t : Nat) : Nat := s.calNum n (setOff t + 2) 1

/-- Column word c of a set. -/
def State.setWord (s : State) (n t c : Nat) : BitVec 32 := BitVec.ofNat 32 (s.calNum n (setOff t + 64 + 4 * c) 4)

/-- REF_TRIM of converter g in a set. -/
def State.setRef (s : State) (n t g : Nat) : BitVec 5 := BitVec.ofNat 5 (s.calNum n (setOff t + 4 + g) 1)

/-- A byte of the record built from the factory store (R459, R460; log entry 12): trims of all sets, residues 0, SRC 0, QUALITY 0xFF. -/
def factoryByte (n off : Nat) : Byte :=
  if off < 4 then (leBytes 4 0x41434B53).getD off 0
  else if off < 8 then (leBytes 4 n).getD (off - 4) 0
  else if off < 64 ∨ 10944 ≤ off then 0
  else
    let o := (off - 64) % 2176
    if o = 0 then 1
    else if o = 2 then 0xFF
    else if 4 ≤ o ∧ o < 12 then Config.factoryRecord n off &&& 0x1F
    else if 64 ≤ o then
      match o % 4 with
      | 0 => Config.factoryRecord n off
      | 1 => Config.factoryRecord n off &&& 0x1F
      | _ => 0
    else 0

/-- Does the snapshot hold a record of a crossbar? -/
def State.hasSnapshot (s : State) (n : Nat) : Bool := s.ca.snapshot.any fun e => decide (12288 * n ≤ e.1) && decide (e.1 < 12288 * (n + 1))

/-- The record a crossbar is given at boot or on a restore (R460, R461): the snapshot's, else the factory's. -/
def State.storedRecord (s : State) (n : Nat) : List Byte :=
  if s.hasSnapshot n then (List.range 12288).map fun i => tabGet 0 s.ca.snapshot (12288 * n + i)
  else (List.range 12288).map (factoryByte n)

/-- Restore a record (R461); the cluster's trims are then to be recomputed (R463). A set that comes from the snapshot shows SRC 2. -/
def State.restoreRecord (s : State) (n : Nat) : State :=
  let s' := (s.trimsDue n).hbmWrite (calAddr n) (s.storedRecord n) (allBits 12288 false) 0
  if s.hasSnapshot n then
    (List.range 5).foldl (fun t i => if t.setValid n i then t.setCal n (setOff i + 1) [2] else t) s'
  else s'

/-- DETAIL that names a physical crossbar (R486): logical cluster, physical core, physical crossbar. -/
def State.calDetail (s : State) (n : Nat) : Nat :=
  let l := (List.range 128).find? fun l => decide (s.physCluster l = n / 612) && decide (s.fld (clStatusMap l) = 0)
  l.getD 0 * 2 ^ 57 + n % 612 / 18 * 2 ^ 51 + n % 18 * 2 ^ 46

/-- A CALIBRATION record of a physical crossbar (R486): in the crossbar's domain where it maps a slot, else the unit's. -/
def State.recCal (s : State) (n sub detail : Nat) : Rec :=
  match (if sub = 3 then none else s.logicalOf n) with
  | some x => { sev := 1, kind := 22, sub, domain := 0, unit := x, detail := s.calDetail n + detail, part := s.partOf (xbCluster x) }
  | none => recUnit 7 0 1 22 sub 0 (s.calDetail n + detail) none

/-! Interpolation (R462). -/

/-- The set used for set t: itself where VALID, else the nearest VALID one, the lower of two as near; none without any. -/
def State.useSet (s : State) (n t : Nat) : Option Nat :=
  (List.range 5).findSome? fun k =>
    if k ≤ t ∧ s.setValid n (t - k) then some (t - k) else if t + k < 5 ∧ s.setValid n (t + k) then some (t + k) else none

/-- The bracketing sets of a temperature: one outside the range, two inside. -/
def bracket (theta : Int) : Nat × Nat :=
  if theta ≤ 240 then (0, 0)
  else if 840 ≤ theta then (4, 4)
  else
    let i := (List.range 4).foldl (fun a i => if setPoint i ≤ theta then i else a) 0
    (i, i + 1)

/-- Interpolate two codes (R462). -/
def interp (theta : Int) (i j : Nat) (a b : Int) : Int :=
  if i = j then a
  else
    let d := setPoint j - setPoint i
    divRNE (a * d + (b - a) * (theta - setPoint i)) d.toNat

/-- The fields of a column word as (place, width): GAIN_TRIM, OFFSET_TRIM, G_RES, O_RES. -/
def wordFields : List (Nat × Nat) := [(0, 6), (6, 7), (13, 8), (21, 6)]

/-- Combine the fields of two column words field by field, each clamped to its range. -/
def zipWord (f : Int → Int → Int) (a b : BitVec 32) : BitVec 32 :=
  BitVec.ofNat 32 (sumNat (wordFields.map fun e =>
    pattern e.2 (satSigned e.2 (f (signed e.2 (bitsOf a.toNat e.1 e.2)) (signed e.2 (bitsOf b.toNat e.1 e.2)))) * 2 ^ e.1))

/-- Corrections of a physical crossbar at a temperature: column word, REF_TRIM, and QUALITY_set (R462). -/
def State.trimsAt (s : State) (n : Nat) (theta : Int) : (Nat → BitVec 32) × (Nat → BitVec 5) × Nat :=
  let (i, j) := bracket theta
  match s.useSet n i, s.useSet n j with
  | some a, some b =>
    (fun c => zipWord (interp theta i j) (s.setWord n a c) (s.setWord n b c),
     fun g => BitVec.ofNat 5 (pattern 5 (satSigned 5 (interp theta i j (signed 5 (s.setRef n a g).toNat) (signed 5 (s.setRef n b g).toNat)))),
     Nat.max (s.setQuality n a) (s.setQuality n b))
  | _, _ => (fun _ => 0, fun _ => 0, 0xFF)

/-- Put corrections in force on a physical crossbar (R457); QUALITY in force follows at the boundary (R464, `State.settleQuality`). -/
def State.putTrims (s : State) (n : Nat) (w : Nat → BitVec 32) (r : Nat → BitVec 5) (q : Nat) : State :=
  let s := { s with xb := { s.xb with corr := tabBlock 0 s.xb.corr (528 * n) 528 w, refTrim := tabBlock 0 s.xb.refTrim (8 * n) 8 r } }
  s.modPhys n fun p => { p with qSet := q, monUp := 0, staged := false }

/-- QUALITY in force that the trims and the monitor's latest result give (R464). -/
def PhysXb.newQuality (p : PhysXb) : Nat := Nat.max p.qSet p.monUp

/-- QUALITY in force becomes what the trims and the monitor give. -/
def State.takeQuality (s : State) (n : Nat) : State := s.modPhys n fun p => { p with quality := p.newQuality }

/-- Stage corrections for a serving crossbar (R457). -/
def State.stageTrims (s : State) (n : Nat) (w : Nat → BitVec 32) (r : Nat → BitVec 5) (q : Nat) : State :=
  let s := { s with xb := { s.xb with
    shadow := tabBlock 0 s.xb.shadow (528 * n) 528 w, refShadow := tabBlock 0 s.xb.refShadow (8 * n) 8 r } }
  s.modPhys n fun p => { p with staged := true, stagedQ := q }

/-- Temperature of a sensor in use, in 0.25 °C (TH_SENSOR AREA). -/
def State.sensorTemp (s : State) (n : Nat) : Int := signed 11 (s.fld (thSensorArea n))

/-- Temperature of a physical cluster in 1/8 °C (R462). -/
def State.clusterTemp (s : State) (pc : Nat) : Int :=
  match s.flag (thSensorExcl (2 * pc)), s.flag (thSensorExcl (2 * pc + 1)) with
  | true, false => 2 * s.sensorTemp (2 * pc + 1)
  | false, true => 2 * s.sensorTemp (2 * pc)
  | _, _ => s.sensorTemp (2 * pc) + s.sensorTemp (2 * pc + 1)

/-- Does a crossbar serve products (R457)? -/
def PhysXb.serves (p : PhysXb) : Bool := decide (p.st = .serving) || decide (p.st = .twin)

/-- A record is read (R206, R461): whether none of its words is poisoned; a record with one that is, is restored, which is recorded. -/
def State.readRecord (s : State) (n : Nat) : State × Bool :=
  let s := s.hbmErrors 4 (calAddr n) 12288 0 none
  if s.anyPoison (calAddr n) 12288 then ((s.restoreRecord n).post (s.recCal n 3 (bitNat !(s.hasSnapshot n))), false) else (s, true)

/-- A crossbar that serves no slot takes the corrections interpolated at a temperature (R457, R462). -/
def State.takeTrims (s : State) (theta : Int) (n : Nat) : State :=
  let (w, r, q) := s.trimsAt n theta
  (s.putTrims n w r q).takeQuality n

/-- Recompute one crossbar at a temperature (R457, R461, R463, R487). -/
def State.recompute (s : State) (theta : Int) (n : Nat) : State :=
  match s.readRecord n with
  | (s, false) => s
  | (s, true) =>
    if (s.phys n).st = .held then s
    else if (s.phys n).serves then
      let (w, r, q) := s.trimsAt n theta
      s.stageTrims n w r q
    else s.takeTrims theta n

/-- A crossbar that begins or returns to serving at a boundary has been recomputed at its cluster's temperature (R463, R487), and its cluster is
to be. -/
def State.renewTrims (s : State) (n : Nat) : State :=
  let s := match s.readRecord n with
    | (s, false) => s
    | (s, true) => s.takeTrims (s.clusterTemp (n / 612)) n
  s.trimsDue n

/-- Does the temperature of a physical cluster ask that its trims be recomputed: none since a crossbar or a set changed, or 0.5 °C away (R463)? -/
def State.trimsOld (s : State) (pc : Nat) : Bool :=
  match tabFind s.ca.theta pc with
  | none => true
  | some theta => decide (4 ≤ (s.clusterTemp pc - theta).natAbs)

/-- Physical clusters whose trims are to be recomputed (R463): none in P3. -/
def State.trimQueue (s : State) : List Nat :=
  ((List.range 128).filter fun l => decide (s.fld (clStatusMap l) = 0) && decide (s.fld (clStatusPstateNow l) ≠ 3)).map s.physCluster
    |>.filter s.trimsOld

/-- All crossbars of a physical cluster are recomputed at its temperature (R463). -/
def State.recomputeCluster (s : State) (pc : Nat) : State :=
  let theta := s.clusterTemp pc
  let s := { s with ca := { s.ca with theta := tabInsert (tabErase s.ca.theta pc) pc theta } }
  (List.range 612).foldl (fun s i => s.recompute theta (612 * pc + i)) s

/-- TRIM_RECOMPUTE: a cluster's trims are read, interpolated at its temperature and staged, the lowest cluster that is due first (R463). -/
def execTrimRecompute (px : Fin 17) (py : Fin 8) (s : State) : Host.Outcome State Fault Refusal :=
  .next (
    let pc := 17 * py.val + px.val
    let q := s.trimQueue
    if pc ∈ q ∧ q.all (fun c => decide (pc ≤ c)) = true then s.recomputeCluster pc else s)

/-- Does a crossbar become HELD at the boundary that follows (R270, R487)? -/
def State.goesHeld (s : State) (n : Nat) : Bool :=
  s.xb.phys.any fun e => decide (e.2.st = .twinPrep) && e.2.passed && decide (.xb e.1 ∈ s.sh.commits) && decide (s.mappedXb e.2.forXb = n) &&
    (tabFind s.xb.twin e.2.forXb).isNone

/-- Staged trims transfer in the commit row (R457, R463, R464); a monitor measurement under way is abandoned (R468). A crossbar that becomes HELD
takes none (R487). -/
def State.transferTrims (s : State) : State :=
  s.xb.phys.foldl (fun s e =>
    if e.2.staged && s.goesHeld e.1 then s.modPhys e.1 fun p => { p with staged := false }
    else if e.2.staged then
      let n := e.1
      let sh := s.xb.shadow
      let rs := s.xb.refShadow
      let s := s.putTrims n (fun c => tabGet 0 sh (528 * n + c)) (fun g => tabGet 0 rs (8 * n + g)) e.2.stagedQ
      let s := { s with xb := { s.xb with
        shadow := tabBlock 0 s.xb.shadow (528 * n) 528 fun _ => 0, refShadow := tabBlock 0 s.xb.refShadow (8 * n) 8 fun _ => 0 } }
      let x := e.2.forXb
      if s.servingXb x = n ∧ 0 < (s.xrun x).monSteps then
        (s.modXrun x fun r => { r with monSteps := 0 }).incSat caFailCountAbandoned 1
      else s
    else s) s

/-! Gaps and monitoring (R465 to R468). -/

/-- Slices of a vector with no non-zero element (R63). -/
def skippedSlices (f : InFmt) (v : List Byte) : Nat := (List.range (sliceCount f)).countP fun i => (slicePhases f v i).isEmpty

/-- The SKIP or PHASE gap of a product in ns of the tick (R74, R465). -/
def gapOf (p : Product) (kind : GapKind) : Nat × Nat :=
  let n := p.need + redoCount p
  let free := p.reserved - p.need
  let skip := p.need + Nat.min free (p.d * skippedSlices p.fmt p.vec)
  match kind with
  | .skip => (p.t0 + 6 + 66 * n, p.t0 + 6 + 66 * skip)
  | _ => (p.t0 + 6 + 66 * Nat.max n skip, p.t0 + 6 + 66 * p.reserved)

/-- Show CA_GAP_USE. -/
def State.showGaps (s : State) : State :=
  ((s.setFld caGapUseSkip (s.ca.skipUse / 2 ^ 24)).setFld caGapUsePhase (s.ca.phaseUse / 2 ^ 24)).setFld caGapUseIdle (s.ca.idleUse / 2 ^ 24)

/-- Count a step of a gap kind. -/
def State.useGap (s : State) (kind : GapKind) : State :=
  ({ s with ca := match kind with
    | .skip => { s.ca with skipUse := s.ca.skipUse + 1 }
    | .phase => { s.ca with phaseUse := s.ca.phaseUse + 1 }
    | .idle => { s.ca with idleUse := s.ca.idleUse + 1 } }).showGaps

/-- ns of `now` at a time of the running tick. -/
def State.nowAt (s : State) (x : Nat) : Nat := s.now + x - s.t

/-- When the step that ends now, or next, in a gap of slot x begins, as ns of `now`: after the crossbar's step before it, within the gap (R465, R466). -/
def State.stepAt (s : State) (x : Nat) (gap : GapKind) : Option Nat :=
  let r := s.xrun x
  let own := ((s.ca.steps.filter fun e => decide (e.1 = s.servingXb x)).map Prod.snd).foldl Nat.max (s.now - 66)
  match gap with
  | .idle => if r.conv.isNone ∧ r.queued.isNone then some (Nat.max own r.idle) else none
  | k => match r.conv with
    | none => none
    | some p =>
      let g := gapOf p k
      let a := Nat.max own (s.nowAt g.1)
      if a + 66 ≤ s.nowAt g.2 then some a else none

/-- The physical row of a physical crossbar (R20). -/
def xbRow (n : Nat) : Nat := n / 612 / 17

/-- Other crossbars of the row that calibrate during the 66 ns from a (R467). -/
def State.rowSteps (s : State) (n a : Nat) : Nat :=
  s.ca.steps.countP fun e => decide (xbRow e.1 = xbRow n) && decide (e.1 ≠ n) && decide (a < e.2) && decide (e.2 < a + 132)

/-- Does the slot's crossbar convert a product in the 66 ns from a? -/
def State.convertsIn (s : State) (r : XbRun) (a : Nat) : Bool :=
  match r.conv with
  | some p => decide (s.nowAt (p.t0 + 6) < a + 66) && decide (a < s.nowAt (p.t0 + 6 + 66 * (p.need + redoCount p)))
  | none => false

/-- Would a step of slot x leave no crossbar of its row without a conversion in the 66 ns from a (R467; log entry 44)? -/
def State.rowFull (s : State) (x a : Nat) : Bool :=
  let row := xbRow (s.servingXb x)
  let all := 512 * (List.range 128).countP fun l => decide (s.fld (clStatusMap l) = 0) && decide (s.physCluster l / 17 = row)
  let busy := s.xb.run.countP fun e => decide (e.1 ≠ x) && decide (xbRow (s.servingXb e.1) = row) && s.convertsIn e.2 a
  decide (all ≤ busy + 1)

/-- Serving crossbars of a physical cluster that have a gap now, ascending. -/
def State.inGap (s : State) (pc : Nat) : List Nat :=
  let free (e : Nat × PhysXb) : Bool := [GapKind.skip, .phase, .idle].any fun k => (s.stepAt e.2.forXb k).isSome
  sortBy id ((s.xb.phys.filter fun e =>
    decide (e.1 / 612 = pc) && e.2.serves && decide (s.servingXb e.2.forXb = e.1) && free e).map Prod.fst)

/-- The crossbar of a cluster that the controller serves next (R467): round-robin, in ascending number. -/
def State.nextServed (s : State) (pc : Nat) : Option Nat :=
  let l := s.inGap pc
  match tabFind s.ca.served pc with
  | some n => (l.find? fun m => decide (n < m)) <|> l.head?
  | none => l.head?

/-- May the step of slot x that begins at a run: the controller's turn, at most 2,048 crossbars of the row at once, none where all convert (R467)? -/
def State.mayStep (s : State) (x a : Nat) : Bool :=
  let n := s.servingXb x
  (s.phys n).serves && decide (s.nextServed (n / 612) = some n) && decide (s.rowSteps n a < 2048) && !s.rowFull x a

/-- CALIBRATION_STEP: one conversion period of calibration in a gap of the serving crossbar whose turn it is (R465 to R467): it counts towards the
monitor measurement unless it is abandoned, which only an IDLE step can be. Steps of other crossbars may run in the same 66 ns. -/
def execCalibrationStep (x : XbId) (gap : GapKind) (abandoned : Bool) (s : State) : Host.Outcome State Fault Refusal :=
  .next (
    match s.stepAt x gap with
    | none => s
    | some a =>
      if s.mayStep x a then
        let n := s.servingXb x
        let s := ({ s with ca := { s.ca with served := tabInsert (tabErase s.ca.served (n / 612)) (n / 612) n } }).useGap gap
        if abandoned ∧ gap = .idle then s
        else
          let left := s.ca.steps.filter fun e => decide (e.1 ≠ n) && decide (s.now < e.2 + 66)
          let s := { s with ca := { s.ca with steps := left ++ [(n, a + 66)] } }
          (s.advance (s.t + (a + 66 - s.now))).modXrun x fun r => { r with monSteps := r.monSteps + 1 }
      else s)

/-- q of R468 in 4.4 from the sum over 528 columns and 5 probes of (5 × sum of the 16 corrected values − 14 Q)², that is (1280 ε)²:
rounded up to 1/16 LSB, at most 15.9375. -/
def monitorQ (sumSq : Nat) : Nat := Nat.min 255 (ceilSqrtRatio (256 * (sumSq - 24330240)) 4325376000)

/-- A crossbar is to be recalibrated (R472), with the cause of its RECAL_DUE record: 1 QUALITY, 2 monitor overdue, 3 set age; 0 and 4
post none, and RECAL_DUE is set for 0 and 1. -/
def State.wantRecal (s : State) (x cause : Nat) : State :=
  let n := s.mappedXb x
  if s.now < (s.phys n).noRecal ∨ (s.phys n).cause.isSome then s
  else
    let q := (s.phys n).quality
    let first := !(s.ca.due.any fun e => decide (e.1 = n))
    let s := if first then
        let s := { s with ca := { s.ca with due := s.ca.due ++ [(n, cause)] } }
        if cause = 0 ∨ 3 < cause then s else s.post (s.recCal n 2 (q * 256 + cause * 2 ^ 16))
      else s
    let s := if cause ≤ 1 then s.setFlag (xbStatRecalDue (xbCluster x) (xbSlot x)) true else s
    (s.modPhys n fun p => { p with recal := true }).wantTwin x 3

/-- MONITOR_MEASUREMENT: the 80 steps are complete and q is recorded (R464, R468, R472); QUALITY in force follows at the boundary (R82). -/
def execMonitorMeasurement (x : XbId) (sumSq : Nat) (s : State) : Host.Outcome State Fault Refusal :=
  .next (
    if (s.xrun x).monSteps < 80 then s
    else
      let n := s.servingXb x
      let q := monitorQ sumSq
      let s := (s.modXrun x fun r => { r with monSteps := 0 }).setCal n 24 [BitVec.ofNat 8 q]
      let s := s.modPhys n fun p => { p with monUp := q }
      (if 48 < q then s.weed n .calibration else s).startWork)

/-- The quality of every crossbar at the boundary (R82, R464, R472): what the trims and the monitor give comes into force, and a serving crossbar above
1.5 LSB rms is to be recalibrated. -/
def State.settleQuality (s : State) : State :=
  let s := ((s.xb.phys.filter fun e => decide (e.2.quality ≠ e.2.newQuality)).map Prod.fst).foldl (fun s n =>
    let s := s.takeQuality n
    let x := (s.phys n).forXb
    if (s.phys n).serves ∧ s.servingXb x = n then s.showSlot x else s) s
  (s.xb.phys.filter fun e => decide (e.2.st = .serving) && decide (24 < e.2.quality) && !(s.ca.due.any fun d => decide (d.1 = e.1))).foldl
    (fun s e => s.wantRecal e.2.forXb 1) s

/-- MONITOR_OVERDUE: a serving crossbar has no completed measurement for 3,600 s and is scheduled for recalibration (R468, R472). -/
def execMonitorOverdue (x : XbId) (s : State) : Host.Outcome State Fault Refusal :=
  .next (if (s.phys (s.mappedXb x)).st = .serving then (s.wantRecal x 2).startWork else s)

/-- What a verdict, or the end of an arbitration without one, does to a crossbar at the boundary (R433): 1 DATA_WRONG, 2 INDEX_WRONG,
3 BOTH_WRONG, 4 BOTH_WITHIN, else no verdict. -/
def State.verdictEffect (s : State) (e : Nat × Nat × Nat) : State :=
  let (x, verdict, g) := e
  let l := xbCluster x
  let k := xbSlot x
  let n := s.servingXb x
  let data := decide (verdict = 1) || decide (verdict = 3)
  let s := if verdict = 2 ∨ verdict = 3 then s.setFld (xbStatIdxOff l k) (s.fld (xbStatIdxOff l k) ||| 2 ^ g) else s
  let s := if data then
      let again := match (s.phys n).wrongTick with | some t => decide (s.tick ≤ t + 1048576) | none => false
      let s := (s.setFlag (xbStatSuspect l k) true).modPhys n fun p => { p with wrongTick := some s.tick }
      if again then s.weed n .calibration else s
    else s
  s.wantRecal x (if verdict = 2 then 4 else 0)

/-! Recalibration (R469 to R472). -/

/-- Is the temperature within 5 °C of a set point? -/
def nearSet (theta : Int) : Option Nat := (List.range 5).find? fun t => decide ((theta - setPoint t).natAbs ≤ 40)

/-- Is set t of a record more than 30 days old (R472)? -/
def State.setOld (s : State) (n t : Nat) : Bool :=
  decide (2592000000000000 < (s.tick + s.tickWrap - s.calNum n (setOff t + 12) 8 % s.tickWrap) % s.tickWrap * s.tickNs)

/-- The set whose temperature is nearest. -/
def nearestSet (theta : Int) : Nat :=
  (List.range 5).foldl (fun a t => if (theta - setPoint t).natAbs < (theta - setPoint a).natAbs then t else a) 0

/-- Is a reserve crossbar to be recalibrated in place (R472)? -/
def State.reserveDue (s : State) (n : Nat) (theta : Int) : Bool := !(s.setValid n (nearestSet theta)) || s.setOld n (nearestSet theta)

/-- A cluster that a sample finds away from its set point has not been near it for the whole tick (R472). -/
def State.leaveSet (s : State) : State :=
  { s with ca := { s.ca with near := s.ca.near.filter fun e => decide (nearSet (s.clusterTemp e.1) = some e.2) } }

/-- Clusters that have been within 5 °C of a set point for the whole tick that ended: a serving crossbar whose set is more than 30 days old is to be
recalibrated (R472). Then the tick that begins is watched. -/
def State.ageSets (s : State) : State :=
  let s := s.ca.near.foldl (fun s e =>
    (s.xb.phys.filter fun p => decide (p.1 / 612 = e.1) && decide (p.2.st = .serving) && s.setOld p.1 e.2).foldl
      (fun s p => s.wantRecal p.2.forXb 3) s) s.leaveSet
  { s with ca := { s.ca with near := (List.range 136).filterMap fun pc => (nearSet (s.clusterTemp pc)).map fun t => (pc, t) } }

/-- The sets a recalibration changes (R470). -/
def setsChanged (theta : Int) : List Nat :=
  match nearSet theta with
  | some t => [t]
  | none => let (i, j) := bracket theta; if i = j then [i] else [i, j]

/-- The new column word of a set (R470): the measured one near a set point, else the old one moved by what interpolation lacks. -/
def State.newWord (s : State) (n : Nat) (theta : Int) (t c : Nat) (m : BitVec 32) : BitVec 32 :=
  if (nearSet theta).isSome then m
  else
    let old := match s.useSet n t with | some u => s.setWord n u c | none => 0
    let at_ := (s.trimsAt n theta).1 c
    zipWord (fun a d => a + d) old (zipWord (fun a b => a - b) m at_)

/-- The same for a REF_TRIM. -/
def State.newRef (s : State) (n : Nat) (theta : Int) (t g : Nat) (m : BitVec 5) : BitVec 5 :=
  if (nearSet theta).isSome then m
  else
    let old := match s.useSet n t with | some u => s.setRef n u g | none => 0
    let at_ := (s.trimsAt n theta).2.1 g
    BitVec.ofNat 5 (pattern 5 (satSigned 5 (signed 5 old.toNat + (signed 5 m.toNat - signed 5 at_.toNat))))

/-- GAIN_TRIM of a column word. -/
def gainOf (w : BitVec 32) : Int := signed 6 (bitsOf w.toNat 0 6)

/-- The failed checks of R471 as bits 0 GAIN, 1 RESIDUAL, 2 VXB, 3 INDEX. -/
def State.calChecks (s : State) (n : Nat) (theta : Int) (codes : List (BitVec 32)) (q vxb : Nat) (indexOk : Bool) : Nat :=
  let ts := setsChanged theta
  let gain := ts.all fun t => !(s.setValid n t) || (List.range 528).all fun c =>
    decide ((gainOf (s.newWord n theta t c (codes.getD c 0)) - gainOf (s.setWord n t c)).natAbs ≤ 8)
  let res := ts.all fun t => decide (q < s.setQuality n t) || decide (q ≤ 16)
  bitNat (!gain) + 2 * bitNat (!res) + 4 * bitNat (!(decide (1960 ≤ vxb) && decide (vxb ≤ 2040))) + 8 * bitNat (!indexOk)

/-- Write the changed sets of an accepted recalibration (R470, R471). -/
def State.acceptSets (s : State) (n : Nat) (theta : Int) (codes : List (BitVec 32)) (refs : List (BitVec 5)) (q vxb : Nat) : State :=
  let new := (setsChanged theta).map fun t =>
    (t, (List.range 528).foldl (fun a c => a ++ leBytes 4 (s.newWord n theta t c (codes.getD c 0)).toNat) [],
     (List.range 8).map fun g => BitVec.ofNat 8 (s.newRef n theta t g (refs.getD g 0)).toNat)
  let s := new.foldl (fun s e =>
    let o := setOff e.1
    let s := (((s.setCal n o [1]).setCal n (o + 1) [1]).setCal n (o + 2) [BitVec.ofNat 8 q]).setCal n (o + 4) e.2.2
    ((s.setCal n (o + 12) (leBytes 8 s.tick)).setCal n (o + 20) (leBytes 2 vxb)).setCal n (o + 64) e.2.1) s
  let s := ((s.setCal n 8 [0]).setCal n 16 (leBytes 8 s.tick)).trimsDue n
  { s with ca := { s.ca with changed := if n ∈ s.ca.changed then s.ca.changed else s.ca.changed ++ [n] } }

/-- RECALIBRATION: a held crossbar that its re-verify has passed (R469 step 1), or a reserve in place, has been measured; the new sets are accepted or
rejected, and it passes or is weeded (R469 to R472, R487). `theta` in 1/8 °C, `q` in 4.4, `vxb` in 0.1 mV, measured column words and REF_TRIMs. -/
def execRecalibration (n : PxbId) (theta : Int) (codes : List (BitVec 32)) (refs : List (BitVec 5)) (q vxb : Nat) (indexOk : Bool)
    (s : State) : Host.Outcome State Fault Refusal :=
  .next (
    let p := s.phys n
    let held := decide (p.st = .held) && p.recal && p.cause.isNone && p.checked
    if !(held || (decide (s.xst n = .reserve) && s.reserveDue n theta)) then s
    else
      let s := (s.readRecord n).1
      let q := Nat.min q 255
      let x := s.logicalOf n
      let oldQ := (s.trimsAt n theta).2.2
      let bad := s.calChecks n theta codes q vxb indexOk
      let s := { s with ca := { s.ca with due := s.ca.due.filter fun e => decide (e.1 ≠ n.val) } }
      let s := if bad = 0 then
          let s := s.acceptSets n theta codes refs q vxb
          match x with
          | some x => s.setFlag (xbStatSuspect (xbCluster x) (xbSlot x)) false
          | none => s
        else
          let fails := Nat.min 255 (s.calNum n 8 1 + 1)
          let s := s.setCal n 8 [BitVec.ofNat 8 fails]
          let s := s.incSat (if bad % 2 = 1 then caFailCountRejectGain else caFailCountRejectOther) 1
          s.post (s.recCal n 1 (bad + q * 2 ^ 8 + oldQ * 2 ^ 16 + Nat.min 3 fails * 2 ^ 24))
      let t := s.trimsAt n theta
      let fails : Nat := s.calNum n 8 1
      let weeds := decide (48 < q) || decide (3 ≤ fails) || decide (bad ≠ 0 ∧ 48 < oldQ)
      let s := if weeds then
          let s := if 3 ≤ fails then s.incSat caFailCountThirdFail 1 else s
          s.weed n .calibration
        else (s.putTrims n t.1 t.2.1 t.2.2).takeQuality n
      let s := s.modPhys n fun p => { p with recal := false, passed := held && !weeds, clearIdx := indexOk && !weeds }
      let s := match x with
        | some x =>
          if t.2.2 ≤ 24 then s.setFlag (xbStatRecalDue (xbCluster x) (xbSlot x)) false
          else s.modPhys n fun p => { p with noRecal := s.now + 60000000000 }
        | none => s
      s.startWork)

/-- A record is written to the snapshot whole, unless a word of it is poisoned: then it is not used, and it is restored (R207, R459, R461). -/
def State.snapshotRecord (s : State) (n : Nat) : State :=
  match s.readRecord n with
  | (s, false) => s
  | (s, true) =>
    { s with ca := { s.ca with snapshot := tabBlock 0 s.ca.snapshot (12288 * n) 12288 fun i => s.byte (calAddr n + i) } }

/-- CALIBRATION_SNAPSHOT: every record changed since the last snapshot is written to it (R459). -/
def execCalibrationSnapshot (s : State) : Host.Outcome State Fault Refusal :=
  .next (
    let s := s.ca.changed.foldl State.snapshotRecord s
    { s with ca := { s.ca with changed := [] } })

/-! Lanes (R371, R473). -/

/-- A port changes state: NEW is set (FB_PORT_STATE). -/
def State.setPort (s : State) (p st : Nat) : State :=
  if s.fbState p = st then s else (s.setFld (fbPortStateState p) st).setFlag (fbPortStateNew p) true

/-- An UP port retrains, keeping its replay buffer and sequence state (R371). -/
def State.retrain (s : State) (p : Nat) : State :=
  ((s.incSat (fbPortStateRetrains p) 1).setPort p portTraining).modFport p fun f => { f with retraining := true }

/-- The record of a poor lane (R473, R486), at most once per lane per hour. -/
def State.laneRecord (s : State) (k h w : Nat) (crit : Bool) : State :=
  let due := match tabFind s.ca.eyeRecord k with
    | some t => decide (t + 3600000000000 ≤ s.now)
    | none => true
  if due then
    let s := { s with ca := { s.ca with eyeRecord := tabInsert (tabErase s.ca.eyeRecord k) k s.now } }
    let d := k % 4 + h * 2 ^ 8 + w * 2 ^ 16 + bitNat crit * 2 ^ 24
    s.post (if k < 32 then recUnit 2 (k / 4) 1 22 5 0 d none else recUnit 1 ((k - 32) / 8) 1 22 5 0 d none)
  else s

/-- LANE_EYE_MEASUREMENT: height in 0.5 mV, width in 1/256 UI (R473, CA_LANE). -/
def execLaneEyeMeasurement (lane : Fin 64) (height width : BitVec 8) (s : State) : Host.Outcome State Fault Refusal :=
  .next (
    let k := lane.val
    let h := height.toNat
    let w := width.toNat
    let first := decide (s.fld (caLaneState k) = 0)
    let s := (s.setFld (caLaneEyeH k) h).setFld (caLaneEyeW k) w
    let s := if first ∨ h < s.fld (caLaneMinH k) then s.setFld (caLaneMinH k) h else s
    let s := if first ∨ w < s.fld (caLaneMinW k) then s.setFld (caLaneMinW k) w else s
    let s := s.incWrap (caLaneMeas k) 1
    let low := decide (h < 16) || decide (w ≤ 38)
    let strikes := if low then Nat.min 3 (s.fld (caLaneStrikes k) + 1) else 0
    let s := s.setFld (caLaneStrikes k) strikes
    if strikes = 3 then
      let s := (s.setFld (caLaneState k) 3).laneRecord k h w true
      if k < 32 ∧ s.fbUp (k / 4) then s.retrain (k / 4) else s
    else if h < 30 ∨ w < 64 then (s.setFld (caLaneState k) 2).laneRecord k h w false
    else s.setFld (caLaneState k) 1)

end Sys2Proof.Machine
end

