-- ==== Sys2Proof/Machine/Link.lean ====
section
/-! DEFINITION. The fabric link layer: flits, replay, credits, pool advertisements, port states, IDENT, INERT entries (R361 to R377, R390 to
R395, R420 to R424). Log entries 45, 47. -/
namespace Sys2Proof.Machine
open Sys2Proof

/-- The IDENT message of a port (R377, R420). -/
def State.ownIdent (s : State) (p : Nat) : Ident :=
  if s.nativeSide p then
    { module := s.ownNumber p, port := p, sync := 3, domain := s.fld fbBridgeIdNativeDomain, kind := 1, amode := 0,
      tickUs := s.fld ctTickLenUs, x := s.fld fbBridgeIdNx, y := s.fld fbBridgeIdNy, z := s.fld fbBridgeIdNz }
  else
    { module := s.ownNumber p, port := p, sync := s.syncMode, domain := s.fld fbCoordDomain, kind := 1,
      amode := if s.syncMode = 3 then 0 else s.fld fbCoordAmode, tickUs := s.fld ctTickLenUs, x := s.fld fbCoordX, y := s.fld fbCoordY,
      z := s.fld fbCoordZ }

/-- Is a sync mode the one expected at a port (R392)? Before a catalogue is in force nothing is expected (log entry 47). -/
def State.expectsSync (s : State) (p sync : Nat) : Bool :=
  match s.syncMode with
  | 1 => decide (sync = 1) || decide (sync = 3)
  | 2 => decide (sync = 2) || decide (sync = 3)
  | 3 => if p < 4 then decide (sync = 2) else decide (sync = 1)
  | _ => true

/-- Does an IDENT name the planned neighbour: MODULE, PORT, DOMAIN and KIND (R392)? A torus port meets port p XOR 1 of its neighbour (R362). -/
def State.identPlanned (s : State) (p : Nat) (m : Ident) : Bool :=
  (decide (6 ≤ p) || decide (m.port = p ^^^ 1)) && decide (m.module = s.fld (fbPlanNeighbourModule p)) && decide (m.port = s.fld (fbPlanNeighbourFarPort p))
    && decide (m.domain = s.fld (fbPlanNeighbourDomain p)) && decide (m.kind = s.fld (fbPlanNeighbourKind p))

/-- Is it the neighbour that was seen first (R393)? -/
def State.identSeen (s : State) (p : Nat) (m : Ident) : Bool :=
  decide (m.module = s.fld (fbSeenNeighbourModule p)) && decide (m.port = s.fld (fbSeenNeighbourFarPort p))
    && decide (m.domain = s.fld (fbSeenNeighbourDomain p)) && decide (m.kind = s.fld (fbSeenNeighbourKind p))

/-- FB_SEEN_NEIGHBOUR takes the first IDENT received (R392). -/
def State.recordIdent (s : State) (p : Nat) (m : Ident) : State :=
  let s := ((s.setReg (fbSeenNeighbourReg p) 0).setFld (fbSeenNeighbourDomain p) m.domain).setFld (fbSeenNeighbourKind p) m.kind
  let s := ((s.setFld (fbSeenNeighbourSync p) m.sync).setFlag (fbSeenNeighbourValid p) true).setFld (fbSeenNeighbourFarPort p) m.port
  ((s.setFld (fbSeenNeighbourModule p) m.module).setFld (fbSeenNeighbourTickUs p) m.tickUs).setFld (fbSeenNeighbourAmode p) m.amode

/-- FABRIC entries of a port that are in use. -/
def State.entriesOf (s : State) (p : Nat) : List Nat := (List.range 256).filter fun e => s.flag (fbSlotTableValid p e)

/-- A port's entries become INERT: what waits for them is discarded (R395). -/
def State.makeInert (s : State) (p : Nat) : State :=
  let s := (s.entriesOf p).foldl (fun s e => s.setFlag (fbSlotTableInert p e) true) s
  (s.setFlag (fbPortStateInert p) true).dropInert p

/-- A port becomes QUARANTINED (R392, R393, R395). -/
def State.quarantine (s : State) (p reason : Nat) : State :=
  ((s.setFld (fbPortStateQreason p) reason).setPort p portQuarantined).makeInert p

/-- Credit pools that a port's neighbour feeds (R375). -/
def State.poolsFor (s : State) (p : Nat) : List CreditRec := s.ctg.credits.filter fun c => decide (c.source = 0) && decide (c.id = p)

/-- Advertise the credit pools of a port (R375). -/
def State.advertise (s : State) (p : Nat) : State := (s.poolsFor p).foldl (fun s c => s.sendCtl p (.poolAdv c.pool c.capacity false)) s

/-- A port becomes UP: counters at the buffer sizes, pools advertised (R374, R375). -/
def State.comeUp (s : State) (p : Nat) : State :=
  let s := (s.setPort p portUp).modFport p fun f => { f with
    rejoin := false
    retraining := false
    credits := [(2, 128), (4, 96), (5, 96), (6, 32), (7, 32)]
    owed := [] }
  (s.advertise p).drainPort p

/-- A class 1 packet of LEN bytes enters its credit pool (R150, R382), where it waits for its gate slot; fewer data bytes than LEN are those of a packet cut
short. -/
def State.poolPacket (s : State) (c : CreditRec) (k : Packet) (len : Nat) : State :=
  let q : QSpill := { q := c.queue, seq := 0, tag := k.tag, len, data := k.data.take len, poison := packetCells k, check := k.check, pool := some c.pool }
  s.modCredit c.pool fun x => { x with out := x.out + cellsOf len, waiting := x.waiting ++ [q] }

/-- The credit pool of a port that a packet names. -/
def State.poolNamed (s : State) (p pool : Nat) : Option CreditRec := (s.poolsFor p).find? fun c => decide (c.pool = pool)

/-- Packets partly received on a link that goes down (R394): class 1 goes on as a packet whose producer has stopped (R158), class 2 is discarded with its
record, class 3 waits for the shelver's next attempt. -/
def State.dropPartial (s : State) (p : Nat) : State :=
  match (s.fport p).partialRx with
  | none => s
  | some x =>
    let s := s.modFport p fun f => { f with partialRx := none }
    match x.pkt.cls with
    | 1 => match s.poolNamed p x.pkt.pool with
      | some c => s.poolPacket c x.pkt x.len
      | none => s
    | 2 => s.post (recUnit 2 p 3 20 6 x.pkt.job (s.fld (fbSeenNeighbourModule p) * 2 ^ 16) none)
    | _ => s

/-- An UP port becomes DOWN (R394): what was being received is handled, the link's sequence state and its credits begin anew when it is UP again. -/
def State.goDown (s : State) (p : Nat) : State :=
  ((s.dropPartial p).setPort p portDown).modFport p fun f => { f with
    retraining := false
    expect := 0
    nakSent := false
    next := 0
    replay := []
    resent := []
    replayAt := none
    ctl := []
    pools := []
    cwSeen := none
    ctlRun := 0 }

/-- LINK_DOWN: a lane is lost (R364, R394). -/
def execLinkDown (p : Fin 8) (s : State) : Host.Outcome State Fault Refusal :=
  .next (match s.fbState p with
    | 3 => s.goDown p
    | 2 => s.setPort p portTraining
    | _ => s)

/-- TRAINING_COMPLETE: the port exchanges IDENT; a partner that the plan does not name is EXTRA (R392, R394); the lanes' states are
cleared (R473); nothing trains without the fabric reference (R561, R571). -/
def execTrainingComplete (p : Fin 8) (s : State) : Host.Outcome State Fault Refusal :=
  .next (
    let st := s.fbState p
    let none_ := decide (s.fld (fbPlanNeighbourKind p) = 0)
    if s.fb.fabRefLost then s
    else if st = portOff ∧ none_ then s.quarantine p 3
    else if st = portTraining ∨ st = portDown then
      let s := (List.range 4).foldl (fun s i => s.setFld (caLaneState (4 * p + i)) 0) s
      let s := (s.setFlag (fbSeenNeighbourValid p) false).setPort p portIdent
      let s := if st = portDown then s.modFport p fun f => { f with rejoin := true, retraining := false } else s
      s.sendCtl p (.ident (s.ownIdent p))
    else s)

/-- RETRAIN_TIMEOUT: a retrain that has not completed within 1 s (R371). -/
def execRetrainTimeout (p : Fin 8) (s : State) : Host.Outcome State Fault Refusal :=
  .next (if s.fbState p = portTraining ∧ (s.fport p).retraining then s.goDown p else s)

/-- IDENT_TIMEOUT: no IDENT within 1 s of the start of training (R392). -/
def execIdentTimeout (p : Fin 8) (s : State) : Host.Outcome State Fault Refusal :=
  .next (
    let st := s.fbState p
    if (st = portTraining ∧ !(s.fport p).retraining ∨ st = portIdent) ∧ !s.flag (fbSeenNeighbourValid p) then s.quarantine p 2 else s)

/-- IDENT_RESEND: IDENT is repeated every 100 ms while the link stays up (R392, R393). -/
def execIdentResend (p : Fin 8) (s : State) : Host.Outcome State Fault Refusal :=
  .next (if s.fbState p = portIdent ∨ s.fbState p = portUp ∨ s.fbState p = portQuarantined then s.sendCtl p (.ident (s.ownIdent p)) else s)

/-- IDENT: the first decides the port's state, a later one that differs quarantines an UP port (R392 to R394). -/
def execIdent (p : Fin 8) (m : Ident) (s : State) : Host.Outcome State Fault Refusal :=
  .next (
    let st := s.fbState p
    if st = portIdent then
      let s := s.recordIdent p m
      if !s.identPlanned p m then s.quarantine p 1
      else if !s.expectsSync p m.sync then s.quarantine p 4
      else if (s.fport p).rejoin then s
      else s.comeUp p
    else if st = portUp then
      if s.identSeen p m then s
      else
        let s := (s.dropPartial p).quarantine p 1
        s.post { sev := 3, kind := 19, sub := 3, domain := 5, unit := unitOf 2 p, detail := m.module % 4096 }
    else if st = portQuarantined ∧ !s.flag (fbSeenNeighbourValid p) then
      let s := s.recordIdent p m
      if s.fld (fbPortStateQreason p) = 2 then
        if !s.identPlanned p m then s.setFld (fbPortStateQreason p) 1
        else if !s.expectsSync p m.sync then s.setFld (fbPortStateQreason p) 4
        else s.modFport p fun f => { f with rejoin := true }
      else s
    else s)

/-- At a boundary a port whose link and IDENT have come back is UP (R393, R394); DISABLE takes effect (R423). -/
def State.portBoundary (s : State) (p : Nat) : State :=
  let st := s.fbState p
  if s.flag (fbPortStateDisable p) then
    if st = portDisabled then s else ((s.dropPartial p).setPort p portDisabled).makeInert p
  else if st = portDisabled then s.setPort p (if s.fld (fbPlanNeighbourKind p) = 0 then portOff else portTraining)
  else if (s.fport p).rejoin ∧ (st = portIdent ∨ st = portQuarantined) ∧ s.flag (fbSeenNeighbourValid p) then
    let s := if st = portQuarantined then
        (s.setFld (fbPortStateQreason p) 0).post (recUnit 2 p 1 19 3 0 (s.fld (fbSeenNeighbourModule p)) none)
      else s
    s.comeUp p
  else s

/-! Retry. -/

/-- Flits of the replay buffer from a SEQ on. -/
def replayFrom (l : List Nat) (seq : Nat) : List Nat := l.dropWhile fun x => decide (x ≠ seq)

/-- Position in the replay buffer of the flit a running replay is resending: 64 × 0.1 ns each (R423). -/
def State.resending (s : State) (f : FabPort) : Option Nat :=
  match f.replayAt with
  | none => none
  | some (seq, start) =>
    let i := (f.replay.length - (replayFrom f.replay seq).length) + (10 * s.now - start) / 64
    if i < f.replay.length then some i else none

/-- A replay starts at a SEQ (R370): each flit from there is resent; past the end of the open slot it slips (R372); a flit resent eight
times makes the port retrain (R371). -/
def State.replay (s : State) (p seq : Nat) : State :=
  let f := s.fport p
  let l := replayFrom f.replay seq
  let resent := l.foldl (fun t x => tabSet 0 t x (tabGet 0 t x + 1)) f.resent
  let s := (s.incSat (fbLinkStatReplays p) 1).modFport p fun f => { f with
    resent
    replayAt := some (seq, 10 * s.now)
    sent := (s.txHeader p, .resend seq) :: f.sent
    cw := s.nextCodeword p + l.length }
  let s := match f.open_ with
    | some x =>
      let ends := Nat.max f.busy (10 * s.t) + 64 * l.length
      let s := s.modFport p fun f => { f with busy := ends }
      if 10 * (s.fld (fbSlotTableStart p x) + s.fld (fbSlotTableLength p x)) < ends then
        (s.incSat (fbLinkStatSlips p) 1).post (recUnit 2 p 1 19 1 0 (s.fld (fbSeenNeighbourModule p)) none)
      else s
    | none => s
  if l.any fun x => decide (8 ≤ tabGet 0 resent x) then (s.modFport p fun f => { f with resent := [] }).retrain p else s

/-- Can a port carry flits: trained and not DOWN? -/
def State.linkRuns (s : State) (p : Nat) : Bool :=
  decide (s.fbState p = portIdent) || decide (s.fbState p = portUp) || decide (s.fbState p = portQuarantined)

/-- NAK: the sender resends from the SEQ it names; while a replay runs, only an earlier one restarts it (R369, R370, R423). -/
def execNak (p : Fin 8) (expect : BitVec 16) (s : State) : Host.Outcome State Fault Refusal :=
  .next (
    let f := s.fport p
    let l := replayFrom f.replay expect.toNat
    if !s.linkRuns p ∨ l.isEmpty then s
    else match s.resending f with
      | some i => if f.replay.length - l.length < i then s.replay p expect.toNat else s
      | none => s.replay p expect.toNat)

/-- REPLAY_TIMEOUT: no ACK has advanced for 10 µs while flits are outstanding (R370). -/
def execReplayTimeout (p : Fin 8) (s : State) : Host.Outcome State Fault Refusal :=
  .next (match (s.fport p).replay with
    | [] => s
    | x :: _ => if s.linkRuns p then s.replay p x else s)

/-- An ACK releases the flits before it (R370). -/
def State.ackTo (s : State) (p ack : Nat) : State :=
  let f := s.fport p
  let l := if ack = f.next then [] else replayFrom f.replay ack
  if ack ≠ f.next ∧ l.isEmpty then s
  else
    let gone := f.replay.take (f.replay.length - l.length)
    ((s.modFport p fun f => { f with replay := l, resent := f.resent.filter fun e => decide (e.1 ∉ gone) }).flushCtl p).drainPort p

/-- FLIT_RECEIVE: a data or control flit is accepted or discarded; the first discard is answered with a NAK (R369, R370). The lanes are aligned by the
codeword's framing pattern and CW_COUNT (R365): a codeword without the pattern is none that the receiver has decoded (log entry 108). -/
def execFlitReceive (p : Fin 8) (f : Flit) (s : State) : Host.Outcome State Fault Refusal :=
  .next (
    if !s.linkRuns p then s
    else
      let whole := f.decoded && framed f.header && f.lcrcOk
      let s := if f.decoded then s.modFport p fun k => { k with cwSeen := if framed f.header then some (cwCount f.header) else none }
        else s.incSat (fbLinkStatUncorr p) 1
      let s := if whole then s.ackTo p (f.ack % 65536) else s
      let k := s.fport p
      if whole && (decide (f.type = 1) || decide (f.type = 2)) && decide (f.seq = k.expect) then
        s.modFport p fun k => { k with
          expect := (k.expect + 1) % 65536
          nakSent := false
          partialRx := if f.type = 2 then k.partialRx else PartialPkt.take k.partialRx f }
      else if whole && decide (f.type = 0) then s
      else if k.nakSent then s
      else (s.modFport p fun k => { k with nakSent := true }).sendCtl p (.nak k.expect))

/-! Credits and pools. -/

/-- CREDIT: flits of a buffer are free again (R374). -/
def execCredit (p : Fin 8) (cls : Fin 4) (vc : Fin 2) (n : Nat) (s : State) : Host.Outcome State Fault Refusal :=
  .next (if s.fbUp p then
      let c := (s.fport p).credits
      let c := tabSet 0 c (creditKey cls vc) (tabGet 0 c (creditKey cls vc) + n)
      (s.modFport p fun f => { f with credits := c }).drainPort p
    else s)

/-- POOL_ADV: a far credit pool is advertised or withdrawn (R375). -/
def execPoolAdv (p : Fin 8) (pool : Nat) (capacity : Nat) (withdraw : Bool) (s : State) : Host.Outcome State Fault Refusal :=
  .next (if s.fbUp p then
      (s.modFport p fun f => { f with pools := tabSet 0 f.pools (pool % 2 ^ 15) (if withdraw then 0 else capacity + 1) }).drainPort p
    else s)

/-- POOL_RET: cells return; for an unknown pool it is ignored (R375, R423). -/
def execPoolRet (p : Fin 8) (pool : Nat) (cells : Nat) (s : State) : Host.Outcome State Fault Refusal :=
  .next (if s.fbUp p then
      let c := tabGet 0 (s.fport p).pools (pool % 2 ^ 15)
      if c = 0 then s
      else (s.modFport p fun f => { f with pools := tabSet 0 f.pools (pool % 2 ^ 15) (c + cells) }).drainPort p
    else s)

/-- CREDIT_RETURN_TIMER: within each µs owed credits go back, and pool cells with them (R164, R374, R375). -/
def execCreditReturnTimer (p : Fin 8) (s : State) : Host.Outcome State Fault Refusal :=
  .next (if s.fbUp p then
      let l := (s.fport p).owed
      let s := s.modFport p fun f => { f with owed := [] }
      let s := l.foldl (fun s e => s.sendCtl p (.credit (e.1 / 2) (e.1 % 2) e.2)) s
      let s := (s.poolsFor p).foldl (fun s c =>
        let n := (s.credit c.pool).owed
        if n = 0 then s else (s.modCredit c.pool fun k => { k with owed := 0 }).sendCtl p (.poolRet c.pool n)) s
      s.drainPort p
    else s)

/-- FABRIC_SLOT_OPEN: an owned slot begins (R384, R395, R423): an INERT entry's packets are discarded, another's go out. -/
def execFabricSlotOpen (p : Fin 8) (e : Fin 256) (s : State) : Host.Outcome State Fault Refusal :=
  .next (if s.guarded || s.idle || !s.flag (fbSlotTableValid p e) || s.hasExited then s
    else
      let s := s.advance (s.fld (fbSlotTableStart p e))
      let s := s.modFport p fun f => { f with
        open_ := some e.val
        lastTransit := true
        egress := f.egress.map fun x => if f.open_.isSome && decide (x.entry.map (·.1) = f.open_) then { x with any := true } else x }
      (s.dropInert p).drainSlot p)

/-- The slots of a tick end with it: packets not sent go in later ones (R379). -/
def State.closeFabricSlots (s : State) : State :=
  (List.range 8).foldl (fun s p => s.modFport p fun f => { f with
    open_ := none
    busy := 0
    egress := f.egress.map fun x => if f.open_.isSome && decide (x.entry.map (·.1) = f.open_) then { x with any := true } else x }) s

/-- PORT_DISABLE: the control port writes DISABLE, in force from the boundary (R284, R423, R424). -/
def execPortDisable (acc : Accessor) (p : Fin 8) (disable : Bool) (s : State) : Host.Outcome State Fault Refusal :=
  .next (
    let may := match acc with
      | .custodian => true
      | .host q => s.isControl q
      | .vf _ _ => false
    if may then s.writeTyped (fbPortStateReg p) (putBits 0 62 1 (bitNat disable)) (putBits 0 62 1 1) else s)

end Sys2Proof.Machine
end

