-- ==== Sys2Proof/Machine/CatCheck.lean ====
section
/-! DEFINITION. The checks at load in the order of R309, and the merge of a partial image (R28, R39, R132, R152, R165, R194, R212, R213, R217,
R239, R292, R300, R301, R305, R309, R316, R342, R383, R396, R413, R419, R420). Log entry 51. -/
namespace Sys2Proof.Machine
open Sys2Proof

/-- The first refusal among the records of a list that break a rule. -/
def firstBad {α : Type} (l : List α) (reason sec : Nat) (part : α → Option Nat) (bad : α → Bool) : Option CatErr :=
  (l.zipIdx.find? fun e => bad e.1).map fun e => { reason, sec, idx := e.2, part := part e.1 }

/-- One condition of the whole image. -/
def refuseIf (bad : Bool) (reason sec : Nat) (part : Option Nat) : Option CatErr := if bad then some { reason, sec, part } else none

/-- The first refusal of a list of checks. -/
def firstOf (l : List (Option CatErr)) : Option CatErr := l.findSome? id

/-- Valid partitions of a catalogue. -/
def Cat.valid (c : Cat) : List PartRec := c.parts.filter fun p => p.valid

/-- The partition record of a number. -/
def Cat.partRec (c : Cat) (n : Nat) : Option PartRec := c.valid.find? fun p => decide (p.part = n)

/-- Does partition n of a catalogue own cluster l? -/
def Cat.owns (c : Cat) (n l : Nat) : Bool :=
  match c.partRec n with
  | some p => decide (p.first ≤ l) && decide (l < p.first + p.count)
  | none => false

/-- The partition of a cluster. -/
def Cat.partOf (c : Cat) (l : Nat) : Option Nat := (c.valid.find? fun p => c.owns p.part l).map fun p => p.part

/-- The CLUSTER record of a cluster. -/
def Cat.clusterRec (c : Cat) (l : Nat) : Option ClusterRec := c.clusters.find? fun k => decide (k.cluster = l)

/-- A region of a kind, of an owner for kinds 5 to 8. -/
def Cat.region (c : Cat) (kind owner : Nat) : Option RegionRec :=
  c.regions.find? fun r => decide (r.kind = kind) && (decide (kind ≤ 4) || decide (r.owner = owner))

/-- Tick length in ns. -/
def Cat.tickNs (c : Cat) : Nat := 1000 * c.tickUs

/-- Does a range lie inside a region? -/
def inRegion (r : Option RegionRec) (a n : Nat) : Bool :=
  match r with
  | some r => decide (r.base * 2 ^ 20 ≤ a) && decide (a + n ≤ (r.base + r.size) * 2 ^ 20)
  | none => false

/-! The merge of a partial (R292, R309). -/

/-- Records of a type: those of the partial in place of the partition's own, when it carries the type. -/
def mergeRecs {α : Type} (new : Cat) (t : Nat) (old repl : List α) (mine : α → Bool) : List α :=
  if t ∈ new.present then old.filter (fun r => !mine r) ++ repl.filter mine else old

/-- The slot owner, pool owner and so on: is a record the partition's? -/
def Cat.merge (cur new : Cat) : Cat :=
  let n := new.part
  let owns (l : Nat) : Bool := cur.owns n l
  let secs := mergeRecs new 12 cur.sections new.sections fun r => decide (r.part = n)
  let shapes := ((cur.sections ++ new.sections).filter fun r => decide (r.part = n)).map fun r => r.shape
  { cur with
    clusters := mergeRecs new 5 cur.clusters new.clusters fun r => owns r.cluster
    queues := mergeRecs new 6 cur.queues new.queues fun r => owns r.cluster
    leaves := mergeRecs new 7 cur.leaves new.leaves fun r => owns r.cluster
    slots := mergeRecs new 8 cur.slots new.slots fun r => decide (r.part = n)
    mcasts := if 9 ∈ new.present then new.mcasts else cur.mcasts
    fabrics := mergeRecs new 10 cur.fabrics new.fabrics fun r => decide (r.part = n)
    streams := if 11 ∈ new.present then cur.streams.map (fun r => if r.part = n then (new.streams.find? fun x => decide (x.part = n)).getD r else r) else cur.streams
    sections := secs
    precs := mergeRecs new 13 cur.precs new.precs fun r => decide (r.shape ∈ shapes)
    credits := mergeRecs new 14 cur.credits new.credits fun r => owns r.cluster
    services := mergeRecs new 15 cur.services new.services fun r => decide (r.part = n) }

/-! Reasons 3 to 5: partials only. -/

/-- SWAP_BASE. -/
def checkBase (inForce : Bool) (cur new : Cat) : Option CatErr :=
  refuseIf (!inForce || decide (new.catId ≠ cur.catId) || decide (new.baseGen ≠ cur.gen)) 3 0 (some new.part)

/-- SWAP_SCOPE, `want` being the partition whose partial was to be delivered; a multicast record that the partial does not assign to its partition is that in
force, and one that it does was the partition's or nobody's (R292). -/
def checkScope (cur new : Cat) (want : Nat) : Option CatErr :=
  let n := new.part
  let p := some n
  let other (l : Nat) : Bool := !cur.owns n l
  let carries (t : Nat) : Bool := decide (t ∈ new.present)
  firstOf [
    refuseIf (decide (n ≠ want)) 4 0 p,
    refuseIf (carries 1) 4 1 p, refuseIf (carries 2) 4 2 p, refuseIf (carries 3) 4 3 p, refuseIf (carries 4) 4 4 p,
    refuseIf (decide (new.tickUs ≠ cur.tickUs) || decide (new.floorMhz ≠ cur.floorMhz) || decide (new.syncMode ≠ cur.syncMode)
      || decide (new.acceptDegraded ≠ cur.acceptDegraded) || decide (new.refillTicks ≠ cur.refillTicks)) 4 0 p,
    firstBad new.clusters 4 5 (fun _ => p) fun r => other r.cluster,
    firstBad new.queues 4 6 (fun _ => p) fun r => other r.cluster,
    firstBad new.leaves 4 7 (fun _ => p) fun r => other r.cluster,
    firstBad new.slots 4 8 (fun _ => p) fun r => decide (r.part ≠ n),
    if carries 9 then firstBad (new.mcasts.zip cur.mcasts) 4 9 (fun _ => p) fun r =>
      decide (r.1 ≠ r.2) && !(decide (r.1.part = n) && (decide (r.2.part = n) || decide (r.2.part = 255))) else none,
    firstBad new.fabrics 4 10 (fun _ => p) fun r => decide (r.part ≠ n),
    firstBad new.streams 4 11 (fun _ => p) fun r => decide (r.part ≠ n),
    if carries 12 then refuseIf (decide (new.share ≠ cur.share) || decide (new.requireSigned ≠ cur.requireSigned)
      || decide (new.volKeys ≠ cur.volKeys) || decide (new.quotas ≠ cur.quotas)) 4 12 p else none,
    firstBad new.sections 4 12 (fun _ => p) fun r => decide (r.part ≠ n),
    firstBad new.precs 4 13 (fun _ => p) fun r =>
      !((cur.sections ++ new.sections).any fun x => decide (x.part = n) && decide (x.shape = r.shape)),
    firstBad new.credits 4 14 (fun _ => p) fun r => other r.cluster || decide (r.part ≠ n)]

/-- Clusters of a partition. -/
def Cat.clustersOf (c : Cat) (n : Nat) : List Nat := (List.range 128).filter fun l => c.owns n l

/-- The image lead of a partition less its 16 ticks: the largest count of ticks that a cluster's new code takes (R316). -/
def imageTicks (cur new : Cat) (n : Nat) : Nat :=
  ((cur.clustersOf n).map fun l =>
    let code := match new.leaves.find? fun b => decide (b.cluster = l) with
      | some b => sumNat (b.cores.map fun c => c.len)
      | none => 0
    let bytes := match cur.slots.find? fun e => decide (e.kind = 8) && decide (e.dst = l) with
      | some e => e.bytes
      | none => 1
    ceilDiv code bytes).foldl Nat.max 0

/-- The image lead of R316. -/
def imageLead (cur new : Cat) : Nat := imageTicks cur new new.part + 16

/-- May a cluster of the partition not take the partial's images (R309, SWAP_IMAGES)? -/
def imageBad (cur new : Cat) (l : Nat) : Bool :=
  match cur.clusterRec l, (cur.merge new).clusterRec l with
  | some o, some k => !o.swap || !(cur.slots.any fun e => decide (e.kind = 8) && decide (e.dst = l)) || decide (o.freeCycles < 2048)
      || decide (k.imgAddr ≠ o.swapAddr)
  | _, _ => true

/-- SWAP_IMAGES, against the catalogue in force; the record is the cluster's in the partial, else in the catalogue in force (R310). -/
def checkImages (cur new : Cat) : Option CatErr :=
  let p := some new.part
  let recs := if 5 ∈ new.present then new.clusters else cur.clusters
  firstOf [
    ((cur.clustersOf new.part).find? (imageBad cur new)).map fun l =>
      { reason := 5, sec := 5, idx := (recs.findIdx? fun k => decide (k.cluster = l)).getD 0, part := p },
    refuseIf (decide (16777216 < imageLead cur new)) 5 7 p]

/-! Reasons 6 to 9. -/

/-- PARTITION_LAYOUT. -/
def checkPartitions (s : State) (c : Cat) : Option CatErr :=
  firstBad c.parts 6 1 (fun p => some p.part) fun p => p.valid &&
    (decide (p.count = 0) || decide (128 < p.first + p.count)
      || (c.valid.any fun q => decide (q.part ≠ p.part) && decide (q.first < p.first + p.count) && decide (p.first < q.first + q.count))
      || !(c.hosts.any fun h => decide (h.port = p.host) && h.enabled)
      || (!c.acceptDegraded && (List.range p.count).any fun i => decide (s.fld (clStatusMap (p.first + i)) ≠ 0)))

/-- Do two ranges, each given as its begin and its end, share a part? An empty one shares none. -/
def meets (a b : Nat × Nat) : Bool := decide (Nat.max a.1 b.1 < Nat.min a.2 b.2)

/-- PROTECTION. -/
def checkProtection (c : Cat) : Option CatErr :=
  let on := c.hosts.filter fun h => h.enabled
  firstOf [
    refuseIf (decide (1 < (c.hosts.filter fun h => h.control).length)) 7 2 none,
    firstBad c.hosts 7 2 (fun _ => none) fun h => h.enabled && on.any fun g => decide (g.port ≠ h.port)
      && meets (g.tenantFirst, g.tenantFirst + g.tenantCount) (h.tenantFirst, h.tenantFirst + h.tenantCount),
    firstBad c.tenants 7 4 (fun _ => none) fun t =>
      !(on.any fun h => decide (h.tenantFirst ≤ t.tenant) && decide (t.tenant < h.tenantFirst + h.tenantCount))]

/-- REGION_LAYOUT (R212, R295). -/
def checkRegions (c : Cat) : Option CatErr :=
  (c.regions.zipIdx.find? fun e =>
    let r := e.1
    !within 1 8 r.kind || decide (r.size = 0) || decide (r.base < 2048) || decide (0x90000 < r.base + r.size)
      || (if r.kind ≤ 4 then decide (r.owner ≠ 255) else decide (15 < r.owner))
      || c.regions.zipIdx.any fun f => decide (f.2 ≠ e.2) &&
        ((decide (f.1.base < r.base + r.size) && decide (r.base < f.1.base + f.1.size)) || (decide (f.1.kind = r.kind) && decide (f.1.owner = r.owner)))).map
    fun e => { reason := 8, sec := 3, idx := e.2, part := if e.1.owner ≤ 15 then some e.1.owner else none }

/-- SYNC_MODE (R309, R396, R413, R419, R420). -/
def checkSync (s : State) (c : Cat) : Option CatErr :=
  let m := c.syncMode
  let am := s.flag fbCoordAmode
  let plane := decide (s.fld fbCoordDzm1 ≠ 0) || am
  let express := [6, 7].any fun p => decide (s.fld (fbPlanNeighbourKind p) ≠ 0) && decide (s.fld (fbPlanNeighbourRole p) = 1)
  let size := s.dimOf 0 * s.dimOf 1 * s.dimOf 2
  firstOf [
    refuseIf (decide (m = 2) && decide (c.tickUs % 8 ≠ 0)) 9 0 none,
    refuseIf (decide (m = 0) && !c.fabrics.isEmpty) 9 10 none,
    refuseIf (decide (m ≠ 0) && !s.flag fbCoordValid) 9 0 none,
    firstBad c.fabrics 9 10 (fun f => some f.part) fun f => !am && decide (f.cls = 2),
    refuseIf (!am && decide (512 < size)) 9 0 none,
    refuseIf (decide (m = 2) && (plane || express)) 9 0 none,
    firstBad c.fabrics 9 10 (fun f => some f.part) fun f => decide (m = 2) && decide (4 ≤ f.port),
    refuseIf (decide (m = 3) && (plane || !s.flag fbBridgeIdValid || decide (c.tickUs % 8 ≠ 0))) 9 0 none,
    refuseIf (decide (m = 3) && [4, 5, 6, 7].any fun p => decide (s.fld (fbPlanNeighbourKind p) ≠ 0)
      && decide (s.fld (fbPlanNeighbourDomain p) ≠ s.fld fbBridgeIdNativeDomain)) 9 0 none]

/-- FAR selects a fabric port. -/
def farPort (r : SlotRec) : Option Nat := if (r.kind = 2 ∨ r.kind = 3) ∧ r.far / 2 ^ 62 % 4 = 2 then some (r.far % 8) else none

/-- PORT_PLAN. -/
def checkPorts (s : State) (c : Cat) : Option CatErr :=
  if c.acceptDegraded then none
  else firstOf [
    firstBad c.fabrics 10 10 (fun f => some f.part) fun f => decide (s.fbState f.port = portQuarantined),
    firstBad c.slots 10 8 (fun r => some r.part) fun r => match farPort r with | some p => decide (s.fbState p = portQuarantined) | none => false]

/-! Reasons 11 and 12. -/

/-- Fields of a QM_QCFG value. -/
def cfgSource (v : W64) : Nat := bitsOf v.toNat 61 2
/-- See `cfgSource`. -/
def cfgQuota (v : W64) : Nat := bitsOf v.toNat 33 16
/-- See `cfgSource`. -/
def cfgRes (v : W64) : Nat := bitsOf v.toNat 17 16

/-- Does an entry deliver the packets of a credit pool? -/
def fromPool (r : SlotRec) : Bool := decide (r.kind = 3) && decide (r.far / 2 ^ 62 % 4 = 3)

/-- The queue an entry names as (cluster, queue). -/
def queueOf (r : SlotRec) : Option (Nat × Nat) := if r.dstQueue ∧ r.kind ≠ 2 ∧ r.kind ≠ 5 then some (r.dst, r.dstAddr % 512) else none

/-- QUEUE_CONFIG: a cluster without a pool has no staging cells (DEDUCED, log entry 51); an entry that delivers a credit pool's packets may name only
the queue of its CREDIT record (R150, R299, R306). -/
def checkQueues (c : Cat) : Option CatErr :=
  firstOf [
    firstBad c.clusters 11 5 (fun k => c.partOf k.cluster) fun k =>
      decide (64 < k.poolBase + k.poolBanks)
        || (if k.poolBanks = 0 then decide (k.stageCells ≠ 0) else decide (2048 * k.poolBanks ≤ k.stageCells)),
    firstBad c.queues 11 6 (fun q => c.partOf q.cluster) fun q => decide (cfgSource q.cfg = 3)
      || match c.clusterRec q.cluster with | some k => decide (k.poolBanks = 0) | none => true,
    firstBad c.slots 11 8 (fun r => some r.part) fun r =>
      match queueOf r with
      | some (l, q) =>
        if fromPool r then !(c.credits.any fun x => decide (x.pool = r.far % 2 ^ 15) && decide (x.cluster = l) && decide (x.queue = q))
        else !(c.queues.any fun x => decide (x.cluster = l) && decide (x.q = q) && decide (cfgSource x.cfg = 1))
      | none => false,
    firstBad c.queues 11 6 (fun q => c.partOf q.cluster) fun q => decide (cfgSource q.cfg = 2) && q.cfg.getLsbD 63 &&
      decide ((c.credits.filter fun x => decide (x.cluster = q.cluster) && decide (x.queue = q.q)).length ≠ 1)]

/-- LEAF_BOUND. -/
def checkLeaves (c : Cat) : Option CatErr :=
  firstBad c.leaves 12 7 (fun b => c.partOf b.cluster) fun b =>
    decide (c.tickNs < b.resEnd + 1000) || decide (c.tickNs < b.latest + 1000)
      || b.cores.any fun k => !within 4 32768 k.len || decide (k.len % 4 ≠ 0) || decide (k.code % 64 ≠ 0) || decide (b.code.length < k.code + k.len)
        || decide (crc32c (bytesAt b.code k.code k.len) ≠ k.check)

/-! Reason 13: the mesh, the gates and the ring. -/

/-- A place on the mesh: column + 1 (0 the west gate, 17 the east gate) and row. -/
abbrev Place := Nat × Nat

/-- The place of a logical cluster (R21). -/
def placeOf (l : Nat) : Place := (l % 16 + 1, l / 16)

/-- One hop in a direction (R299): 0 +x, 1 −x, 2 +y, 3 −y; none off the mesh and its gates. -/
def hopTo (p : Place) (d : Nat) : Option Place :=
  match d with
  | 0 => if p.1 < 17 then some (p.1 + 1, p.2) else none
  | 1 => if 0 < p.1 then some (p.1 - 1, p.2) else none
  | 2 => if p.2 < 7 then some (p.1, p.2 + 1) else none
  | _ => if 0 < p.2 then some (p.1, p.2 - 1) else none

/-- Is a place a cluster? -/
def onMesh (p : Place) : Bool := within 1 16 p.1 && decide (p.2 ≤ 7)

/-- Direction of hop k of a path. -/
def pathDir (path k : Nat) : Nat := path / 4 ^ k % 4

/-- The places a path passes, its start first; none where it leaves the mesh. A gate can only be the first or the last. -/
def walk (path : Nat) : Nat → Nat → Place → Option (List Place)
  | 0, _, p => some [p]
  | n + 1, k, p =>
    match hopTo p (pathDir path k) with
    | none => none
    | some q =>
      if n ≠ 0 ∧ !onMesh q then none
      else (walk path n (k + 1) q).map fun l => p :: l

/-- The place from which a path of n hops reaches another, walked backwards. -/
def walkBack (path : Nat) : Nat → Place → Option Place
  | 0, p => some p
  | n + 1, p =>
    let d := pathDir path n
    match hopTo p (if d % 2 = 0 then d + 1 else d - 1) with
    | none => none
    | some q => walkBack path n q

/-- Does an entry leave a cluster by the mesh? -/
def leaving (r : SlotRec) : Bool := decide (r.kind = 1) || decide (r.kind = 2) || decide (r.kind = 5)

/-- The places of an entry's path, where it is a path from its source to its end (R299). -/
def pathPlaces (r : SlotRec) : Option (List Place) :=
  let gateCol := if r.east then 17 else 0
  if leaving r then
    match walk r.path r.hops 0 (placeOf r.src) with
    | none => none
    | some l =>
      match l.getLast? with
      | none => none
      | some e => if (if r.kind = 1 then decide (e = placeOf r.dst) else decide (e.1 = gateCol)) then some l else none
  else
    match walkBack r.path r.hops (placeOf r.dst) with
    | none => none
    | some p => if p.1 = gateCol then walk r.path r.hops 0 p else none

/-- A window on a link direction (R300): sending place, direction, begin, end. -/
abbrev Window := (Place × Nat) × Nat × Nat

/-- H, the ns of a hop at the frequency floor (R300). -/
def Cat.hopNs (c : Cat) : Nat := ceilDiv 2000 c.floorMhz

/-- Windows of an entry along its path. -/
def pathWindows (c : Cat) (r : SlotRec) : List Window :=
  match pathPlaces r with
  | none => []
  | some l => (List.range r.hops).map fun k =>
      ((l.getD k (0, 0), pathDir r.path k), r.start + k * c.hopNs, r.start + k * c.hopNs + r.length)

/-- The place a cluster of a tree receives from, with the direction of travel (R301). -/
def treeUp (l v : Nat) : Option (Place × Nat) :=
  match v with
  | 0 => (hopTo (placeOf l) 1).map fun p => (p, 0)
  | 1 => (hopTo (placeOf l) 0).map fun p => (p, 1)
  | 2 => (hopTo (placeOf l) 3).map fun p => (p, 2)
  | 3 => (hopTo (placeOf l) 2).map fun p => (p, 3)
  | _ => none

/-- Depth of a cluster in a tree: links from the lead; none when its parents do not reach the lead. -/
def treeDepth (m : McastRec) : Nat → Nat → Option Nat
  | 0, _ => none
  | n + 1, l =>
    if l = m.lead then (if m.parent.getD l 255 = 0xFE then some 0 else none)
    else match treeUp l (m.parent.getD l 255) with
      | some (p, _) => if onMesh p then (treeDepth m n (p.1 - 1 + 16 * p.2)).map (· + 1) else none
      | none => none

/-- Windows of a multicast entry: one on each tree link at its depth (R300). -/
def treeWindows (c : Cat) (r : SlotRec) : List Window :=
  match c.mcasts.find? fun m => decide (m.tree = r.tree) with
  | none => []
  | some m => (List.range 128).filterMap fun l =>
      if l = m.lead then none
      else match treeUp l (m.parent.getD l 255), treeDepth m 128 l with
        | some (p, d), some (k + 1) => some ((p, d), r.start + k * c.hopNs, r.start + k * c.hopNs + r.length)
        | _, _ => none

/-- Every window of an entry. -/
def windowsOf (c : Cat) (r : SlotRec) : List Window := if r.kind = 4 then treeWindows c r else pathWindows c r

/-- LENGTH needed by an entry (R131, R300). -/
def needLength (c : Cat) (r : SlotRec) : Nat := ceilDiv ((ceilDiv r.bytes 64 + 2 * r.hops) * 1000) c.floorMhz

/-- May a row gate use the range an entry names (R213)? -/
def gateRange (c : Cat) (r : SlotRec) : Bool :=
  let a := bitsOf r.far 0 40
  if (r.kind = 2 ∨ r.kind = 3) ∧ r.far / 2 ^ 62 % 4 = 0 then decide (a % 64 = 0) && c.gateMay r.part (decide (r.kind = 3)) a r.bytes else true

/-- Stop of row gate, controller, stack and stream engine n on the perimeter ring (R37). -/
def stopOf (n : Nat) : Nat := if n % 2 = 1 then 5 + (15 - n) / 2 else 21 + n / 2

/-- Segments between two stops by the shorter way (R39), as 2 × segment + (1 counter-clockwise); segment i joins stops i and i + 1. -/
def ringPath (a b : Nat) : List Nat :=
  let cw := (b + 29 - a) % 29
  let ccw := (a + 29 - b) % 29
  if cw ≤ ccw then (List.range cw).map fun i => 2 * ((a + i) % 29)
  else (List.range ccw).map fun i => 2 * ((a + 28 - i) % 29) + 1

/-- Stacks that a range touches (R44). -/
def stacksOf (a n : Nat) : List Nat :=
  if 16 ≤ n / 65536 then List.range 16
  else (List.range 16).filter fun s => (List.range ((a + n - 1) / 65536 - a / 65536 + 1)).any fun i => decide ((a / 65536 + i) % 16 = s)

/-- Ring segments an entry loads, each with its share of the gate's rate in 1/720,720 (R39); the far end of a credit pool is the port or engine of its
CREDIT record (R306); entries whose HBM address the table does not name spread over all sixteen stacks. -/
def ringShare (c : Cat) (r : SlotRec) (gate : Nat) : List (Nat × Nat) :=
  let g := stopOf gate
  let seg (far : Nat) : List Nat := if leaving r then ringPath g far else ringPath far g
  let engine (n : Nat) : List (Nat × Nat) := (seg (stopOf (n % 16))).map fun x => (x, 720720)
  let port (n : Nat) : List (Nat × Nat) := (seg (20 - n % 8)).map fun x => (x, 720720)
  let hbm (l : List Nat) : List (Nat × Nat) :=
    ((l.filter fun s => decide (s ≠ gate)).map fun s => (seg (stopOf s)).map fun x => (x, 720720 / l.length)).flatten
  match r.kind with
  | 2 | 3 =>
    match r.far / 2 ^ 62 % 4 with
    | 0 => hbm (stacksOf (bitsOf r.far 0 40) r.bytes)
    | 1 => engine r.far
    | 2 => port r.far
    | _ => match c.credits.find? fun x => decide (x.pool = r.far % 2 ^ 15) with
      | some x => if x.source = 0 then port x.id else engine x.id
      | none => []
  | 5 | 6 | 7 | 8 => hbm (List.range 16)
  | _ => []

/-- The window of an entry at its row gate, with the gate's number (R37). -/
def gateWindow (c : Cat) (r : SlotRec) : Option (Nat × Nat × Nat) :=
  if r.kind = 1 ∨ r.kind = 4 then none
  else
    let w := pathWindows c r
    match (if leaving r then w.getLast? else w.head?), pathPlaces r with
    | some x, some l =>
      let p := if leaving r then l.getLastD (0, 0) else l.headD (0, 0)
      some (2 * p.2 + bitNat r.east, x.2.1, x.2.2)
    | _, _ => none

/-- Does the load of some ring segment pass 204.8 GB/s at some instant (R39)? Loads rise only where a window begins. -/
def ringOver (c : Cat) : Bool :=
  let l := c.slots.filterMap fun r => (gateWindow c r).map fun g => (g.2, ringShare c r g.1)
  l.any fun at_ => (List.range 58).any fun x =>
    decide (204800 * 720720 < sumNat (l.map fun o => if o.1.1 ≤ at_.1.1 ∧ at_.1.1 < o.1.2 then
      64 * c.floorMhz * sumNat ((o.2.filter fun y => decide (y.1 = x)).map fun y => y.2) else 0))

/-- Does an entry name a cluster of another partition (R132)? -/
def foreignEnd (c : Cat) (r : SlotRec) : Bool :=
  (leaving r || decide (r.kind = 4)) && !c.owns r.part r.src || (decide (r.kind ≠ 2) && decide (r.kind ≠ 4) && decide (r.kind ≠ 5)) && !c.owns r.part r.dst

/-- Buffers of an entry inside cluster memory. -/
def buffersIn (r : SlotRec) : Bool :=
  (!(leaving r || decide (r.kind = 4)) || decide (r.kind = 5) || decide (r.srcAddr + r.bytes ≤ clMemSize))
    && (decide (r.kind ≠ 1) && decide (r.kind ≠ 3) || r.dstQueue || fromPool r || decide (r.dstAddr + r.bytes ≤ clMemSize))

/-- Is the layout of a service wrong (R342): its input or output area, its cohort tables against pools and image areas (those of a swap included), an engine
without a decode slot of the partition? -/
def serviceBad (c : Cat) (v : ServiceRec) : Bool :=
  !inRegion (c.region 6 v.part) v.inputAddr (v.maxOpen * 2 * v.chunkMax)
    || !inRegion (c.region 7 v.part) v.outAddr (2 * v.batch * (v.maxUnits * ceilDiv v.unitBytes 32) * 64)
    || ((c.clustersOf v.part).any fun l => match c.clusterRec l with
      | some k =>
        let a := (v.batchAddr, v.batchAddr + v.stages * v.batch * 32)
        decide (clMemSize < a.2) || meets a (k.poolBase * 131072, (k.poolBase + k.poolBanks) * 131072) || meets a (k.imgAddr, k.imgAddr + 2 ^ 20)
          || (k.swap && meets a (k.swapAddr, k.swapAddr + 2 ^ 20))
      | none => false)
    || (setBits 16 v.engines).any fun i => match c.streams.find? fun x => decide (x.part = v.part) && x.valid with
      | some x => (x.slots.getD i []).isEmpty
      | none => true

/-- The time in which an entry has its queue (R152). DESIGN CHOICE (log entry 51): from START until the last word of a slot that runs its whole length has
crossed its last hop; the spec does not say which time counts. -/
def queueTime (c : Cat) (r : SlotRec) : Nat × Nat := (r.start, r.start + r.hops * c.hopNs + r.length)

/-- SLOT_TABLE (R39, R132, R152, R213, R299, R300, R302, R342, R383). -/
def checkSlots (c : Cat) : Option CatErr :=
  let ws := c.slots.map fun r => (r, windowsOf c r)
  let own (r : SlotRec) : Option Nat := some r.part
  firstOf [
    firstBad c.slots 13 8 own fun r => decide ((c.slots.filter fun x => decide (x.entry = r.entry)).length ≠ 1),
    firstBad ws 13 8 (fun e => own e.1) fun e => ws.any fun f => decide (f.1.entry ≠ e.1.entry) &&
      e.2.any fun a => f.2.any fun b => decide (a.1 = b.1) && meets a.2 b.2,
    firstBad ws 13 8 (fun e => own e.1) fun e => e.2.any fun a => decide (c.tickNs < a.2.2 + 1000),
    firstBad c.slots 13 8 own fun r => decide (r.length < needLength c r),
    firstBad c.slots 13 8 own fun r => decide (r.kind ≠ 4) && (pathPlaces r).isNone,
    firstBad c.slots 13 8 own fun r => foreignEnd c r || !buffersIn r,
    firstBad c.slots 13 8 own fun r => !gateRange c r,
    firstBad ws 13 8 (fun e => own e.1) fun e => (queueOf e.1).isSome && ws.any fun f =>
      decide (f.1.entry ≠ e.1.entry) && decide (queueOf f.1 = queueOf e.1) && meets (queueTime c e.1) (queueTime c f.1),
    refuseIf (ringOver c) 13 8 none,
    firstBad c.fabrics 13 10 (fun f => some f.part) fun f => !within 1 2 f.cls || decide (c.tickNs < f.start + f.length + 1000)
      || decide (256 < (c.fabrics.filter fun g => decide (g.port = f.port)).length),
    firstBad c.fabrics.zipIdx 13 10 (fun f => some f.1.part) fun f => c.fabrics.zipIdx.any fun g => decide (g.2 ≠ f.2) && decide (g.1.port = f.1.port)
      && meets (f.1.start, f.1.start + f.1.length) (g.1.start, g.1.start + g.1.length),
    firstBad c.services 13 15 (fun v => some v.part) (serviceBad c)]

/-! Reasons 14 to 18. -/

/-- MULTICAST (R134, R301). -/
def checkMulticast (c : Cat) : Option CatErr :=
  firstOf [
    firstBad c.mcasts 14 9 (fun m => some m.part) fun m => decide (m.part ≠ 255) &&
      ((treeDepth m 1 m.lead).isNone || !c.owns m.part m.lead
        || (m.members.any fun l => !c.owns m.part l || (treeDepth m 128 l).isNone)
        || (List.range 128).any fun l => decide (m.parent.getD l 255 ≠ 255) && (treeDepth m 128 l).isNone),
    firstBad c.slots 14 8 (fun r => some r.part) fun r => decide (r.kind = 4) &&
      !(c.mcasts.any fun m => decide (m.tree = r.tree) && decide (m.part = r.part) && decide (m.lead = r.src))]

/-- Starts of a cluster's ARB entries in time order. -/
def arbStarts (c : Cat) (l : Nat) : List Nat :=
  sortBy id ((c.slots.filter fun r => decide (r.kind = 7) && decide (r.dst = l)).map fun r => r.start)

/-- The largest gap between consecutive ARB entries, the last of a tick to the first of the next included (R309). -/
def arbGap (c : Cat) (l : Nat) : Nat :=
  match arbStarts c l with
  | [] => c.tickNs + 1
  | a :: r => (((a :: r).zip (r ++ [a + c.tickNs])).map fun e => e.2 - e.1).foldl Nat.max 0

/-- Clusters that hold a slot of a section. -/
def sectionClusters (x : SectionRec) : List Nat := (x.slots.map fun k => k / 512).eraseDups

/-- ARBITRATION (R194): ARB_BUF outside the cell pool, slots that carry a group block each. -/
def checkArb (c : Cat) : Option CatErr :=
  firstBad c.sections 15 12 (fun x => some x.part) fun x => (sectionClusters x).any fun l =>
    match c.clusterRec l with
    | some k => !k.arb || decide (8000 < k.arbPeriod) || decide (k.arbPeriod < arbGap c l)
        || meets (k.arbBuf, k.arbBuf + blockBytes) (k.poolBase * 131072, (k.poolBase + k.poolBanks) * 131072)
        || c.slots.any fun r => decide (r.kind = 7) && decide (r.dst = l) && decide (r.bytes ≠ blockBytes)
    | none => true

/-- Cells that an entry delivers into a queue (R165, R299). -/
def entryCells (r : SlotRec) : Nat := r.bytes / 4096 * ceilDiv 4096 56 + ceilDiv (r.bytes % 4096) 56

/-- Cells that all entries naming a queue deliver in one tick. -/
def cellsNaming (c : Cat) (l q : Nat) : Nat := sumNat ((c.slots.filter fun r => decide (queueOf r = some (l, q)) && !fromPool r).map entryCells)

/-- Cells that the slots of one tick can deliver to a cluster's queues (R165), those of its credit pools included. -/
def cellsCome (c : Cat) (l : Nat) : Nat :=
  sumNat ((c.slots.filter fun r => decide (r.dst = l) && ((queueOf r).isSome || fromPool r)).map entryCells)

/-- The conditions of R165 for one partition, in order. -/
def checkBin (c : Cat) (n : Nat) : Option CatErr :=
  let own (_ : QueueRec) : Option Nat := some n
  let mine (q : QueueRec) : Bool := c.owns n q.cluster
  firstOf [
    firstBad c.queues 16 6 own fun q => mine q && decide (cfgSource q.cfg = 2) &&
      decide (cfgQuota q.cfg < sumNat ((c.credits.filter fun x => decide (x.cluster = q.cluster) && decide (x.queue = q.q)).map fun x => x.capacity)),
    firstBad c.queues 16 6 own fun q => mine q && decide (cfgSource q.cfg = 1) &&
      (decide (cfgQuota q.cfg < cellsNaming c q.cluster q.q) || decide (cfgRes q.cfg < cellsNaming c q.cluster q.q)),
    refuseIf (decide ((match c.region 5 n with | some r => r.size * 2 ^ 20 / 64 | none => 0)
      < sumNat ((c.queues.filter mine).map fun q => cfgQuota q.cfg))) 16 6 (some n),
    firstBad c.clusters 16 5 (fun _ => some n) fun k => c.owns n k.cluster &&
      let fed := c.queues.any fun q => decide (q.cluster = k.cluster) && within 1 2 (cfgSource q.cfg)
      let carries (t : Nat) : Bool := c.slots.any fun r => decide (r.kind = t) && decide ((if t = 5 then r.src else r.dst) = k.cluster)
        && decide (k.stageCells * 64 ≤ r.bytes)
      fed && (decide (k.stageCells < cellsCome c k.cluster) || !carries 5 || !carries 6)]

/-- RETURNS_BIN_CAPACITY: partition by partition (R165). -/
def checkBins (c : Cat) : Option CatErr := c.valid.findSome? fun p => checkBin c p.part

/-- Is array slot x of a cluster a lending-pool slot under SHARE (R234)? -/
def poolSlot (share x : Nat) : Bool := decide (16 ≤ x % 16 + share)

/-- SECTION_LAYOUT (R239, R305). -/
def checkSections (s : State) (c : Cat) : Option CatErr :=
  firstBad c.sections.zipIdx 17 12 (fun e => some e.1.part) fun e =>
    let x := e.1
    let size := x.tiles * tileBytes + x.blobBytes
    decide (x.slots.length ≠ x.tiles)
      || (x.slots.any fun k => !c.owns x.part (k / 512) || (!c.acceptDegraded && decide (s.fld (clStatusMap (k / 512)) ≠ 0))
        || decide (poolSlot c.share (k % 512) = x.resident))
      || decide (x.slots.eraseDups.length ≠ x.slots.length)
      || (c.sections.zipIdx.any fun f => decide (f.2 ≠ e.2) && (decide (f.1.sec = x.sec) || (f.1.slots.any fun k => decide (k ∈ x.slots))
        || meets (f.1.masterAddr, f.1.masterAddr + f.1.tiles * tileBytes + f.1.blobBytes) (x.masterAddr, x.masterAddr + size)))
      || !inRegion (c.region 2 0) x.masterAddr size
      || !(c.precs.any fun p => decide (p.shape = x.shape))

/-- STREAM_LAYOUT (R217, R303). -/
def checkStreams (c : Cat) : Option CatErr :=
  let on := c.streams.filter fun x => x.valid
  firstBad c.streams 18 11 (fun x => some x.part) fun x => x.valid &&
    ((c.partRec x.part).isNone || !within 1 64 x.layers || !within 1 1024 x.ctxMax || decide (x.hkv = 0) || decide (x.hq % x.hkv ≠ 0) || decide (x.hq = 0)
      || !((List.range 9).any fun k => decide (x.hkv * x.dhead = 2 ^ (6 + k)))
      || ((List.range 16).any fun i =>
        let f := x.frames.getD i (0, 0)
        decide (f.2 ≠ 0) && !(match c.region 3 0 with | some r => decide (r.base ≤ f.1) && decide (f.1 + f.2 ≤ r.base + r.size) | none => false)
          || on.any fun y => decide (y.part ≠ x.part) && (meets (f.1, f.1 + f.2) ((y.frames.getD i (0, 0)).1, (y.frames.getD i (0, 0)).1 + (y.frames.getD i (0, 0)).2)
            || (y.slots.getD i []).any fun k => decide (k ∈ x.slots.getD i []))))

/-- FORMAT conditions on the records of a whole catalogue: a service of a partition that is not VALID, or twice (R342); owned clusters that have not one
CLUSTER record and one leaf block each (R292, R298; DESIGN CHOICE, log entry 51: the reason is FORMAT). -/
def checkServices (c : Cat) : Option CatErr :=
  let owned := (List.range 128).filter fun l => (c.partOf l).isSome
  let missing (f : Nat → Nat) : Option Nat := owned.find? fun l => decide (f l ≠ 1)
  let name (t l : Nat) : CatErr := { reason := 2, sec := t, part := c.partOf l }
  firstOf [
    firstBad c.services 2 15 (fun v => some v.part) fun v => (c.partRec v.part).isNone
      || decide ((c.services.filter fun w => decide (w.service = v.service)).length ≠ 1),
    (missing fun l => (c.clusters.filter fun k => decide (k.cluster = l)).length).map (name 5),
    (missing fun l => (c.leaves.filter fun b => decide (b.cluster = l)).length).map (name 7)]

/-- FORMAT conditions on a partial's own records: a service of another partition (R342), a type that has a record for each of its clusters without one
(R292; log entry 51). -/
def checkOwn (cur new : Cat) : Option CatErr :=
  let p := some new.part
  let lacks (t : Nat) (f : Nat → Bool) : Bool := decide (t ∈ new.present) && (cur.clustersOf new.part).any fun l => !f l
  firstOf [
    refuseIf (lacks 5 fun l => new.clusters.any fun k => decide (k.cluster = l)) 2 5 p,
    refuseIf (lacks 7 fun l => new.leaves.any fun b => decide (b.cluster = l)) 2 7 p,
    firstBad new.services 2 15 (fun _ => p) fun v => decide (v.part ≠ new.part)]

/-- Every check after FORMAT, SWAP_BASE, SWAP_SCOPE and SWAP_IMAGES, in order (R309). -/
def checkRest (s : State) (c : Cat) : Option CatErr :=
  firstOf [checkPartitions s c, checkProtection c, checkRegions c, checkSync s c, checkPorts s c, checkQueues c, checkLeaves c, checkSlots c,
    checkMulticast c, checkArb c, checkBins c, checkSections s c, checkStreams c]

/-- The catalogue keys the custodian holds (R291, R523). -/
def State.catKeys (s : State) : List (List Byte) := s.cu.em.keySet.take 4

/-- A full image checked (R309): the catalogue, or the first refusal. -/
def State.checkFull (s : State) (img : List Byte) : Except CatErr Cat :=
  match Cat.parse s.catKeys img with
  | .error e => .error e
  | .ok c =>
    if c.partial_ then .error { reason := 2 }
    else match firstOf [checkServices c, checkRest s c] with
      | some e => .error e
      | none => .ok c

/-- A partial image delivered for a partition, checked as the catalogue in force with it merged (R309): the partial, or the first refusal. -/
def State.checkPartial (s : State) (want : Nat) (img : List Byte) : Except CatErr Cat :=
  match Cat.parse s.catKeys img with
  | .error e => .error e
  | .ok c =>
    if !c.partial_ then .error { reason := 2 }
    else
      let cur := s.ctg
      let m := cur.merge c
      let whole := if s.cat.cur.isSome then firstOf [checkOwn cur c, checkServices m] else none
      match firstOf [whole, checkBase s.cat.cur.isSome cur c, checkScope cur c want, checkImages cur c, checkRest s m] with
      | some e => .error e
      | none => .ok c

end Sys2Proof.Machine
end

