-- ==== Sys2Proof/Machine/Shelver.lean ====
section
/-! DEFINITION. The shelver's commands on crossbars: placement, tile writes, readbacks, twins, re-verify, master restore, core
substitution (R29 to R34, R252 to R261, R270 to R276), and its queries (R280). Log entries 34 to 37. -/
namespace Sys2Proof.Machine
open Sys2Proof

/-- PLACEMENT_DEMAND: the demands up to that of volume h are served in order (R252, R253, R279). -/
def execPlacementDemand (h : Nat) (s : State) : Host.Outcome State Fault Refusal :=
  .next (
    if h ∈ s.sh.demands then s.serveDemands (s.sh.demands.takeWhile (fun e => decide (e ≠ h)) ++ [h])
    else s)

/-- Image of a slot's tile as its master copy holds it now. -/
def State.masterImage (s : State) (x : Nat) : Option (List Byte) :=
  (s.sectionOf x).map fun e => s.bytes (e.1.tileAddr e.2) tileBytes

/-- Precision of what a write gives a crossbar: of the volume's tile, or the slot's. -/
def State.writePrec (s : State) (p : PhysXb) : Nat :=
  if p.writeFor = .placement then (s.vol p.handle).precOf p.tile else s.slotPrec p.forXb

/-- A write ends with every cell inside its window (R257): the cells hold the tile. -/
def State.writePasses (s : State) (n : Nat) : State :=
  let p := s.phys n
  let s := match s.masterImage p.forXb with
    | some img => s.writeTile n (s.writePrec p) img
    | none => s
  let s := if p.writeFor = .twin ∨ p.writeFor = .substitution then s.copyTrims (s.servingXb p.forXb) n else s
  s.modPhys n fun q => { q with passed := true, stale := false, overdue := false, reverified := some s.tick }

/-- After a failed write: what it was for waits again, and a placement's tile goes into a reserve (R257); `weed` has applied R33 where the core has no
reserve left. -/
def State.retryWrite (s : State) (p : PhysXb) : State :=
  if p.writeFor = .placement then
    s.modVol p.handle fun v => { v with
      begun := v.begun.filter fun t => decide (t ≠ p.tile), done := v.done.filter fun e => decide (e.1 ≠ p.tile)
      differ := v.differ ++ [p.tile], failed := v.failed ++ [p.tile] }
  else s

/-- TILE_WRITE_COMPLETE: a program-and-verify write passes, or fails and weeds its crossbar with cause WRITE_FAIL (R257). -/
def execTileWriteComplete (n : PxbId) (passed : Bool) (s : State) : Host.Outcome State Fault Refusal :=
  .next (
    let p := s.phys n
    if p.st = .writing ∧ !p.passed then
      let s := if passed then
          let s := s.writePasses n
          if p.writeFor = .placement then
            s.modVol p.handle fun v => if v.st = .placing ∧ p.tile ∈ v.begun then { v with done := v.done ++ [(p.tile, n.val)] } else v
          else s
        else (s.weed n .writeFail).retryWrite p
      s.startWork
    else s)

/-- READBACK_COMPLETE: a readback of a retained tile matches the library image, which completes the tile, or differs, which calls for a
write (R255, R278). -/
def execReadbackComplete (n : PxbId) (matched : Bool) (s : State) : Host.Outcome State Fault Refusal :=
  .next (
    let p := s.phys n
    if p.reading ∧ p.st ≠ .held then
      let s := s.modPhys n fun q => { q with reading := false }
      let s := s.modVol p.handle fun v =>
        if v.st = .placing ∧ p.tile ∈ v.begun then
          if matched then { v with done := v.done ++ [(p.tile, n.val)] }
          else { v with begun := v.begun.filter fun t => decide (t ≠ p.tile), differ := v.differ ++ [p.tile] }
        else v
      s.startWork
    else s)

/-- TWIN_WRITE_COMPLETE: the twin of a slot is written; it serves from the next boundary (R270), or is weeded and another reserve is
taken. -/
def execTwinWriteComplete (x : XbId) (passed : Bool) (s : State) : Host.Outcome State Fault Refusal :=
  .next (match s.writeOf x .twin with
    | none => s
    | some n =>
      if (s.phys n).passed then s
      else
        let p := s.phys n
        let s := if passed then s.writePasses n else (s.weed n .writeFail).retryWrite p
        s.startWork)

/-- DRIFT_REVERIFY: the held original of a twinned slot is re-verified: it passes, cells pulsed or not, or is weeded with cause DRIFT
(R270, R271, R469 step 1). One held for recalibration stays held. -/
def execDriftReverify (x : XbId) (pulsed reached : Bool) (s : State) : Host.Outcome State Fault Refusal :=
  .next (
    let n := s.mappedXb x
    if (s.phys n).st = .held ∧ (s.phys n).reading ∧ (s.phys n).cause.isNone then
      let s := s.modPhys n fun p => { p with writes := p.writes + bitNat pulsed, reading := false, checked := true }
      let s := if reached then
          s.modPhys n fun p => { p with stale := false, overdue := false, reverified := some s.tick, passed := !p.recal }
        else s.weed n .drift
      s.startWork
    else s)

/-- REVERIFY_OVERDUE: hours have passed since the last re-verify of a serving crossbar: it is to be twinned, from 22 hours on under
precedence 3, and from 24 hours on it shows STALE (R258, R271). -/
def execReverifyOverdue (x : XbId) (hours : Nat) (s : State) : Host.Outcome State Fault Refusal :=
  .next (
    let n := s.servingXb x
    if (s.phys n).st = .serving then
      let s := if 24 ≤ hours then s.modPhys n fun p => { p with stale := true } else s
      let s := if 22 ≤ hours then s.modPhys n fun p => { p with overdue := true } else s
      (s.wantTwin x (if 22 ≤ hours then 3 else 5)).startWork
    else s)

/-! Restoring master copies (R272). -/

/-- Weights of row r of a group block as 33 bytes, from cell levels (R56, R246). -/
def rowBytesOf (prec g : Nat) (level : Nat → Nat → Nat) (r : Nat) : List Byte :=
  let v := (blockCols prec g).foldl (fun a k =>
    let u := sumNat ((List.range prec).map fun j => level r (prec * k + j) * 16 ^ j)
    let w := pattern (4 * prec) ((u : Int) - (2 ^ (4 * prec - 1) : Nat))
    a + w * 2 ^ (4 * prec * (k - blockFirst prec g))) 0
  leBytes 33 v

/-- The tile image that a crossbar's levels spell: the inverse of R56 over the layout of R246. -/
def imageOf (prec : Nat) (level : Nat → Nat → Nat) : List Byte :=
  (List.range 8).foldl (fun a g => a ++ (List.range 512).foldl (fun a r => a ++ rowBytesOf prec g level r) []) []

/-- The image that a readback of a slot's crossbar taken through a twin gives (R270, R272): of the original, HELD while its twin serves, when a read
may begin. A slot without a twin gives none: its twin's write would need the master copy, and waits (R272). DEDUCED (log entry 104). -/
def State.readbackImage (s : State) (r : SectionRec) (t : Nat) : Option (List Byte) :=
  match r.xbs[t]? with
  | some x =>
    if (tabFind s.xb.twin x).isSome ∧ (s.phys (s.mappedXb x)).st = .held ∧ s.mayRead then
      some (imageOf (s.slotPrec x) (s.level (s.mappedXb x)))
    else none
  | none => none

/-- The image that the peers named at staging give, when there are any. -/
def State.peerImage (s : State) (r : SectionRec) (peer : Option (List Byte)) : Option (List Byte) :=
  match (s.sect r.sec).vol, peer with
  | some h, some d => if (s.vol h).peers = [] then none else some (bytesAt d 0 tileBytes)
  | _, _ => none

/-- The shelver asks the peers named at staging for the shard that holds a tile (R249, R272), once. -/
def State.askTile (s : State) (h sec t : Nat) : State :=
  let v := s.vol h
  let s := { s with sh := { s.sh with asked := s.sh.asked ++ [(sec, t)] } }
  match tabFind v.tileAt t with
  | some i => v.peers.foldl (fun s p => s.askPeer p v.id v.version i) s
  | none => s

/-- The library copy's image of a tile of a section's volume. -/
def State.libraryImage (s : State) (r : SectionRec) (t : Nat) : State × Option (List Byte) :=
  match (s.sect r.sec).vol with
  | some h => if (s.vol h).lib then s.readTile h t else (s, none)
  | none => (s, none)

/-- Is an image the one whose CRC-32C was kept at the copy (R255, R272)? -/
def imageGood (want : Option (BitVec 32)) (d : Option (List Byte)) : Bool :=
  match d with
  | some d => decide (some (crc32c d) = want)
  | none => false

/-- The first source of a restore whose image has the tile's check value (R272): readback of the serving crossbar through a twin, the
library copy, a peer. -/
def State.restoreImage (s : State) (r : SectionRec) (t : Nat) (peer : Option (List Byte)) : State × Option (List Byte) :=
  let want := tabFind s.sh.tileCheck (65536 * r.sec + t)
  let back := s.readbackImage r t
  if imageGood want back then (s, back)
  else
    let e := s.libraryImage r t
    if imageGood want e.2 then e
    else
      let far := s.peerImage r peer
      (e.1, if imageGood want far then far else none)

/-- A tile of a master area waits for its restore no more (R272). -/
def State.endRestore (s : State) (sec t : Nat) : State :=
  { s with sh := { s.sh with
    restore := s.sh.restore.filter fun e => decide (e ≠ (sec, t))
    asked := s.sh.asked.filter fun e => decide (e ≠ (sec, t)) } }

/-- MASTER_RESTORE: a poisoned tile of a master area is restored from the first source whose image has the tile's check value, or its
volume becomes RETIRING (R272). Without an answer from a peer the peers are asked first; `peer` is the image that they have answered. -/
def execMasterRestore (sec tile : Nat) (peer : Option (List Byte)) (s : State) : Host.Outcome State Fault Refusal :=
  .next (
    if (sec, tile) ∈ s.sh.restore then
      match s.secRec sec with
      | none => s.endRestore sec tile
      | some r =>
        match s.restoreImage r tile peer with
        | (s, some d) =>
          let s := s.hbmWrite (r.tileAddr tile) d (allBits tileBytes false) blockBytes
          (s.endRestore sec tile).startWork
        | (s, none) =>
          match (s.sect sec).vol with
          | none => s
          | some h =>
            if peer.isNone ∧ (s.vol h).peers ≠ [] ∧ (sec, tile) ∉ s.sh.asked then s.askTile h sec tile
            else if (s.vol h).st = .shelved then
              (s.modVol h fun v => { v with st := .retiring, reason := 8 }).post (recShelver 3 2 h (some r.part))
            else s
    else s)

/-! Core substitution (R29 to R34). -/

/-- Can a physical core serve as a spare: it serves no logical core, has not served before, is not failed, no other substitution has claimed it
(R29, R31), and it has usable crossbars: all eighteen where R33 calls for the substitution, else the sixteen that its logical core maps (R32, R275)? -/
def State.isSpare (s : State) (l need pc : Nat) : Bool :=
  ((List.range 32).all fun k => decide (s.pcoreOf (32 * l + k) ≠ pc))
    && decide (34 * s.physCluster l + pc ∉ s.sh.usedCores) && decide (34 * s.physCluster l + pc ∉ s.cu.em.coreRepair)
    && (s.sh.subst.all fun e => decide (e.1 / 32 ≠ l) || decide (e.2 ≠ pc))
    && decide (need ≤ (List.range 18).countP fun i => (s.phys (s.corePhys l pc + i)).cause.isNone)

/-- CORE_SUBSTITUTION: a suspect or failed core starts substitution onto the lowest-numbered spare (R29, R30, R33, R34); without one a
suspect core keeps running (R31). -/
def execCoreSubstitution (c : CoreId) (s : State) : Host.Outcome State Fault Refusal :=
  .next (
    let l := c.val / 32
    let k := c.val % 32
    let st := s.fld (clRemapState l k)
    if (st = 1 ∨ st = 3) ∧ 0 < s.fld (clStatusSpares l) ∧ (tabFind s.sh.subst c).isNone ∧ s.fld (clStatusMap l) = 0 then
      match (List.range 34).find? (s.isSpare l (if s.noReserve c then 18 else 16)) with
      | none => s
      | some pc =>
        let s := if st = 1 then s.setFld (clRemapState l k) 2 else s
        let s := s.setFlag (clStatusSubstPend l) true
        ({ s with sh := { s.sh with subst := tabInsert s.sh.subst c pc } }).startWork
    else if st = 1 ∧ s.fld (clStatusSpares l) = 0 then s.repairCore l (s.pcoreOf c)
    else s)

/-! Queries (R280). -/

/-- Code of STATE (SH_VOLUME_STATE). -/
def volCode : VolState → Nat
  | .absent => 0
  | .staging => 1
  | .staged => 2
  | .placing => 3
  | .shelved => 4
  | .retiring => 5
  | .unavailable => 6

/-- Code of ASTATE (SH_LOAN_COUNT). -/
def aslotCode : ASlotState → Nat
  | .free => 0
  | .writing => 1
  | .current => 2
  | .retiring => 3
  | .unassigned => 4

/-- A VF has no SH registers (R50, R324); every other accessor's query puts READY and its result in its own instance. -/
def State.answer (s : State) (acc : Accessor) (o : Nat) (w : Nat) : State :=
  match acc with
  | .vf _ _ => s
  | _ => s.setReg (instOff (accNum acc) o) (BitVec.ofNat 64 w)

/-- SH_VOLUME_STATE_QUERY: what the directory holds of a handle. -/
def execShVolumeStateQuery (acc : Accessor) (v : W64) (s : State) : Host.Outcome State Fault Refusal :=
  .next (
    let h := bitsOf v.toNat 0 14
    let x := s.vol h
    let r := if x.st ≠ .absent ∧ s.accSees acc x.part then
        2 ^ 62 + volCode x.st * 2 ^ 58 + x.reason % 16 * 2 ^ 54 + x.part % 16 * 2 ^ 50 + x.version % 65536 * 2 ^ 34 + bitNat x.lib * 2 ^ 33
          + bitNat x.pin * 2 ^ 32 + x.done.length % 2 ^ 17 * 2 ^ 15 + bitNat x.resident * 2 ^ 14
      else 0
    s.answer acc shVolumeStateReg (2 ^ 63 + r + h))

/-- SH_LOAN_COUNT_QUERY: loans of a volume or an adapter slot. -/
def execShLoanCountQuery (acc : Accessor) (v : W64) (s : State) : Host.Outcome State Fault Refusal :=
  .next (
    let i := bitsOf v.toNat 0 14
    let k := bitsOf v.toNat 14 1
    let r := if k = 0 then
        let x := s.vol i
        if x.st ≠ .absent ∧ s.accSees acc x.part then 2 ^ 62 + x.version % 65536 * 2 ^ 43 + x.loans % 2 ^ 24 * 2 ^ 19 else 0
      else
        let a := s.aslot i
        let seen := if a.st = .unassigned then decide (accNum acc = 4) else s.accSees acc a.part
        if i < 8192 ∧ seen then 2 ^ 62 + aslotCode a.st * 2 ^ 59 + a.gen % 65536 * 2 ^ 43 + a.loans % 2 ^ 24 * 2 ^ 19 else 0
    s.answer acc shLoanCountReg (2 ^ 63 + r + k * 2 ^ 14 + i))

/-- SH_MAP_QUERY: where a logical array slot is placed (R36). -/
def execShMapQuery (acc : Accessor) (v : W64) (s : State) : Host.Outcome State Fault Refusal :=
  .next (
    let x := bitsOf v.toNat 0 16
    let l := x / 512
    let n := s.mappedXb x
    let seen := match acc, s.partOf l with
      | .custodian, _ => true
      | _, some q => s.accSees acc q
      | _, none => false
    let sec := match s.sectionOf x with | some (r, _) => r.sec | none => 0x1FF
    let r := if seen then
        2 ^ 62 + xstCode (s.xst n) * 2 ^ 59 + Nat.min (s.phys n).writes (2 ^ 17 - 1) * 2 ^ 42
          + (match tabFind s.xb.twin x with | some t => t % 18 | none => 0x1F) * 2 ^ 37 + n % 18 * 2 ^ 32 + s.pcoreOf (xbCore x) % 64 * 2 ^ 26
          + bitNat (s.phys n).stale * 2 ^ 25 + sec % 512 * 2 ^ 16
      else 0
    s.answer acc shMapQueryReg (2 ^ 63 + r + x))

end Sys2Proof.Machine
end

