-- ==== Sys2Proof/Machine/Requests.lean ====
section
/-! DEFINITION. Descriptors: fetch and its conditions, and the stream kinds OPEN, APPEND, GENERATE, CLOSE, CANCEL (R326, R328 to R336,
R344, R350, R357). Log entries 29, 31. -/
namespace Sys2Proof.Machine
open Sys2Proof

/-- Bytes 16 to 55 that a descriptor kind uses, as (offset from 16, length) (R336). -/
def kindBytes (kind : Nat) : List (Nat × Nat) :=
  match kind with
  | 1 => [(0, 2), (4, 8), (12, 4)]
  | 2 => [(0, 8), (8, 4)]
  | 3 => [(0, 4)]
  | 8 => [(0, 8), (8, 4), (12, 8), (20, 6), (26, 1)]
  | 9 => [(0, 2), (2, 1)]
  | 10 => [(0, 2)]
  | 11 => [(0, 8), (8, 4), (12, 4)]
  | 12 => [(12, 4)]
  | 13 => [(0, 8), (8, 4)]
  | _ => []

/-- Is the kind in the table of R336? -/
def kindKnown (kind : Nat) : Bool := decide (1 ≤ kind ∧ kind ≤ 5) || decide (8 ≤ kind ∧ kind ≤ 13)

/-- Are all reserved fields of a descriptor zero, and its fields in range (R334, R336)? `chunkMax` bounds an APPEND's LEN. DEADLINE is no reserved
field: the kinds that do not use it ignore it (R335). -/
def descReserved (d : List Byte) (chunkMax : Nat) : Bool :=
  let k := numAt d 0 1
  let body := (d.drop 16).take 40
  let unused := (List.range 40).filter fun i => (kindBytes k).all fun e => decide (i < e.1) || decide (e.1 + e.2 ≤ i)
  let fl := numAt d 1 1
  decide (fl < 4) && (decide (fl < 2) || decide (k = 2))
    && decide (numAt d 2 2 < 1024) && decide (numAt d 8 1 < 16) && decide (numAt d 9 3 = 0)
    && unused.all (fun i => decide (body.getD i 0 = 0))
    && (decide (k ≠ 2) || (decide (1 ≤ numAt body 8 4) && decide (numAt body 8 4 ≤ chunkMax)))
    && (decide (k ≠ 3) || decide (1 ≤ numAt body 0 4))
    && (decide (k ≠ 8) || decide (numAt body 26 1 < 4))
    && (decide (k ≠ 9) || decide (numAt body 2 1 < 2))
    && (decide (k ≠ 11) || decide (numAt body 8 4 ≤ 67108928))
    && (decide (k ≠ 13) || decide (numAt body 8 4 ≤ 268435456))

/-- A descriptor as the port decodes it (R334). -/
def descRead (s : State) (k : Nat) (d : List Byte) : Desc :=
  { ring := k, kind := numAt d 0 1, irq := bitOf (numAt d 1 1) 0, endInput := bitOf (numAt d 1 1) 1, tenant := numAt d 2 2 % 1024,
    req := numAt d 4 4, part := numAt d 8 1 % 16, deadline := numAt d 12 4, body := (d.drop 16).take 40,
    user := BitVec.ofNat 64 (numAt d 56 8), tick := s.tick, order := s.sv.fetches, entry := 0, openIx := 0 }

/-- Is the tenant in the port's range, and the ring pair's own where the ring pair is locked (R328)? -/
def State.tenantOk (s : State) (p k t : Nat) : Bool :=
  decide (s.fld (btTenantRangeFirst p) ≤ t) && decide (t < s.fld (btTenantRangeFirst p) + s.fld (btTenantRangeCount p))
    && (!(s.flag (hpRingCfgLock p k) || decide (s.fld (hpRingCfgFn p k) ≠ 0)) || decide (s.fld (hpRingCfgTenant p k) = t))

/-- Does the kind open a name (OPEN and the staging kinds, R332, R333)? -/
def opensName (kind : Nat) : Bool := decide (kind = 1) || decide (8 ≤ kind)

/-- The live request that a REQ_ID names on a ring pair. -/
def State.liveOf (s : State) (p k req : Nat) : Option (Nat × Request) :=
  match (s.ring p k).ids.lookup req with
  | some (.stream n) => match s.rq n with
    | some r => if r.ended.isNone then some (n, r) else none
    | none => none
  | _ => none

/-- CHUNK_MAX that bounds an APPEND: its request's service's. -/
def State.chunkMaxOf (s : State) (p k req : Nat) : Nat :=
  match s.liveOf p k req with
  | some (_, r) => match s.serviceOf r.svc with
    | some v => v.chunkMax
    | none => 65536
  | none => 65536

/-- OPEN descriptors in the ports' stores. -/
def State.openDescs (s : State) : List Desc := (List.range 4).flatMap fun p => (s.hport p).store.filter fun d => decide (d.kind = 1)

/-- Open indices of a service in use, or reserved by an OPEN that has been fetched. -/
def State.openUsed (s : State) (v : Nat) : List Nat :=
  (s.sv.req.filterMap fun e => if e.2.svc = v then some e.2.openIx else none)
    ++ s.openDescs.filterMap fun d => if numAt d.body 0 2 = v then some d.openIx else none

/-- The lowest free open index of a service (R330). -/
def State.freeOpen (s : State) (v : ServiceRec) : Option Nat :=
  let used := s.openUsed v.service
  (List.range v.maxOpen).find? fun i => decide (i ∉ used)

/-- The lowest free entry of a port's request table, reserved by no OPEN that has been fetched (R330). -/
def State.freeEntry (s : State) (p : Nat) : Option Nat :=
  (List.range 4096).find? fun i => (s.rq (4096 * p + i)).isNone
    && (s.hport p).store.all fun d => decide (d.kind ≠ 1) || decide (d.entry ≠ i)

/-- A SERVICE record in force for a partition (R350). -/
def State.validService (s : State) (v part : Nat) : Option ServiceRec :=
  match s.serviceOf v with
  | some r => if r.valid && decide (r.part = part) then some r else none
  | none => none

/-- Descriptor places of a port's rank 1 store in use (R160). -/
def State.placesUsed (s : State) (p : Nat) : Nat :=
  (s.hport p).store.length + (List.range 256).countP fun k => (s.ring p k).chunk.isSome

/-- The room conditions of R330. -/
def State.fetchRoom (s : State) (p k : Nat) (d : Option (List Byte)) : Bool :=
  decide (s.placesUsed p < 64) && decide (1 ≤ s.cplFree p k)
    && match d with
      | none => true
      | some d =>
        if numAt d 0 1 = 1 then
          (s.freeEntry p).isSome && match s.validService (numAt d 16 2) (numAt d 8 1 % 16) with
            | some v => (s.freeOpen v).isSome
            | none => true
        else if numAt d 0 1 = 2 then
          match s.liveOf p k (numAt d 4 4) with
          | some (_, r) =>
            let busy := r.chunks.map Chunk.buf ++ (match r.step with | some st => st.chunk.toList | none => []) ++ r.oldBuf.toList
            decide (r.nextBuf ∉ busy) && decide ((s.hport p).bytes + Nat.min (numAt d 24 4) 65536 ≤ 524288)
          | none => true
        else true

/-- The ERR code of a descriptor that fails fetch (R332); 0 for none. -/
def State.fetchErr (s : State) (p k : Nat) (d : Option (List Byte)) : Nat :=
  match d with
  | none => 7
  | some d =>
    let x := descRead s k d
    if !(kindKnown x.kind) then 2
    else if !(descReserved d (s.chunkMaxOf p k x.req)) then 3
    else if !(s.portOwns p x.part) then 4
    else if !(s.tenantOk p k x.tenant) then 5
    else if ((s.ring p k).ids.lookup x.req).isSome = opensName x.kind then 6
    else 0

/-- HEAD passes a descriptor. -/
def State.passHead (s : State) (p k : Nat) : State :=
  s.setFld (hpRingStatHead p k) ((s.fld (hpRingStatHead p k) + 1) % s.ringSize p k)

/-- Does the port fetch from this ring pair now: running, descriptors waiting, none of it still in the port (R326, R330, R331, R449)? -/
def State.fetchable (s : State) (p k : Nat) : Bool :=
  s.flag (hpStatusReady p) && !s.ig.moduleFatal && decide (s.fld (hpRingStatState p k) = 1)
    && decide (s.fld (hpRingStatHead p k) ≠ (s.ring p k).tail) && (s.ring p k).chunk.isNone
    && (s.hport p).store.all fun d => decide (d.ring ≠ k)

/-- Ring pairs from the one served last to a ring pair, going up and wrapping. -/
def ringAhead (last k : Nat) : Nat := (k + 255 - last) % 256

/-- Is it the ring pair's turn: no other with descriptors waiting comes before it in the round (R330)? -/
def State.fetchTurn (s : State) (p k : Nat) : Bool :=
  (List.range 256).all fun j => !s.fetchable p j || decide (ringAhead (s.hport p).last k ≤ ringAhead (s.hport p).last j)

/-- What an OPEN reserves at its fetch: the lowest free entry of the request table and open index (R330); 65535 stands for none, of a service that is not
VALID. -/
def State.withPlaces (s : State) (p : Nat) (x : Desc) : Desc :=
  if x.kind = 1 then
    { x with
      entry := (s.freeEntry p).getD 0
      openIx := match s.validService (numAt x.body 0 2) x.part with
        | some v => (s.freeOpen v).getD 65535
        | none => 65535 }
  else x

/-- A descriptor enters its port's store with what it reserves: a completion entry, an OPEN's places, an APPEND's bytes (R330); HEAD passes all but
an APPEND (R331). -/
def State.takeFetched (s : State) (p k : Nat) (x : Desc) : State :=
  let x := s.withPlaces p x
  let s := { s with sv := { s.sv with fetches := s.sv.fetches + 1 } }
  let s := s.modHport p fun h => { h with store := h.store ++ [x], bytes := if x.kind = 2 then h.bytes + numAt x.body 8 4 else h.bytes }
  let s := if opensName x.kind then
      (s.modRing p k fun r => { r with ids := r.ids ++ [(x.req, .staging x.part)] }).reserveCpl p k 1
    else s
  if x.kind = 2 then s else s.passHead p k

/-- DESCRIPTOR_FETCH: the ring pair whose turn it is has its descriptor at HEAD fetched into the port's rank 1 store, or enters ERROR; where a condition
of R330 does not hold the ring waits there, and the round goes on without it. -/
def execDescriptorFetch (p : Fin 4) (k : Fin 256) (d : Dma) (s : State) : Host.Outcome State Fault Refusal :=
  .next (
    let d := d.map fun b => bytesAt b 0 64
    if !(s.fetchable p k) || !(s.fetchTurn p k) then s
    else
      let s := s.modHport p fun h => { h with last := k }
      if !(s.fetchRoom p k d) then s
      else
        let e := s.fetchErr p k d
        match e, d with
        | 0, some b => s.takeFetched p k (descRead s k b)
        | _, _ => s.ringError p k e ((d.map fun b => numAt b 8 1 % 16).filter fun n => s.portOwns p n))

/-- The oldest descriptor of a kind in a port's store is taken from it. -/
def State.takeDesc (s : State) (p kind : Nat) (f : State → Desc → State) : State :=
  match takeFirst (fun d : Desc => decide (d.kind = kind)) (s.hport p).store with
  | some (d, rest) => f (s.modHport p fun h => { h with store := rest }) d
  | none => s

/-- Has the partition FATAL set (R448)? -/
def State.fatalPart (s : State) (n : Nat) : Bool := s.flag (inPartStateFatal n)

/-- The deadline tick a descriptor names (R335): the smallest tick at or after its fetch with these low bits. -/
def deadlineTick (tick low : Nat) : Option Nat :=
  if low = 0 then none else some (tick + (low + 2 ^ 32 - tick % 2 ^ 32) % 2 ^ 32)

/-- A newer deadline replaces the old one from its fetch (R335); one already reached stops delivery, and a request past its deadline boundary ends
whatever a later descriptor says (R358). -/
def State.newDeadline (s : State) (n : Nat) (d : Desc) : State :=
  match deadlineTick d.tick d.deadline with
  | none => s
  | some t => s.modRq n fun r =>
    if (match r.deadline with | some x => s.tickReached x | none => false) then r
    else { r with deadline := some t, muted := r.muted || s.tickReached t }

/-- Handles of a partition that hold a VOLUME_ID, in states that satisfy a test. -/
def State.versionsOf (s : State) (part id : Nat) (f : VolState → Bool) : List Nat :=
  s.sh.vol.filterMap fun e => if e.2.part = part ∧ e.2.id = id ∧ f e.2.st then some e.1 else none

/-- The newest of a list of handles: the highest VERSION (R264). -/
def State.newest (s : State) (l : List Nat) : Option Nat :=
  l.foldl (fun a h => match a with
    | none => some h
    | some b => if (s.vol b).version < (s.vol h).version then some h else some b) none

/-- The CURRENT slot of an adapter of a partition and tenant (R266). -/
def State.currentSlot (s : State) (part adapter tenant : Nat) : Option Nat :=
  s.sh.aslot.findSome? fun e =>
    if e.2.st = .current ∧ e.2.part = part ∧ e.2.adapter = adapter ∧ e.2.tenant = tenant then some e.1 else none

/-- Why an OPEN ends at fetch: status and reason (R339, R350). -/
def State.openRefused (s : State) (r : Request) : Option (Nat × Nat) :=
  match s.validService r.svc r.part with
  | none => some (5, 14)
  | some v =>
    match s.newest (s.versionsOf r.part r.volId fun st => decide (st ≠ .absent)) with
    | none => some (5, 6)
    | some h =>
      if (s.vol h).shape ≠ v.shape then some (5, 13)
      else if r.adapter ≠ 0 ∧ (!v.adapt || (s.currentSlot r.part r.adapter r.tenant).isNone) then some (5, 12)
      else if !(s.flag (tnStatValid r.tenant)) then some (4, 0)
      else if s.fld (tnWeightWeight r.tenant) = 0 ∧ signed 32 (s.fld (tnBudgetBalance r.tenant)) ≤ 0 then some (4, 0)
      else none

/-- OPEN: the oldest OPEN in the port's store becomes a request, or ends at once. -/
def execOpenRequest (p : Fin 4) (s : State) : Host.Outcome State Fault Refusal :=
  .next (s.takeDesc p 1 fun s d =>
    let n := 4096 * p.val + d.entry
    let r : Request :=
      { port := p, ring := d.ring, req := d.req, tenant := d.tenant, part := d.part, svc := numAt d.body 0 2, openIx := d.openIx,
        volId := numAt d.body 4 8, adapter := numAt d.body 12 4, vol := none, aslot := none, agen := 0, dslot := none, user := d.user, irq := d.irq,
        deadline := none, gens := [], closing := false, chunks := [], nextBuf := 0, oldBuf := none, admitted := false, step := none, delivered := 0,
        suspect := false, ctxLimit := false, ended := none, status := 0, muted := false }
    let s := (s.setRq n r).newDeadline n d
    let s := s.modRing p d.ring fun q => { q with ids := (q.ids.filter fun e => decide (e.1 ≠ d.req)) ++ [(d.req, .stream n)] }
    let s := (s.incWrap (hpStatusOpen p) 1).incWrap (tnStatOpen d.tenant) 1
    if s.fatalPart d.part then s.endReq n 3 0 true
    else match s.openRefused r with
      | some (st, why) => s.endReq n st why true
      | none => s)

/-- A stream descriptor meets the request it names; one that names an ended request, or a staging request, is ignored and counted
(R333, R357). -/
def State.onRequest (s : State) (p : Nat) (d : Desc) (other : State → State) (f : State → Nat → Request → State) : State :=
  match s.liveOf p d.ring d.req with
  | some (n, r) => f s n r
  | none => other (s.hpEvent p hpEventsCancelIgnored)

/-- APPEND: the oldest APPEND in the store takes one of its request's input buffers, and its chunk is being read (R330, R331, R344). -/
def execAppend (p : Fin 4) (s : State) : Host.Outcome State Fault Refusal :=
  .next (s.takeDesc p 2 fun s d =>
    let gone (s : State) : State := (s.modHport p fun h => { h with bytes := h.bytes - numAt d.body 8 4 }).passHead p d.ring
    s.onRequest p d gone fun s n r =>
      match s.validService r.svc r.part with
      | some v =>
        if v.input then
          let c : Chunk := { buf := r.nextBuf, len := numAt d.body 8 4, last := d.endInput, user := d.user, irq := d.irq, order := d.order,
                             ready := false }
          let s := s.setRq n { r with chunks := r.chunks ++ [c], nextBuf := 1 - r.nextBuf }
          (s.newDeadline n d).modRing p d.ring fun q => { q with chunk := some d }
        else gone (s.endReq n 5 14 true)
      | none => gone (s.endReq n 5 14 true))

/-- CHUNK_READ_COMPLETE: the chunk of the APPEND at HEAD has been read and is written to its input buffer with its check units; HEAD
passes (R331, R344, R426, R427 POINT 1). A chunk that arrives poisoned ends its request POISONED (R207, R339). -/
def execChunkReadComplete (p : Fin 4) (k : Fin 256) (data : Dma) (s : State) : Host.Outcome State Fault Refusal :=
  .next (match (s.ring p k).chunk with
    | none => s
    | some d =>
      let len := numAt d.body 8 4
      let s := (s.modRing p k fun q => { q with chunk := none }).modHport p fun h => { h with bytes := h.bytes - len }
      let s := s.passHead p k
      match s.liveOf p k d.req with
      | none => s
      | some (n, r) =>
        match s.serviceOf r.svc, r.chunks.find? fun c => decide (c.order = d.order) with
        | some v, some c =>
          let a := v.inputAddr + (2 * r.openIx + c.buf) * v.chunkMax
          match data with
          | some b =>
            (s.hbmWrite a (bytesAt b 0 len) (allBits len false) 4096).setRq n
              { r with chunks := r.chunks.map fun x => if x.order = d.order then { x with ready := true } else x }
          | none => ((s.hbmWrite a (s.freeBytes len) (allBits len true) 4096).draw len).endReq n 3 0 true
        | _, _ => s)

/-- GENERATE: units are asked for (R336, R347, R359). -/
def execGenerate (p : Fin 4) (s : State) : Host.Outcome State Fault Refusal :=
  .next (s.takeDesc p 3 fun s d =>
    s.onRequest p d id fun s n r =>
      match s.validService r.svc r.part with
      | some v =>
        if v.gen then
          (s.setRq n { r with gens := r.gens ++ [{ units := numAt d.body 0 4, user := d.user, irq := d.irq, order := d.order }] }).newDeadline n d
        else s.endReq n 5 14 true
      | none => s.endReq n 5 14 true)

/-- CLOSE: the request ends OK once its last step has ended (R339). -/
def execClose (p : Fin 4) (s : State) : Host.Outcome State Fault Refusal :=
  .next (s.takeDesc p 4 fun s d => s.onRequest p d id fun s n r => s.setRq n { r with closing := true })

/-- CANCEL: the request is cancelled from the moment the descriptor is fetched (R357). -/
def execCancel (p : Fin 4) (s : State) : Host.Outcome State Fault Refusal :=
  .next (s.takeDesc p 5 fun s d => s.onRequest p d id fun s n _ => s.cancelReq n)

end Sys2Proof.Machine
end

