-- ==== Sys2Proof/Machine/Staging.lean ====
section
/-! DEFINITION. Staging requests: volumes and adapters (R227, R240 to R251, R263, R265 to R269, R336, R340, R574). Log entries 38 to 40. -/
namespace Sys2Proof.Machine
open Sys2Proof

/-- The waiting staging request of a descriptor. -/
def stageOf (p : Nat) (d : Desc) : StageReq := { port := p, ring := d.ring, req := d.req, user := d.user, irq := d.irq }

/-- A staging request ends with an empty payload. -/
def State.endStage (s : State) (p : Nat) (d : Desc) (status reason : Nat) : State := s.doneReq (stageOf p d) status reason 0 0 0

/-- While FATAL is set a staging descriptor of the partition ends at fetch with VOLUME_UNAVAILABLE (R448), reason NONE (log entry 73). -/
def State.unlessFatal (s : State) (p : Nat) (d : Desc) (f : State → State) : State :=
  if s.fatalPart d.part then s.endStage p d 5 0 else f s

/-! Volumes. -/

/-- The lowest directory handle not in use. -/
def State.freeHandle (s : State) : Option Nat := (List.range 16384).find? fun h => decide (s.vol h = {})

/-- Where a VOLUME_STAGE stands while its manifest is read: a free handle, or, with the directory full, a number beyond every handle (R574; log entry 107). -/
def State.stageHandle (s : State) : Nat :=
  s.freeHandle.getD ((s.sh.vol.map Prod.fst).foldl (fun m h => Nat.max m (h + 1)) 16384)

/-- VOLUME_STAGE: the shelver reads the manifest (R247, R574 step 1). -/
def execVolumeStage (p : Fin 4) (s : State) : Host.Outcome State Fault Refusal :=
  .next (s.takeDesc p 8 fun s d => s.unlessFatal p d fun s =>
      s.modVol s.stageHandle fun v => { v with
        part := d.part
        manifestLen := numAt d.body 8 4
        peers := ([0, 1, 2].map fun i => numAt d.body (20 + 2 * i) 2).filter fun n => decide (n ≠ 0xFFFF)
        place := bitOf (numAt d.body 26 1) 0
        pin := bitOf (numAt d.body 26 1) 1
        stager := some (stageOf p d) })

/-- VOLUME_PLACE: a demand for placement, with an optional pin (R252, R265, R340). -/
def execVolumePlace (p : Fin 4) (s : State) : Host.Outcome State Fault Refusal :=
  .next (s.takeDesc p 9 fun s d => s.unlessFatal p d fun s =>
    let h := numAt d.body 0 2
    let v := s.vol h
    if v.st = .absent ∨ v.part ≠ d.part then s.endStage p d 5 15
    else if v.st = .retiring ∨ v.st = .unavailable then s.doneReq (stageOf p d) 5 v.reason h v.version v.done.length
    else
      let s := if bitOf (numAt d.body 2 1) 0 then s.modVol h fun v => { v with pin := true } else s
      if v.st = .shelved then s.doneReq (stageOf p d) 0 0 h v.version v.tiles
      else (s.modVol h fun v => { v with watch := v.watch ++ [stageOf p d] }).raiseDemand h)

/-- VOLUME_RELEASE: the pin goes and the volume moves as R262 states (R265, R340). -/
def execVolumeRelease (p : Fin 4) (s : State) : Host.Outcome State Fault Refusal :=
  .next (s.takeDesc p 10 fun s d => s.unlessFatal p d fun s =>
    let h := numAt d.body 0 2
    let v := s.vol h
    if v.st = .absent ∨ v.part ≠ d.part then s.endStage p d 5 15
    else
      let s := match v.st with
        | .staging | .placing => s.failVolume h 11
        | .staged | .unavailable => s.clearVolume h 11
        | _ => s.modVol h fun v => { v with st := .retiring, pin := false, released := true }
      s.doneReq (stageOf p d) 0 0 h v.version v.done.length)

/-- The tile ranges of the layer table cover tiles 0 to n − 1 exactly once (R243). -/
def tilesCovered (n : Nat) (layers : List (Nat × Nat × Nat × Nat)) : Bool :=
  let l := sortBy (fun e => e.2.2.1) (layers.filter fun e => decide (e.1 = 0) && decide (0 < e.2.2.2))
  (l.foldl (fun a e => match a with
    | some k => if e.2.2.1 = k then some (k + e.2.2.2) else none
    | none => none) (some 0)) = some n

/-- A manifest as the shelver reads it: the entry's fields, the layer table with layer numbers, what R574 needs. -/
structure Manifest where
  signed : Bool
  resident : Bool
  id : Nat
  version : Nat
  shardCount : Nat
  shape : Nat
  tiles : Nat
  layerCount : Nat
  timeout : Nat
  total : Nat
  len : Nat
  layers : List (Nat × Nat × Nat × Nat × Nat)
  shards : List (Nat × BitVec 384)
  bytes : List Byte
deriving DecidableEq, Repr

/-- Read the fields of a manifest (R240 to R242). -/
def manifestOf (d : List Byte) : Manifest :=
  let lc := numAt d 28 2
  let sc := numAt d 18 2
  { signed := bitOf (numAt d 6 2) 0, resident := bitOf (numAt d 6 2) 1, id := numAt d 8 8, version := numAt d 16 2, shardCount := sc,
    shape := numAt d 20 4, tiles := numAt d 24 4, layerCount := lc, timeout := numAt d 30 2, total := numAt d 32 8, len := numAt d 40 4,
    layers := (List.range lc).map fun i =>
      let b := 128 + 16 * i
      (numAt d b 2, numAt d (b + 2) 1, numAt d (b + 3) 1, numAt d (b + 8) 4, numAt d (b + 12) 4),
    shards := (List.range sc).map fun i =>
      let b := 128 + 16 * lc + 64 * i
      (numAt d b 8, BitVec.ofNat 384 (numAt d (b + 8) 48)),
    bytes := d }

/-- Offset of the signature block. -/
def Manifest.sigAt (m : Manifest) : Nat := 128 + 16 * m.layerCount + 64 * m.shardCount

/-- LIBRARY frames of 1 MiB that the shards take, each from a 64-byte boundary (R248, R251). -/
def Manifest.frames (m : Manifest) : Nat :=
  Nat.max (ceilDiv m.total (2 ^ 20)) (ceilDiv (64 * sumNat (m.shards.map fun e => ceilDiv (e.1 + 64) 64)) (2 ^ 20))

/-- Step 1 of R574: MAGIC, FORMAT, MANIFEST_LEN, and the manifest whole. -/
def Manifest.headOk (m : Manifest) : Bool :=
  decide (128 ≤ m.bytes.length) && decide (numAt m.bytes 0 4 = 0x4D564B53) && decide (numAt m.bytes 4 2 = 1)
    && decide (m.len = m.sigAt + 104 * bitNat m.signed) && decide (m.len ≤ m.bytes.length)

/-- Step 2 of R574: the signature and key checks of R243. -/
def State.sigOk (s : State) (m : Manifest) : Bool :=
  if m.signed then
    let a := m.sigAt
    match s.ctg.volKeys[numAt m.bytes a 2]? with
    | some k => !k.isEmpty && Config.ecdsaOk k (Config.sha384 (bytesAt m.bytes 0 a)) (bytesAt m.bytes (a + 8) 48) (bytesAt m.bytes (a + 56) 48)
    | none => false
  else !s.ctg.requireSigned

/-- Is a code an element format of R173? -/
def formatCode (f : Nat) : Bool := decide (f ≤ 12)

/-- Fields of R240 to R242 in range, reserved fields zero, tiles covered (R243). -/
def Manifest.fieldsOk (m : Manifest) : Bool :=
  decide (numAt m.bytes 6 2 < 4) && decide (1 ≤ m.version) && decide (1 ≤ m.shardCount ∧ m.shardCount ≤ 4096)
    && decide (1 ≤ m.tiles ∧ m.tiles ≤ 65536) && decide (1 ≤ m.layerCount ∧ m.layerCount ≤ 4096) && decide (1 ≤ m.timeout)
    && decide (numAt m.bytes 44 84 = 0) && decide (m.total = sumNat (m.shards.map fun e => e.1 + 64))
    && m.layers.all (fun e => decide (e.2.1 < 2) && (if e.2.1 = 0 then decide (1 ≤ e.2.2.1 ∧ e.2.2.1 ≤ 3) else formatCode e.2.2.1))
    && ((List.range m.shardCount).all fun i => decide (numAt m.bytes (128 + 16 * m.layerCount + 64 * i + 56) 8 = 0))
    && (!m.signed || decide (numAt m.bytes (m.sigAt + 2) 6 = 0)) && tilesCovered m.tiles (m.layers.map Prod.snd)

/-- Step 3 of R574: R243, the tile count of R236, the precisions of R305. -/
def State.manifestOk (s : State) (part : Nat) (m : Manifest) : Bool :=
  m.fieldsOk
    && (s.ctg.sections.all fun r => decide (r.part ≠ part) || decide (r.shape ≠ m.shape) || decide (r.tiles = m.tiles))
    && m.layers.all fun e => match s.ctg.precs.find? fun r => decide (r.shape = m.shape) && decide (r.layer = e.1) with
        | some r => decide (r.engine = e.2.1) && decide (r.prec = e.2.2.1)
        | none => false

/-- Frames of 1 MiB that a partition's volumes hold in LIBRARY, and its directory entries not ABSENT (R251). -/
def State.libUse (s : State) (part : Nat) : Nat × Nat :=
  let l := s.sh.vol.filter fun e => decide (e.2.part = part) && decide (e.2.st ≠ .absent)
  (sumNat (l.map fun e => e.2.frames), l.length)

/-- The refusal of R574 that a manifest meets first, as REASON; 0 for none. -/
def State.stageReason (s : State) (part : Nat) (m : Manifest) : Nat :=
  if !m.headOk then 4
  else if !(s.sigOk m) then 3
  else if !(s.manifestOk part m) then 4
  else if s.versionsOf part m.id (fun st => decide (st ≠ .absent) && decide (st ≠ .unavailable)) |>.any
      fun h => decide ((s.vol h).version = m.version) then 9
  else if !(s.ctg.sections.any fun r => decide (r.part = part) && decide (r.shape = m.shape)) then 6
  else if m.resident && !(s.ctg.sections.any fun r => decide (r.part = part) && r.resident && decide (r.volume = m.id)
      && decide (r.version = m.version)) then 6
  else
    let u := s.libUse part
    match s.ctg.quotas[part]? with
    | some q =>
      if q.libraryMib < u.1 + ceilDiv m.total (2 ^ 20) ∨ q.dirLimit ≤ u.2 ∨ (s.freeLib m.frames).length < m.frames then 5 else 0
    | none => 5

/-- MANIFEST_READ_COMPLETE: the manifest of a VOLUME_STAGE is accepted, and the volume is STAGING, or refused (R574); a full directory refuses at step 6. -/
def execManifestReadComplete (h : Nat) (manifest : Dma) (s : State) : Host.Outcome State Fault Refusal :=
  .next (
    let v := s.vol h
    if v.st = .absent ∧ v.stager.isSome then
      let reason := match manifest with
        | none => 4
        | some b => s.stageReason v.part (manifestOf (bytesAt b 0 v.manifestLen))
      match (if reason = 0 ∧ 16384 ≤ h then 5 else reason), manifest with
      | 0, some b =>
        let m := manifestOf (bytesAt b 0 v.manifestLen)
        let s := s.modVol h fun v => { v with
          st := .staging, reason := 0, id := m.id, version := m.version, shape := m.shape, tiles := m.tiles, resident := m.resident
          shards := m.shards, layers := m.layers.map Prod.snd, frames := ceilDiv m.total (2 ^ 20), libFrames := s.freeLib m.frames, timeoutMs := m.timeout }
        if v.place then s.raiseDemand h else s
      | r, _ => s.clearVolume h r
    else s)

/-- Does a received shard verify (R245): index, length, digest? -/
def shardOk (v : Volume) (i : Nat) (d : List Byte) : Bool :=
  match v.shards[i]? with
  | none => false
  | some (len, digest) =>
    let body := d.take len
    let col := d.drop len
    decide (d.length = len + 64) && decide (numAt col 4 2 = i) && decide (numAt col 8 8 = len)
      && decide (Config.sha384 body = digest) && decide (BitVec.ofNat 384 (numAt col 16 48) = digest)

/-- Failed attempts at a shard so far (R249). -/
def Volume.tries (v : Volume) (i : Nat) : Nat := tabGet 0 v.attempts i

/-- Is the attempt in progress the host's: the first, or one beyond the peers named (R249)? -/
def Volume.fromHost (v : Volume) (i : Nat) : Bool := decide (v.tries i = 0) || decide (v.peers.length < v.tries i)

/-- Is the shard of a volume awaited? -/
def Volume.awaits (v : Volume) (i : Nat) : Bool :=
  (decide (v.st = .staging) || decide (v.st = .placing)) && decide (i < v.shards.length) && decide (i ∉ v.verified)

/-- A shard has arrived, or an attempt at it has failed (R245, R249, R250, R262). -/
def State.shardArrives (s : State) (h i : Nat) (d : Option (List Byte)) : State :=
  let v := s.vol h
  match d.filter (shardOk v i) with
  | some b =>
    let s := (s.writeLib v (v.shardOff i) b).modVol h fun v => { v with
      verified := v.verified ++ [i]
      partials := tabErase v.partials i
      tileAt := (recordsOf (b.length / 64 + 1) 0 (b.take (b.length - 64))).foldl (fun m r =>
        if r.1 = 1 then tabInsert (tabErase m r.2.1) r.2.1 i else m) v.tileAt }
    let s := if (s.vol h).complete then
        let s := s.modVol h fun v => { v with lib := true, st := if v.st = .staging then .staged else v.st }
        s.endStager h 0 0
      else s
    s.startWork
  | none =>
    let n := v.tries i + 1
    let s := s.modVol h fun v => { v with attempts := tabInsert (tabErase v.attempts i) i n, partials := tabErase v.partials i }
    if 4 ≤ n then s.failVolume h 1
    else match v.peers[n - 1]? with
      | some peer => s.askPeer peer v.id v.version i
      | none => s

/-- An attempt to restore a shard of the library copy from a peer has ended (R272): the shard is written again, or the next peer is asked, or
the copy is dropped. -/
def State.mendArrives (s : State) (h i : Nat) (d : Option (List Byte)) : State :=
  let v := s.vol h
  match d.filter (shardOk v i) with
  | some b =>
    ((s.writeLib v (v.shardOff i) b).modVol h fun v => { v with
      mending := tabErase v.mending i
      partials := tabErase v.partials i }).startWork
  | none =>
    let k := tabGet 0 v.mending i + 1
    match v.peers[k]? with
    | some peer =>
      (s.modVol h fun v => { v with
        mending := tabInsert (tabErase v.mending i) i k
        partials := tabErase v.partials i }).askPeer peer v.id v.version i
    | none => s.dropLibrary h

/-- SHARD_VERIFY: a shard's DMA from the host completes and is verified, or is fetched again (R245, R249). -/
def execShardVerify (h : Nat) (shard : Nat) (received : Dma) (s : State) : Host.Outcome State Fault Refusal :=
  .next (if (s.vol h).awaits shard && (s.vol h).fromHost shard then s.shardArrives h shard received else s)

/-- STAGING_TIMEOUT: TIMEOUT_MS passes with a shard unverified (R250). -/
def execStagingTimeout (h : Nat) (s : State) : Host.Outcome State Fault Refusal :=
  .next (if (s.vol h).complete then s else s.failVolume h 2)

/-! Adapters. -/

/-- The adapter slots of a partition (R251, R304). -/
def State.aslotsOf (s : State) (part : Nat) : List Nat :=
  match s.ctg.quotas[part]? with
  | some q => (List.range q.aslotCount).map fun i => q.aslotFirst + i
  | none => []

/-- Frames in use by adapters of a stack, as (partition, first, count). -/
def State.adapterFrames (s : State) (stack : Nat) : List (Nat × Nat × Nat) :=
  s.sh.aslot.filterMap fun e => if e.1 % 16 = stack ∧ 0 < e.2.frames then some (e.2.part, e.2.frame, e.2.frames) else none

/-- The lowest run of n free frames of a stack in the ADAPTER regions, within the partition's quota there (R227, R251, R267). -/
def State.findFrames (s : State) (part stack n : Nat) : Option Nat :=
  let used := s.adapterFrames stack
  let mine := sumNat ((used.filter fun e => decide (e.1 = part)).map fun e => e.2.2)
  let quota := match s.ctg.quotas[part]? with | some q => 16 * q.adapterMib.getD stack 0 | none => 0
  if quota < mine + n then none
  else s.ctg.regions.findSome? fun r =>
    if r.kind = 4 then
      (List.range (r.size + 1 - n)).findSome? fun i =>
        let f := r.base + i
        if used.all fun e => decide (f + n ≤ e.2.1) || decide (e.2.1 + e.2.2 ≤ f) then some f else none
    else none

/-- ADAPTER_STAGE: an adapter version is given the lowest free slot whose stack has room, or refused (R267, R268). -/
def execAdapterStage (p : Fin 4) (s : State) : Host.Outcome State Fault Refusal :=
  .next (s.takeDesc p 11 fun s d => s.unlessFatal p d fun s =>
    let id := numAt d.body 12 4
    let n := Nat.max 1 (ceilDiv (numAt d.body 8 4 - 64) 65536)
    if s.sh.aslot.any fun e => decide (e.2.st = .writing) && decide (e.2.part = d.part) && decide (e.2.adapter = id) then s.endStage p d 5 10
    else
      match (s.aslotsOf d.part).find? fun a => decide ((s.aslot a).st = .free) && (s.findFrames d.part (a % 16) n).isSome with
      | none => s.endStage p d 5 5
      | some a =>
        let g := (tabGet 0 s.sh.agen (2 ^ 32 * d.part + id) + 1) % 65536
        let g := if g = 0 then 1 else g
        s.modAslot a fun _ => { st := .writing, part := d.part, adapter := id, tenant := d.tenant, gen := g,
                                frame := (s.findFrames d.part (a % 16) n).getD 0, frames := n, stager := some (stageOf p d) })

/-- ADAPTER_RELEASE: the CURRENT slot of an adapter retires at the next boundary (R268, R340). -/
def execAdapterRelease (p : Fin 4) (s : State) : Host.Outcome State Fault Refusal :=
  .next (s.takeDesc p 12 fun s d => s.unlessFatal p d fun s =>
    let id := numAt d.body 12 4
    match s.sh.aslot.find? fun e => decide (e.2.st = .current) && decide (e.2.part = d.part) && decide (e.2.adapter = id) with
    | none => s.endStage p d 5 12
    | some (a, x) => (s.modAslot a fun x => { x with release := true }).doneReq (stageOf p d) 0 0 a x.gen 0)

/-- Layer indices the services of a partition gather (R267, R341). -/
def State.gathered (s : State) (part : Nat) : List Nat :=
  (s.ctg.services.filter fun v => decide (v.part = part)).foldl (fun a v => a ++ v.layers) []

/-- The checks of R267 on a version that came whole: 0, or 4 MANIFEST_INVALID, 1 SHARD_CORRUPT. -/
def State.adapterReason (s : State) (x : ASlot) (len : Nat) (b : List Byte) : Nat :=
  let v := b.take len
  let col := b.drop len
  let n := numAt v 4 2
  if !(decide (numAt col 4 2 = 0) && decide (numAt col 8 8 = len)
      && decide (BitVec.ofNat 384 (numAt col 16 48) = Config.sha384 v)) then 1
  else if !(decide (numAt v 8 4 = len) && decide (64 + 32 * n ≤ len) && (s.gathered x.part).all (fun i => decide (i < n))
      && (List.range n).all fun i =>
        let e := 64 + 32 * i
        let r := numAt v e 2
        decide (1 ≤ r ∧ r ≤ 128) && decide (numAt v (e + 10) 4 + 2 * r * numAt v (e + 2) 2 ≤ len)
          && decide (numAt v (e + 14) 4 + 2 * r * numAt v (e + 4) 2 ≤ len)) then 4
  else 0

/-- Write an adapter version into its frames of stack a mod 16, byte offset o in frame FIRST + (o >> 16), one check unit per 4,096 bytes
(R227, R267, R427 POINT 8). -/
def State.writeVersion (s : State) (stack frame : Nat) : Nat → List Byte → State
  | 0, _ => s
  | k + 1, d =>
    if d.isEmpty then s
    else
      let a := frameAddr stack frame 0
      (s.hbmWrite a (d.take 65536) (allBits (d.take 65536).length false) 4096).writeVersion stack (frame + 1) k (d.drop 65536)

/-- ADAPTER_COPY_COMPLETE: a version has been copied and is checked: it becomes CURRENT at the next boundary, or its slot is free at once
(R267 to R269). `received` is the whole buffer, colophon included. -/
def execAdapterCopyComplete (a : Fin 8192) (received : Dma) (s : State) : Host.Outcome State Fault Refusal :=
  .next (
    let x := s.aslot a
    if x.st = .writing ∧ !x.passed then
      let reason := match received with
        | none => 1
        | some b => if b.length < 128 then 4 else s.adapterReason x (b.length - 64) b
      match reason, received with
      | 0, some b =>
        let v := b.take (b.length - 64)
        let v := leBytes 2 a.val ++ leBytes 2 x.gen ++ v.drop 4
        let s := { s with sh := { s.sh with agen := tabSet 0 s.sh.agen (2 ^ 32 * x.part + x.adapter) x.gen } }
        (s.writeVersion (a.val % 16) x.frame x.frames v).modAslot a fun x => { x with passed := true }
      | r, _ =>
        let s := s.modAslot a fun _ => { st := .free, part := x.part }
        s.doneOpt x.stager 5 r a x.gen 0
    else s)

end Sys2Proof.Machine
end

