-- ==== Sys2Proof/Machine/Packets.lean ====
section
/-! DEFINITION. Packets that arrive at a fabric port: their check, delivery, transit, read responses, the shelver's shards (R249, R375,
R378 to R382, R386, R388, R422, R427, R428). Log entries 32, 45, 48. -/
namespace Sys2Proof.Machine
open Sys2Proof

/-- Whose record a packet's is (R572): DST_PART when it is VALID, else the module's. -/
def State.packetPart (s : State) (k : Packet) : Option Nat := if s.flag (btPartValid k.dstPart) then some k.dstPart else none

/-- A FABRIC_PACKET record of a port, against the packet's JOB (R445). -/
def State.packetRecord (s : State) (p : Nat) (k : Packet) (sub detail : Nat) : State :=
  s.post (recUnit 2 p 3 20 sub k.job (k.src * 2 ^ 16 + detail) (s.packetPart k))

/-- A packet that breaks a rule of its destination (R375, R382). -/
def State.refusePacket (s : State) (p : Nat) (k : Packet) (sub : Nat) : State :=
  s.discardAt p k sub k.pool (s.packetPart k)

/-- CHECK is verified when LAST arrives; words already poisoned are not (R381, R428). -/
def State.checkPacket (s : State) (p : Nat) (k : Packet) : State × Packet :=
  if k.poison.any id ∨ crc32c k.data = k.check then (s, k)
  else (s.post (recUnit 2 p 3 6 0 k.job (6 * 2 ^ 60 + k.offset) (s.packetPart k)), packetPoisoned k)

/-- A class 2 packet whose TICK is not the present one is written poisoned, with its record (R382). -/
def State.checkTick (s : State) (p : Nat) (k : Packet) : State × Packet :=
  if k.tick = s.tick % 65536 then (s, k) else (s.packetRecord p k 3 0, packetPoisoned k)

/-- A packet for elsewhere, or made here, waits at the port its route takes (R386, R388). -/
def State.transit (s : State) (k : Packet) (from_ : Option (Nat × Nat)) : State :=
  let free (s : State) : State := match from_ with | some (q, v) => s.owe q k.cls v (flitsOf k) | none => s
  match s.route k.src k.dest with
  | none => free s
  | some (o, vc) =>
    let mine := (s.entriesOf o).filter fun e => decide (s.fld (fbSlotTableJob o e) = k.job) && decide (s.fld (fbSlotTableClass o e) = k.cls)
    if !s.fbUp o then (free s).discardAt o k 5 0 none
    else if mine.isEmpty then (free s).discardAt o k 4 0 none
    else if mine.all fun e => s.flag (fbSlotTableInert o e) then (free s).discardAt o k 7 (mine.headD 0) none
    else (s.modFport o fun f => { f with transit := f.transit ++ [{ pkt := k, vc, entry := none, any := true, from_ }] }).drainSlot o

/-- A packet not for this module passes through it, unless the module is a bridge (R386, R388, R422). -/
def State.passOn (s : State) (p : Nat) (k : Packet) : State :=
  if s.syncMode = 3 then
    (s.oweFor p k).post (recUnit 2 p 1 19 6 k.job (s.fld (fbSeenNeighbourModule p)) none)
  else
    let from_ := some (p, s.arrivalVc p k)
    if k.cls = 3 then s.sendClass3 k from_ else s.transit k from_

/-- Class 1: into its credit pool (R150, R375, R382). -/
def State.takeQueuePacket (s : State) (p : Nat) (k : Packet) : State :=
  match s.poolNamed p k.pool with
  | none => (s.oweFor p k).refusePacket p k 1
  | some c => (s.poolPacket c k k.data.length).oweFor p k

/-- A write of REMOTE HBM as one unit (R203, R213, R380, R382). -/
def State.writeRemote (s : State) (p : Nat) (k : Packet) : State :=
  let s := s.oweFor p k
  if !isHbm (k.offset + k.data.length - 1) ∨ !s.inOwn k.dstPart [8] k.offset k.data.length then s.refusePacket p k 3
  else
    let e := s.checkTick p k
    if k.offset % 64 = 0 then e.1.hbmWrite k.offset k.data (packetMarks e.2) 0 else e.1.hbmMerge k.offset k.data (packetMarks e.2) k.job (some k.dstPart)

/-- Class 2 WRITE (R382): REMOTE HBM, or a logical cluster of DST_PART, where it waits for its GATE_IN. -/
def State.takeWrite (s : State) (p : Nat) (k : Packet) : State :=
  if isHbm k.offset then s.writeRemote p k
  else
    let l := (k.offset - 0xA000000000) / 0x800000
    if decide (0xA000000000 ≤ k.offset) && s.clAvailable l && s.owns k.dstPart l
        && decide (k.offset + k.data.length ≤ clMem l + clMemSize) then
      let e := s.checkTick p k
      e.1.modFport p fun f => { f with held := f.held ++ [e.2] }
    else (s.oweFor p k).refusePacket p k 3

/-- Class 2 READ_RESP: as WRITE to HBM (R382). -/
def State.takeReadResp (s : State) (p : Nat) (k : Packet) : State :=
  if isHbm k.offset then s.writeRemote p k else (s.oweFor p k).refusePacket p k 3

/-- Class 2 READ_REQ: the REMOTE region is read and a READ_RESP goes to SRC (R382). -/
def State.takeReadReq (s : State) (p : Nat) (k : Packet) : State :=
  let s := s.oweFor p k
  let n := numAt k.data 6 2
  if k.data.length < 8 ∨ n = 0 ∨ 4096 < n ∨ !isHbm (k.offset + n - 1) ∨ !s.inOwn k.dstPart [8] k.offset n then s.refusePacket p k 3
  else
    let e := s.checkTick p k
    let d := e.1.hbmRead k.offset n k.job (some k.dstPart) fun a => recUnit 2 p 3 6 0 k.job (6 * 2 ^ 60 + a) (some k.dstPart)
    let bad := e.2.poison.any id
    let r : Packet := { cls := 2, op := 3, dstPart := numAt k.data 5 1 % 16, dest := k.src, src := s.ownNumber p, job := k.job, pool := 0,
                        tag := 0, tick := k.tick, offset := numAt k.data 0 5, check := crc32c d.2.1, data := d.2.1,
                        poison := if bad then allBits (unitsOf n) true else unitMarks n (allBits 32 false ++ d.2.2) }
    if r.dest = d.1.ownNumber p then d.1 else d.1.transit r none

/-! Shards (R249). -/

/-- Bytes of a list in pieces of n with their offsets. -/
def pieces (n : Nat) : Nat → Nat → List Byte → List (Nat × List Byte)
  | 0, _, _ => []
  | k + 1, off, d => if d.isEmpty then [] else (off, d.take n) :: pieces n k (off + n) (d.drop n)

/-- The volume whose library copy holds a shard verified (R249). -/
def State.holdsShard (s : State) (id version shard : Nat) : Option Nat :=
  (s.sh.vol.find? fun e => decide (e.2.id = id) && decide (e.2.version = version) && decide (shard ∈ e.2.readable)).map (·.1)

/-- A SHARD_REQ is answered with SHARD_DATA from a verified library copy, read at this module's LIBRARY frames, or with SHARD_NONE. -/
def State.takeShardReq (s : State) (p : Nat) (k : Packet) : State :=
  let s := s.oweFor p k
  let f := Config.shardFields k.data
  let none_ (s : State) : State := s.sendClass3 (s.shardPacket 3 k.src ((Config.shardEncode f.1 f.2.1 f.2.2.1 0 []).take 4096)) none
  match s.holdsShard f.1 f.2.1 f.2.2.1 with
  | none => none_ s
  | some h => match s.readLib h f.2.2.1 0 (((s.vol h).shards.getD f.2.2.1 (0, 0)).1 + 64) with
    | (s, none) => none_ s
    | (s, some d) => (pieces 4032 (d.length / 4032 + 1) 0 d).foldl (fun s x =>
        s.sendClass3 (s.shardPacket 2 k.src ((Config.shardEncode f.1 f.2.1 f.2.2.1 x.1 x.2).take 4096)) none) s

/-- Is a volume's shard being fetched from a module: at staging (R249), or to restore its library copy (R272)? -/
def Volume.asks (v : Volume) (shard src : Nat) : Bool :=
  (v.awaits shard && !v.fromHost shard && decide (v.peers[v.tries shard - 1]? = some src))
    || match tabFind v.mending shard with
      | some k => decide (v.peers[k]? = some src)
      | none => false

/-- The volume whose attempt at a shard a module is answering (R249, R272). -/
def State.shardWaits (s : State) (id version shard src : Nat) : Option Nat :=
  (s.sh.vol.find? fun e => decide (e.2.id = id) && decide (e.2.version = version) && e.2.asks shard src).map (·.1)

/-- The attempt at a shard ends, at staging or at a restore. -/
def State.shardEnds (s : State) (h i : Nat) (d : Option (List Byte)) : State :=
  if (tabFind (s.vol h).mending i).isSome then s.mendArrives h i d else s.shardArrives h i d

/-- SHARD_DATA: the bytes are gathered, and the whole shard is verified; a poisoned packet fails the attempt. -/
def State.takeShardData (s : State) (p : Nat) (k : Packet) : State :=
  let s := s.oweFor p k
  let f := Config.shardFields k.data
  match s.shardWaits f.1 f.2.1 f.2.2.1 k.src with
  | none => s
  | some h =>
    if k.poison.any id then s.shardEnds h f.2.2.1 none
    else
      let i := f.2.2.1
      let got := (tabFind (s.vol h).partials i).getD []
      let got := if f.2.2.2.1 = got.length then got ++ f.2.2.2.2 else got
      let len := ((s.vol h).shards.getD i (0, 0)).1
      let s := s.modVol h fun v => { v with partials := tabInsert (tabErase v.partials i) i got }
      if len + 64 ≤ got.length then s.shardEnds h i (some got) else s

/-- SHARD_NONE counts as an attempt. -/
def State.takeShardNone (s : State) (p : Nat) (k : Packet) : State :=
  let s := s.oweFor p k
  let f := Config.shardFields k.data
  match s.shardWaits f.1 f.2.1 f.2.2.1 k.src with
  | none => s
  | some h => s.shardEnds h f.2.2.1 none

/-- A packet for this module is delivered by its class and OP (R382). -/
def State.takePacket (s : State) (p : Nat) (k : Packet) : State :=
  match k.cls, k.op with
  | 1, _ => s.takeQueuePacket p k
  | 2, 1 => s.takeWrite p k
  | 2, 2 => s.takeReadReq p k
  | 2, 3 => s.takeReadResp p k
  | 3, 1 => s.takeShardReq p k
  | 3, 2 => s.takeShardData p k
  | 3, 3 => s.takeShardNone p k
  | _, _ => (s.oweFor p k).refusePacket p k 3

/-- The last flit of a packet has arrived (R381, R382, R386, R393, R422): on an UP port it passes on, or is checked and delivered; a bridge
holds it until the next boundary. -/
def State.packetArrives (s : State) (p : Nat) (k : Packet) : State :=
  if !s.fbUp p then s
  else if k.cls ≠ 1 ∧ k.dest ≠ s.ownNumber p then s.passOn p k
  else if k.cls = 1 ∧ s.syncMode = 3 ∧ k.dest ≠ s.ownNumber p then s.passOn p k
  else
    let e := s.checkPacket p k
    if s.syncMode = 3 then e.1.modFport p fun f => { f with rx := f.rx ++ [e.2] } else e.1.takePacket p e.2

/-- A bridge's ingress lets go what it held (R422). -/
def State.bridgeBoundary (s : State) : State :=
  (List.range 8).foldl (fun s p =>
    let l := (s.fport p).rx
    l.foldl (fun s k => s.takePacket p k) (s.modFport p fun f => { f with rx := [] })) s

/-- Cluster-memory writes that no GATE_IN has taken by L − 1,000 ns are written poisoned, each with its record (R382). -/
def State.untakenWrites (s : State) : State :=
  (List.range 8).foldl (fun s p =>
    let l := (s.fport p).held
    l.foldl (fun s k =>
      let s := (s.packetRecord p k 3 0).oweFor p k
      s.storeMem k.offset k.data (allBits k.data.length true)) (s.modFport p fun f => { f with held := [] })) s

/-- QUEUE_PACKET. -/
def execQueuePacket (p : Fin 8) (k : Packet) (s : State) : Host.Outcome State Fault Refusal :=
  .next (s.packetArrives p { k with cls := 1, op := 0 })

/-- WRITE. -/
def execWrite (p : Fin 8) (k : Packet) (s : State) : Host.Outcome State Fault Refusal :=
  .next (s.packetArrives p { k with cls := 2, op := 1 })

/-- READ_REQ. -/
def execReadReq (p : Fin 8) (k : Packet) (s : State) : Host.Outcome State Fault Refusal :=
  .next (s.packetArrives p { k with cls := 2, op := 2 })

/-- READ_RESP. -/
def execReadResp (p : Fin 8) (k : Packet) (s : State) : Host.Outcome State Fault Refusal :=
  .next (s.packetArrives p { k with cls := 2, op := 3 })

/-- SHARD_REQ. -/
def execShardReq (p : Fin 8) (k : Packet) (s : State) : Host.Outcome State Fault Refusal :=
  .next (s.packetArrives p { k with cls := 3, op := 1 })

/-- SHARD_DATA. -/
def execShardData (p : Fin 8) (k : Packet) (s : State) : Host.Outcome State Fault Refusal :=
  .next (s.packetArrives p { k with cls := 3, op := 2 })

/-- SHARD_NONE. -/
def execShardNone (p : Fin 8) (k : Packet) (s : State) : Host.Outcome State Fault Refusal :=
  .next (s.packetArrives p { k with cls := 3, op := 3 })

end Sys2Proof.Machine
end

