-- ==== Sys2Proof/Machine/Sync.lean ====
section
/-! DEFINITION. The distributed tick counter, exits, the pending lists of announcements and their carriage, Cardor mode and bridging
(R311, R314, R397 to R421). Log entries 46, 47, 49. -/
namespace Sys2Proof.Machine
open Sys2Proof

/-- Does a port carry EXIT messages (R389, R407, R410, R413, R419)? A module that has left its domain still hears and forwards them (R411). -/
def State.exitPort (s : State) (p : Nat) : Bool :=
  s.fbUp p &&
    match s.syncMode with
    | 1 => decide (s.fld (fbPlanNeighbourRole p) ≠ 2)
    | 2 => decide (p < 4)
    | 3 => decide (p < 4) || decide (s.fld (fbPlanNeighbourRole p) ≠ 2)
    | _ => false

/-- Does a port carry synchronisation traffic (R397, R407, R410, R449)? -/
def State.syncPort (s : State) (p : Nat) : Bool := s.exitPort p && !s.fb.out && !s.ig.moduleFatal

/-- Does a port exchange TIME (R397, R413, R419)? -/
def State.timePort (s : State) (p : Nat) : Bool := s.syncPort p && (decide (s.syncMode = 1) || s.nativeSide p)

/-- Does a port exchange CTICK (R414, R419)? -/
def State.ctickPort (s : State) (p : Nat) : Bool := s.syncPort p && decide (p < 4) && (decide (s.syncMode = 2) || decide (s.syncMode = 3))

/-- Are two ports on one side of the module (R422)? -/
def State.sameSide (s : State) (p q : Nat) : Bool := decide (s.nativeSide p = s.nativeSide q)

/-- Send a message on every port that satisfies a test (R407). -/
def State.spread (s : State) (ok : State → Nat → Bool) (m : Nat → FbOut) : State :=
  (List.range 8).foldl (fun s p => if ok s p then s.sendCtl p (m p) else s) s

/-! Exits (R403, R406, R409 to R411, R417). -/

/-- FB_EXIT_LAST names an exit. -/
def State.exitLast (s : State) (module cause tgt : Nat) : State :=
  ((s.setFld fbExitLastModule module).setFld fbExitLastCause cause).setFld fbExitLastTick tgt

/-- The EXIT messages and the record of this module's exit (R410). -/
def State.tellExit (s : State) (cause tgt : Nat) : State :=
  let s := s.spread State.exitPort fun p => .exit (s.ownNumber p) cause tgt
  let s := s.exitLast (s.fld fbCoordModule) cause tgt
  s.post { sev := 3, kind := 21, sub := 1, domain := 4, unit := 0, detail := s.fld fbCoordModule * 2 ^ 16 + cause }

/-- An unplanned exit, in effect at the next boundary (R410). -/
def State.unplannedExit (s : State) (cause : Nat) : State :=
  if s.syncMode = 0 ∨ s.fb.out then s
  else match s.fb.exitAt with
    | some _ => s
    | none => { s.tellExit cause s.nextTick with fb := { (s.tellExit cause s.nextTick).fb with exitAt := some (s.nextTick, cause) } }

/-- A planned exit at the coming boundary is told (R410, R512); an unplanned one under way stands. -/
def State.plannedExit (s : State) : State :=
  if s.syncMode = 0 ∨ s.fb.out ∨ s.fb.exitAt.isSome then s
  else
    let s := s.tellExit 0 s.nextTick
    { s with fb := { s.fb with exitAt := some (s.nextTick, 0) } }

/-- An exit takes effect at the boundary that begins (R410, R411): a planned one sets EXITED, an unplanned one leaves LOCKED clear. -/
def State.exitNow (s : State) (cause : Nat) : State :=
  let s := if cause = 0 then s.setFlag ctSyncModeExited true else s.setFlag ctSyncModeLocked false
  let s := ((s.setFld fbSyncStatParent 15).setFld fbSyncStatDepth 63).setFlag fbSyncStatHoldover false
  { s with fb := { s.fb with out := true, exitAt := none, noParent := false } }

/-- The entries of a port toward an exited module become INERT: one record for each job (R411). -/
def State.exitInert (s : State) (p module cause : Nat) : State :=
  let jobs := ((s.entriesOf p).filter fun e => !s.flag (fbSlotTableInert p e)).foldl
    (fun l e => let j := (s.fld (fbSlotTableJob p e), s.fld (fbSlotTablePart p e)); if j ∈ l then l else l ++ [j]) []
  let s := (s.makeInert p).modFport p fun f => { f with inertAt := none, lastRx := none }
  jobs.foldl (fun s j => s.post { sev := 3, kind := 21, sub := 2, domain := 4, unit := 0, job := j.1, part := some j.2,
                                  detail := module * 2 ^ 16 + cause }) s

/-- EXIT: a module's exit, forwarded once; its neighbours stop their entries toward it (R410, R411, R422). -/
def execExit (p : Fin 8) (module : Nat) (cause : Nat) (tgt : Nat) (s : State) : Host.Outcome State Fault Refusal :=
  .next (
    if !s.exitPort p ∨ module ∈ s.fb.exited then s
    else
      let s := { s with fb := { s.fb with exited := module :: s.fb.exited } }
      let s := (s.incSat fbSyncStatExitsSeen 1).exitLast module cause tgt
      let s := s.post { sev := 1, kind := 21, sub := 2, domain := 4, unit := 0, detail := module % 4096 * 2 ^ 16 + cause % 4 }
      let s := s.spread (fun s q => s.exitPort q && decide (q ≠ p.val) && s.sameSide p q) fun _ => .exit module cause tgt
      (List.range 8).foldl (fun s q =>
        if s.sameSide p q && s.fbUp q && decide (s.fld (fbSeenNeighbourModule q) = module) && decide (s.fld (fbSeenNeighbourKind q) = 1) then
          s.modFport q fun f => { f with inertAt := some tgt, lastRx := none }
        else s) s)

/-! The pending lists (R311, R314). -/

/-- An entry of a list as its registers show it. -/
def announceWord (a : Announce) : Nat :=
  2 ^ 63 + bitNat a.remote * 2 ^ 62 + a.module % 4096 * 2 ^ 50 + a.part % 16 * 2 ^ 32 + a.action % 16 * 2 ^ 28 + a.arg % 65536

/-- CT_PEND_* and CT_DOM_* show the two lists. -/
def State.showLists (s : State) : State :=
  let s := (List.range 16).foldl (fun s k => match s.cat.local_[k]? with
    | some a => (s.setFld (ctPendTickTgt k) a.tgt).setReg (ctPendActReg k) (BitVec.ofNat 64 (announceWord a))
    | none => (s.setFld (ctPendTickTgt k) 0).setReg (ctPendActReg k) 0) s
  (List.range 64).foldl (fun s k => match s.cat.domain[k]? with
    | some a => (s.setFld (ctDomTickTgt k) a.tgt).setReg (ctDomActReg k) (BitVec.ofNat 64 (announceWord { a with part := 0 }))
    | none => (s.setFld (ctDomTickTgt k) 0).setReg (ctDomActReg k) 0) s

/-- Ticks from now to a target. -/
def State.ticksTo (s : State) (tgt : Nat) : Nat := (tgt % s.tickWrap + s.tickWrap - s.tick % s.tickWrap) % s.tickWrap

/-- An entry joins the local list, kept in ascending target, those of one target in the order accepted (R311, CT_PEND_ACT). -/
def State.addLocal (s : State) (a : Announce) : State :=
  { s with cat := { s.cat with local_ := sortBy (fun a => s.ticksTo a.tgt) (s.cat.local_ ++ [a]) } }

/-- An entry joins the domain list, kept in ascending target and then module and ASEQ (R408, CT_DOM_ACT). -/
def State.addDomain (s : State) (a : Announce) : State :=
  let key (a : Announce) : Nat := s.ticksTo a.tgt * 2 ^ 44 + a.module % 4096 * 2 ^ 32 + a.aseq % 2 ^ 32
  { s with cat := { s.cat with domain := sortBy key (s.cat.domain ++ [a]) } }.showLists

/-- ANNOUNCE: a peer's THROTTLE or EXIT, forwarded once and entered in the domain list; too late, or with the list full, this module
exits (R314, R407, R409, R422, R423). -/
def execAnnounce (p : Fin 8) (module : Nat) (aseq : Nat) (action : Nat) (arg : Nat) (tgt : Nat) (s : State) :
    Host.Outcome State Fault Refusal :=
  .next (
    if !s.syncPort p || s.fb.seen.contains (module, aseq) || (decide (action ≠ 2) && decide (action ≠ 3)) then s
    else
      let s : State := { s with fb := { s.fb with seen := (module, aseq) :: s.fb.seen } }
      let s := s.spread (fun s q => s.syncPort q && decide (q ≠ p.val) && s.sameSide p q) fun _ => .announce module aseq action arg tgt
      let late : Bool := s.tickReached tgt || s.tickDue tgt && decide (s.tickNs < s.t + 250)
      if late || decide (64 ≤ s.cat.domain.length) then s.unplannedExit 3
      else s.addDomain { tgt, action, part := 0, arg, module, remote := true, aseq })

/-! TIME (R397 to R403). -/

/-- The tick number a port's domain uses (R419). -/
def State.sideTick (s : State) (p : Nat) : Nat := if s.nativeSide p then s.fb.nativeTick else s.tick

/-- PRI this module advertises (R419). -/
def State.ownPri (s : State) : Nat := if s.syncMode = 3 then 0 else 1

/-- TIME_SEND: every 16.384 µs (R397, R398). -/
def execTimeSend (p : Fin 8) (lt : Int) (s : State) : Host.Outcome State Fault Refusal :=
  .next (
    if !s.timePort p then s
    else
      let f := s.fport p
      let n := match f.tx with | (k, _) :: _ => (k + 1) % 256 | [] => 0
      let m : TimeMsg :=
        { n, nLast := match f.lastRx with | some r => r.n | none => 0, t1Prev := match f.tx with | (_, t) :: _ => t | [] => 0,
          t2Last := match f.lastRx with | some r => r.arrive | none => 0, depth := if s.syncMode = 3 then 0 else s.fld fbSyncStatDepth,
          pri := s.fld fbSyncStatRootPri, root := s.fld fbSyncStatRoot, tick := s.sideTick p, bound := s.fb.bound,
          cum := satSigned 16 s.fb.cum, tickUs := s.fld ctTickLenUs, arrive := 0 }
      (s.modFport p fun f => { f with tx := ((n, lt) :: f.tx).take 16 }).sendCtl p (.time m))

/-- Raw link delay and offset of a message with the one before it (R400); none until both directions have one. -/
def timePair (f : FabPort) (m : TimeMsg) : Option (Int × Int) :=
  match f.tx.lookup m.nLast, f.lastRx with
  | some t1, some r =>
    if (r.n + 1) % 256 = m.n then
      let up := m.t2Last - t1
      let down := r.arrive - m.t1Prev
      some ((up + down) / 2, (up - down) / 2)
    else none
  | _, _ => none

/-- Smoothed offset of a port (R400). -/
def State.theta (s : State) (p : Nat) : Int := Config.timeSmooth (s.fport p).rawT

/-- The per-hop error and CUM against a message of the parent for the present tick (R400). -/
def State.hopError (s : State) (p : Nat) (m : TimeMsg) : State :=
  let f := s.fport p
  if s.fld fbSyncStatParent = p ∧ m.tick = s.sideTick p ∧ f.rawT ≠ [] then
    let e := s.fb.bound - (m.bound - s.theta p)
    let s := s.setFld (fbTimeErr p) (pattern 16 (satSigned 16 e))
    { s with fb := { s.fb with cum := e + m.cum } }
  else s

/-- TIME: an exchange with a neighbour (R397 to R400). -/
def execTime (p : Fin 8) (m : TimeMsg) (s : State) : Host.Outcome State Fault Refusal :=
  .next (
    if !s.timePort p ∨ s.fld (fbSeenNeighbourModule p) ∈ s.fb.exited then s
    else
      let s := s.incWrap (fbTimeExchanges p) 1
      let s := match timePair (s.fport p) m with
        | some (d, th) =>
          let s := s.modFport p fun f => { f with rawD := (d :: f.rawD).take 16, rawT := (th :: f.rawT).take 16 }
          (s.setFld (fbTimeDelay p) (clamp 0 65535 (Config.timeSmooth (s.fport p).rawD)).toNat).setFld (fbTimeOffset p)
            (pattern 16 (satSigned 16 (s.theta p)))
        | none => s
      (s.modFport p fun f => { f with lastRx := some m }).hopError p m)

/-- Routes a module hears: (PRI, ROOT, DEPTH, port) of each port's last message with a route (R399). -/
def State.routes (s : State) : List (Nat × Nat × Nat × Nat) :=
  (List.range 8).filterMap fun p =>
    if s.timePort p then
      match (s.fport p).lastRx with
      | some m => if m.depth < 63 then some (m.pri, m.root, m.depth, p) else none
      | none => none
    else none

/-- Order of (PRI, ROOT). -/
def rootKey (pri root : Nat) : Nat := pri * 4096 + root

/-- The root and the parent, chosen at a boundary (R399, R403): with routes heard, by the smallest (PRI, ROOT) and DEPTH, and the lowest
port; a module that had a parent and hears none holds over. -/
def State.chooseParent (s : State) : State :=
  let l := s.routes
  let own := s.fld fbCoordModule
  let old := s.fld fbSyncStatParent
  if l.isEmpty ∧ (old ≠ 15 ∨ s.fb.noParent) then
    let s := ((s.setFld fbSyncStatParent 15).setFld fbSyncStatDepth 63).setFlag fbSyncStatHoldover (s.flag ctSyncModeLocked)
    let s := if old ≠ 15 then s.incSat fbSyncStatParentChanges 1 else s
    { s with fb := { s.fb with noParent := true } }
  else
    let self := rootKey 1 own
    let best := l.foldl (fun b r => Nat.min b (rootKey r.1 r.2.1)) self
    let s := { s with fb := { s.fb with noParent := false } }.setFlag fbSyncStatHoldover false
    let s := (s.setFld fbSyncStatRoot (best % 4096)).setFld fbSyncStatRootPri (best / 4096)
    if best = self then
      let s := (s.setFld fbSyncStatDepth 0).setFld fbSyncStatParent 15
      let s := if old ≠ 15 then s.incSat fbSyncStatParentChanges 1 else s
      { s with fb := { s.fb with cum := 0 } }
    else
      let mine := l.filter fun r => decide (rootKey r.1 r.2.1 = best)
      let d := mine.foldl (fun d r => Nat.min d r.2.2.1) 63
      let p := ((mine.find? fun r => decide (r.2.2.1 = d)).map fun r => r.2.2.2).getD 15
      let s := (s.setFld fbSyncStatDepth (Nat.min 63 (d + 1))).setFld fbSyncStatParent p
      if old = p then s
      else
        let s := (s.incSat fbSyncStatParentChanges 1).setFld (fbTimeErr old) 0
        match (s.fport p).lastRx with
        | some m =>
          if m.tickUs ≠ s.fld ctTickLenUs then
            s.post (recUnit 2 p 1 19 4 0 (s.fld (fbSeenNeighbourModule p)) none)
          else s
        | none => s

/-- Is the parent's tick length this module's (R402)? -/
def State.parentMatches (s : State) : Bool :=
  match (s.fport (s.fld fbSyncStatParent)).lastRx with
  | some m => decide (m.tickUs = s.fld ctTickLenUs)
  | none => false

/-- A module that is not LOCKED joins its parent: tick number and boundary (R402). -/
def State.join (s : State) : State :=
  let p := s.fld fbSyncStatParent
  match (s.fport p).lastRx with
  | some m =>
    if (s.fport p).rawT = [] ∨ !s.parentMatches then s
    else
      let b := m.bound - s.theta p
      let l : Int := 16 * s.tickNs
      let k := (s.fb.bound - b) / l
      let n := (m.tick + k.toNat) % s.tickWrap
      let b' := b + k * l
      if n = s.tick ∧ b' - 16 ≤ s.fb.bound ∧ s.fb.bound ≤ b' + 16 then s
      else { s with tick := n, fb := { s.fb with bound := b', cum := m.cum } }
  | none => s

/-- LOCKED of a native module at a boundary (R403, R406). -/
def State.nativeLock (s : State) : State :=
  let within := decide (s.fb.cum.natAbs ≤ 400)
  let s := if within then s else s.incSat ctSyncErrOut 1
  if s.fld fbSyncStatDepth = 0 then s.setFlag ctSyncModeLocked true
  else if s.fld fbSyncStatParent = 15 then s
  else
    let s := { s with fb := { s.fb with lockRun := if within && s.parentMatches then s.fb.lockRun + 1 else 0, missRun := if within then 0 else s.fb.missRun + 1 } }
    if s.flag ctSyncModeLocked then
      if 4 ≤ s.fb.missRun then (s.setFlag ctSyncModeLocked false).unplannedExit 1 else s
    else if 16 ≤ s.fb.lockRun then s.setFlag ctSyncModeLocked true
    else s

/-- CT_SYNC_ERR shows an offset in ns (R400). -/
def State.showSync (s : State) (ns : Int) : State :=
  let v := satSigned 16 ns
  (s.setFld ctSyncErrNow (pattern 16 v)).setFld ctSyncErrMax (Nat.max (s.fld ctSyncErrMax) v.natAbs)

/-- HOLDOVER_EXPIRY: no parent for 10 ms (R403, R406). -/
def execHoldoverExpiry (s : State) : Host.Outcome State Fault Refusal :=
  .next (if s.syncMode = 1 ∧ s.fb.noParent then
      let was := s.flag ctSyncModeLocked
      let s := (s.setFlag ctSyncModeLocked false).setFlag fbSyncStatHoldover false
      if was then s.unplannedExit 1 else s
    else s)

/-! Cardor mode (R412 to R417) and bridging (R419, R421). -/

/-- Number of reference edges a module counts from its boundary to its CTICK (R414). -/
def State.ctickEdges (s : State) : Nat := s.tickNs / 200

/-- CTICK_SEND: once per tick, at the reference edge nearest T+L/2 (R414). -/
def execCtickSend (p : Fin 8) (edges : Nat) (s : State) : Host.Outcome State Fault Refusal :=
  .next (if s.ctickPort p then s.sendCtl p (.ctick (s.fld fbCoordModule) (s.tick % 2 ^ 32) (edges % 2 ^ 16)) else s)

/-- CTICK: a neighbour's tick number and boundary edge (R414, R416, R417). -/
def execCtick (p : Fin 8) (module : Nat) (tick : Nat) (edges : Nat) (s : State) : Host.Outcome State Fault Refusal :=
  .next (
    if !s.ctickPort p ∨ s.fld (fbSeenNeighbourModule p) ∈ s.fb.exited then s
    else
      let agrees : Bool := decide (tick = s.tick % 2 ^ 32) && decide (edges = s.ctickEdges)
      let lower : Bool := match s.fb.ctickSeen with | some (m, _, _) => decide (module ≤ m) | none => true
      let s := if agrees ∧ p.val ∉ s.fb.agreed then { s with fb := { s.fb with agreed := p.val :: s.fb.agreed } } else s
      let s := if lower ∧ module < s.fld fbCoordModule then { s with fb := { s.fb with ctickSeen := some (module, tick, edges) } } else s
      if s.flag ctSyncModeLocked ∧ !agrees then s.unplannedExit 2 else s)

/-- A Cardor boundary: an unlocked module takes the reference module's tick; LOCKED after 16 agreeing boundaries (R414, R416). -/
def State.cardorBoundary (s : State) : State :=
  let ports := (List.range 4).filter fun p => s.fbUp p
  let near := (ports.map fun p => s.fld (fbSeenNeighbourModule p)).foldl Nat.min (s.fld fbCoordModule)
  let s := s.setFld fbSyncStatRoot near
  let ok := s.flag fbSyncStatRefOk && ports.all fun p => decide (p ∈ s.fb.agreed)
  let run := if ok then s.fb.lockRun + 1 else 0
  let s := if s.flag ctSyncModeLocked then s
    else match s.fb.ctickSeen with
      | some (_, t, _) => { s with tick := (t + 1) % 2 ^ 32 }
      | none => s
  let s := { s with fb := { s.fb with lockRun := run, agreed := [], ctickSeen := none } }
  let s := if 16 ≤ run then s.setFlag ctSyncModeLocked true else s
  (s.showSync (signed 16 (Config.freeNat s.free))).draw 1

/-- A bridge that hears a PRI 0 root of a lower number keeps its native side unlocked (R421). -/
def State.bridgeRoot (s : State) : State :=
  let own := s.fld fbBridgeIdNativeModule
  let other := s.routes.find? fun r => decide (r.1 = 0) && decide (r.2.1 < own)
  let s := ((s.setFld fbSyncStatRoot own).setFld fbSyncStatRootPri 0).setFld fbSyncStatDepth 0
  match other with
  | some r =>
    if [4, 5, 6, 7].all fun p => s.flag (fbPortStateInert p) then s
    else ([4, 5, 6, 7].foldl State.makeInert s).post (recUnit 2 r.2.2.2 1 19 5 0 r.2.1 none)
  | none => s

/-- What synchronisation does at a boundary that has just begun (R399 to R403, R410, R411, R414, R416, R419, R421). -/
def State.syncBoundary (s : State) : State :=
  let s := { s with fb := { s.fb with bound := 16 * s.now, nativeTick := (s.fb.nativeTick + 1) % 2 ^ 64 } }
  let s := match s.fb.exitAt with
    | some (b, c) => if s.tickReached b then s.exitNow c else s
    | none => s
  let s := (List.range 8).foldl (fun s p => match (s.fport p).inertAt with
    | some b =>
      if s.tickReached b then
        s.exitInert p (s.fld (fbSeenNeighbourModule p)) (s.fld fbExitLastCause)
      else s
    | none => s) s
  if s.fb.out ∨ s.ig.moduleFatal then s
  else match s.syncMode with
    | 1 =>
      let s := s.chooseParent
      let s := if s.flag ctSyncModeLocked then s else s.join
      s.nativeLock.showSync (divRNE s.fb.cum 16)
    | 2 => s.cardorBoundary
    | 3 => s.cardorBoundary.bridgeRoot
    | _ => s

end Sys2Proof.Machine
end

