-- ==== Sys2Proof/Machine/Announcing.lean ====
section
/-! DEFINITION. Announcements requested through CT_ANNOUNCE, and the delivery and check of a partial catalogue (R309 to R317, R336, R340,
R407). Log entries 49, 52. -/
namespace Sys2Proof.Machine
open Sys2Proof

/-- CT_ANNOUNCE's word of a request (R311). -/
def requestWord (part action arg target : Nat) : W64 :=
  BitVec.ofNat 64 (part % 16 * 2 ^ 52 + action % 16 * 2 ^ 48 + arg % 65536 * 2 ^ 32 + target % 2 ^ 32)

/-- An accessor's instance of CT_ANNOUNCE takes a request's fields; READY and RESULT clear, and a request of the accessor's that still waits is replaced
(R321, CT_ANNOUNCE). -/
def State.announceSet (s : State) (acc : Accessor) (v : W64) : State :=
  match acc with
  | .vf _ _ => s
  | _ => ({ s with cat := { s.cat with requests := tabErase s.cat.requests (accNum acc) } }).setReg (instOff (accNum acc) 0x100038)
      (v &&& 0x00FFFFFFFFFFFFFF)

/-- READY and RESULT of an accessor's instance; what was written stays (R311, CT_ANNOUNCE). -/
def State.announceResult (s : State) (acc : Accessor) (result : Nat) : State :=
  match acc with
  | .vf _ _ => s
  | _ =>
    let o := instOff (accNum acc) 0x100038
    s.setReg o ((s.reg o &&& 0x00FFFFFFFFFFFFFF) ||| BitVec.ofNat 64 (2 ^ 63 + result % 8 * 2 ^ 60))

/-- Ticks from now to the target: to the next tick whose low 32 bits are TARGET (R311). -/
def State.leadTo (s : State) (target : BitVec 32) : Nat := (target.toNat + 2 ^ 32 - s.tick % 2 ^ 32) % 2 ^ 32

/-- Is a lead within what R311 accepts? -/
def leadOk (lead : Nat) : Bool := decide (256 ≤ lead) && decide (lead ≤ 16777216)

/-- May an accessor announce for a partition (R312)? -/
def State.mayPart (s : State) (acc : Accessor) (part : Nat) : Bool :=
  match acc with
  | .custodian => true
  | .host p => s.portOwns p part
  | .vf _ _ => false

/-- May an accessor announce THROTTLE or EXIT (R312)? -/
def State.mayDomain (s : State) (acc : Accessor) : Bool :=
  match acc with
  | .custodian => true
  | .host p => s.isControl p
  | .vf _ _ => false

/-- Is a partial STAGED for a partition? -/
def State.stagedFor (s : State) (part : Nat) : Bool := decide (s.fld ctCatStatePstate = 2) && decide (s.fld ctCatStatePpart = part)

/-- A swap of a partition is ANNOUNCED: its clusters show SWAP_PEND, and its new code is to come (R317). -/
def State.swapPending (s : State) (part : Nat) : State :=
  (s.ctg.clustersOf part).foldl (fun s l =>
    let s := s.setFlag (clStatusSwapPend l) true
    let s := { s with cat := { s.cat with imgSent := tabErase s.cat.imgSent l } }
    (List.range 32).foldl (fun s k => s.modCore (32 * l + k) fun x => { x with bufVerified := false }) s)
    (s.setFld ctCatStatePstate 3)

/-- A request for PARTIAL_SWAP is performed (R311, R312, R316, R317). -/
def State.requestSwap (s : State) (acc : Accessor) (part : Nat) (target : BitVec 32) : State :=
  let lead := s.leadTo target
  if !s.mayPart acc part then s.announceResult acc 3
  else match s.cat.staged with
    | none => s.announceResult acc 5
    | some c =>
      if !s.stagedFor part then s.announceResult acc 5
      else if !leadOk lead || decide (lead < imageLead s.ctg c) then s.announceResult acc 2
      else if 16 ≤ s.cat.local_.length then s.announceResult acc 4
      else
        let a : Announce := { tgt := (s.tick + lead) % s.tickWrap, action := 1, part, arg := 0, module := s.fld fbCoordModule, remote := false, aseq := 0 }
        let s := { s with cat := { s.cat with announcedIn := s.tick } }
        ((s.addLocal a).swapPending part).showLists.announceResult acc 1

/-- PARTIAL_SWAP. -/
def execPartialSwap (acc : Accessor) (part : Fin 16) (target : BitVec 32) (s : State) : Host.Outcome State Fault Refusal :=
  .next ((s.announceSet acc (requestWord part 1 0 target.toNat)).requestSwap acc part target)

/-- A request for THROTTLE or EXIT is performed: entered in the domain list and carried to every module (R311 to R314, R407). -/
def State.requestDomain (s : State) (acc : Accessor) (action arg : Nat) (target : BitVec 32) : State :=
  let lead := s.leadTo target
  if !s.mayDomain acc then s.announceResult acc 3
  else if !leadOk lead then s.announceResult acc 2
  else if 32 ≤ s.cat.domain.length then s.announceResult acc 4
  else
    let tgt := (s.tick + lead) % s.tickWrap
    let aseq := s.fb.aseq
    let own := s.fld fbCoordModule
    let s := { s with fb := { s.fb with aseq := (aseq + 1) % 2 ^ 32, seen := (own, aseq) :: s.fb.seen } }
    let s := s.spread State.syncPort fun p => .announce (s.ownNumber p) aseq action arg tgt
    (s.addDomain { tgt, action, part := 0, arg, module := own, remote := false, aseq }).announceResult acc 1

/-- THROTTLE. -/
def execThrottle (acc : Accessor) (arg : BitVec 16) (target : BitVec 32) (s : State) : Host.Outcome State Fault Refusal :=
  .next ((s.announceSet acc (requestWord 0 2 arg.toNat target.toNat)).requestDomain acc 2 arg.toNat target)

/-- ANNOUNCE_EXIT. -/
def execAnnounceExit (acc : Accessor) (target : BitVec 32) (s : State) : Host.Outcome State Fault Refusal :=
  .next ((s.announceSet acc (requestWord 0 3 0 target.toNat)).requestDomain acc 3 0 target)

/-- The staged partial and the incoming area are given up; PSTATE as told (R310, R311, R318, R321). -/
def State.freeStaged (s : State) (pstate : Nat) : State :=
  { s with cat := { s.cat with staged := none, incoming := [] } }.setFld ctCatStatePstate pstate

/-- A request for DISCARD is performed: the staged partial is freed at once (R311). -/
def State.requestDiscard (s : State) (acc : Accessor) (part : Nat) : State :=
  if !s.mayPart acc part then s.announceResult acc 3
  else if !s.stagedFor part then s.announceResult acc 5
  else (s.freeStaged 0).announceResult acc 1

/-- DISCARD. -/
def execDiscard (acc : Accessor) (part : Fin 16) (s : State) : Host.Outcome State Fault Refusal :=
  .next ((s.announceSet acc (requestWord part 4 0 0)).requestDiscard acc part)

/-- A request in CT_ANNOUNCE is performed by its ACTION (R311); one that the table of R311 does not name has no condition that holds. -/
def State.perform (s : State) (acc : Accessor) (v : W64) : State :=
  let target := BitVec.ofNat 32 (bitsOf v.toNat 0 32)
  match bitsOf v.toNat 48 4 with
  | 1 => s.requestSwap acc (bitsOf v.toNat 52 4) target
  | 2 => s.requestDomain acc 2 (bitsOf v.toNat 32 16) target
  | 3 => s.requestDomain acc 3 (bitsOf v.toNat 32 16) target
  | 4 => s.requestDiscard acc (bitsOf v.toNat 52 4)
  | _ => s.announceResult acc 5

/-- A write of CT_ANNOUNCE: its request waits until it is performed, and replaces one of the accessor's that still waits (R311, R321); ACTION 0 only
stores the fields. -/
def State.announceWrite (s : State) (acc : Accessor) (v : W64) : State :=
  match acc with
  | .vf _ _ => s
  | _ =>
    if bitsOf v.toNat 48 4 = 0 then
      let o := instOff (accNum acc) 0x100038
      s.setReg o ((s.reg o &&& 0xFF00000000000000) ||| (v &&& 0x00FFFFFFFFFFFFFF))
    else
      let s := s.announceSet acc v
      { s with cat := { s.cat with requests := tabInsert s.cat.requests (accNum acc) v } }

/-- The accessor of an instance number: host ports 0 to 3, then the custodian. -/
def accOfNum (n : Nat) : Accessor := if n < 4 then .host (Fin.ofNat 4 n) else .custodian

/-- The request of an instance is performed, and READY set, within 2 µs of its write (CT_ANNOUNCE; log entry 105). -/
def State.performRequest (s : State) (n : Nat) : State :=
  match tabFind s.cat.requests n with
  | none => s
  | some v => ({ s with cat := { s.cat with requests := tabErase s.cat.requests n } }).perform (accOfNum n) v

/-- Every request that waits. -/
def State.performRequests (s : State) : State := (s.cat.requests.map Prod.fst).foldl State.performRequest s

/-! Delivery of a partial. -/

/-- CT_CAT_DETAIL names a refusal (R310). -/
def State.catDetail (s : State) (e : CatErr) : State :=
  s.setReg ctCatDetailReg (BitVec.ofNat 64 (bitNat e.part.isSome * 2 ^ 63 + (e.part.getD 0) % 16 * 2 ^ 59 + e.sec % 32 * 2 ^ 54
    + Nat.min e.idx 65535 * 2 ^ 32 + s.tick % 2 ^ 32))

/-- A NOTE record of a refused partial, for its partition (R310). -/
def State.catNote (s : State) (sub reason part : Nat) : State :=
  s.post { sev := 1, kind := 17, sub, domain := 3, unit := 0, detail := reason, part := some part }

/-- A partial is refused (R310): the incoming area is freed, PSTATE shows REFUSED. -/
def State.refusePartial (s : State) (e : CatErr) (part : Nat) : State :=
  let s := ((s.freeStaged 4).setFld ctCatStatePreason e.reason).catDetail e
  let s := (s.doneOpt s.cat.stager 6 e.reason 0 0 0).catNote 1 e.reason part
  { s with cat := { s.cat with stager := none } }

/-- Is a partial STAGING, STAGED or ANNOUNCED (R309, BUSY)? -/
def State.partialBusy (s : State) : Bool := decide (1 ≤ s.fld ctCatStatePstate) && decide (s.fld ctCatStatePstate ≤ 3)

/-- A partial image for a partition arrives in the incoming area (R211, R309, R315); `req` is the request that waits for its check, and a read that ended
in an error leaves no image to check. -/
def State.stagePartial (s : State) (part len : Nat) (image : Dma) (req : Option StageReq) : State :=
  if s.partialBusy then
    let e : CatErr := { reason := 19, part := some part }
    ((s.catDetail e).doneOpt req 6 19 0 0 0).catNote 1 19 part
  else
    let s := { s with cat := { s.cat with stager := req } }
    let s := ((s.setFld ctCatStatePstate 1).setFld ctCatStatePreason 0).setFld ctCatStatePpart part
    match image with
    | none => s.refusePartial { reason := 2, part := some part } part
    | some b =>
      let b := b.take len
      let s := s.hbmWrite 0x70000000 b (allBits b.length false) 0
      { s with cat := { s.cat with incoming := b } }

/-- CATALOGUE_STAGE: a partial is delivered by the port that owns its partition (R336), or by custodian firmware (R315). -/
def execCatalogueStage (src : StageSource) (image : Dma) (s : State) : Host.Outcome State Fault Refusal :=
  .next (match src with
    | .port p => s.takeDesc p 13 fun s d =>
      s.stagePartial d.part (numAt d.body 8 4) image (some { port := p.val, ring := d.ring, req := d.req, user := d.user, irq := d.irq })
    | .custodian part => s.stagePartial part 268435456 image none)

/-- PARTIAL_CHECK_COMPLETE: the checks of R309 end: STAGED, or REFUSED (R310, R315). -/
def execPartialCheckComplete (s : State) : Host.Outcome State Fault Refusal :=
  .next (
    if s.fld ctCatStatePstate ≠ 1 then s
    else
      let part := s.fld ctCatStatePpart
      match s.checkPartial part s.cat.incoming with
      | .error e => s.refusePartial e part
      | .ok c =>
        let s := { s with cat := { s.cat with staged := some c } }.setFld ctCatStatePstate 2
        let s := s.doneOpt s.cat.stager 0 0 0 0 0
        { s with cat := { s.cat with stager := none } })

/-! The swap that is due (R318, R319, R321, R448, R449). -/

/-- The announced swap whose first tick is the coming one, with its partial; none where a FATAL record of the tick drops it or ends the module. -/
def State.swapDue (s : State) : Option (Announce × Cat) :=
  match s.cat.local_.find? fun a => s.tickDue a.tgt, s.cat.staged with
  | some a, some c =>
    if s.ig.moduleFatal || s.ig.fatalNow || decide (a.part ∈ s.ig.partFatal) || s.cat.swapping.isSome then none else some (a, c)
  | _, _ => none

/-- Does every staging buffer of a partition hold verified code (R318)? -/
def State.buffersReady (s : State) (n : Nat) : Bool :=
  (s.ctg.clustersOf n).all fun l => (List.range 32).all fun k => (s.cs (32 * l + k)).bufVerified

/-- The partition whose swap takes effect at the coming boundary, with the catalogue that will be in force. -/
def State.swapNext (s : State) : Option (Nat × Cat) :=
  match s.swapDue with
  | some (a, c) => if s.buffersReady a.part then some (a.part, s.ctg.merge c) else none
  | none => none

/-- Are a section's record and the record of the same number in another catalogue the same section, whatever volume they bind (R263, R279; log entry
106)? -/
def sameSection (old new : Cat) (n : Nat) : Bool :=
  let rec_ (c : Cat) : Option SectionRec :=
    (c.sections.find? fun r => decide (r.sec = n)).map fun r => { r with volume := 0, version := 0 }
  decide (rec_ old = rec_ new)

/-- Does the swap at the coming boundary remove or change a section? -/
def State.losesSection (s : State) (n : Nat) : Bool :=
  match s.swapNext with
  | some e => !sameSection s.ctg e.2 n
  | none => false

/-- Does it change a partition's KV layout or frame range (R230)? -/
def State.losesPages (s : State) (part : Nat) : Bool :=
  match s.swapNext with
  | some e => decide (e.1 = part) && kvChanged s.ctg e.2 part
  | none => false

/-! Images on their way (R317). -/

/-- The new leaf block of a cluster in the announced partial, when its swap is pending. -/
def State.newLeaf (s : State) (l : Nat) : Option LeafRec :=
  match s.cat.staged with
  | some c => if s.flag (clStatusSwapPend l) then c.leaves.find? fun b => decide (b.cluster = l) else none
  | none => none

/-- STAGING_BUFFER_VERIFIED: a core's new code is copied from SWAP_ADDR into its staging buffer and verified against its CHECK; the poison
of an IMAGE transfer fails it (R117, R317, R321). -/
def execStagingBufferVerified (c : CoreId) (s : State) : Host.Outcome State Fault Refusal :=
  .next (
    let c := c.toNat
    let l := c / 32
    match s.newLeaf l, s.ctg.clusterRec l with
    | some b, some k =>
      match b.cores[c % 32]? with
      | none => s
      | some e =>
        let due := sumNat ((b.cores.take (c % 32 + 1)).map fun x => x.len)
        if tabGet 0 s.cat.imgSent l < due then s
        else
          let a := clMem l + k.swapAddr + 32768 * (c % 32)
          let d := s.bytes a e.len
          let ok : Bool := decide (crc32c d = e.check) && !s.anyPoison a e.len
          let s := { s with core := { s.core with ibuf := putImage s.core.ibuf c d } }
          s.modCore c fun x => { x with bufVerified := ok }
    | _, _ => s)

end Sys2Proof.Machine
end

