-- ==== Sys2Proof/Machine/Exact.lean ====
section
/-! DEFINITION. The exact engine: job descriptors and their checks, number formats, GEMM, REDUCE and ADAPT arithmetic, the residue
check (R167 to R193, R200). What an abandoned job has written is log entry 19; operand rows outside the memory, log entry 20; the segments of an
ADAPT job at its submission, log entry 98. -/
namespace Sys2Proof.Machine
open Sys2Proof

/-- A job descriptor's fields (R172), dimensions as their values. -/
structure XeDesc where
  kind : Nat
  fmtA : Nat
  fmtB : Nat
  fmtOut : Nat
  acc : Nat
  transB : Bool
  token : Nat
  shift : Nat
  m : Nat
  n : Nat
  k : Nat
  aAddr : Nat
  aStride : Nat
  bAddr : Nat
  bStride : Nat
  dAddr : Nat
  dStride : Nat
  saAddr : Nat
  sbAddr : Nat
  alpha : F32
  segAddr : Nat
  segCount : Nat
deriving DecidableEq, Repr

/-- Read the fields of the eight descriptor words (R172). -/
def descOf (ws : List W64) : XeDesc :=
  let f (w lo n : Nat) : Nat := bitsOf (ws.getD w 0).toNat lo n
  { kind := f 0 0 4, fmtA := f 0 4 4, fmtB := f 0 8 4, fmtOut := f 0 12 4, acc := f 0 16 2, transB := decide (f 0 18 1 = 1),
    token := f 0 24 8, shift := f 0 32 6, m := f 1 0 16 + 1, n := f 1 16 16 + 1, k := f 1 32 16 + 1,
    aAddr := f 2 0 23, aStride := f 2 32 23, bAddr := f 3 0 23, bStride := f 3 32 23, dAddr := f 4 0 23, dStride := f 4 32 23,
    saAddr := f 5 0 23, sbAddr := f 5 32 23, alpha := BitVec.ofNat 32 (f 6 0 32), segAddr := f 7 0 23, segCount := f 7 23 5 + 1 }

/-- Class of a format code (R173): 0 integer, 1 FP8, 2 16-bit float, 3 MX; none for output-only and reserved codes. -/
def fmtClass (f : Nat) : Option Nat :=
  match f with
  | 0 => some 0
  | 1 | 2 => some 1
  | 3 | 4 => some 2
  | 5 | 6 | 7 | 8 | 9 | 10 => some 3
  | _ => none

/-- FMT_OUT that a class allows (R173). -/
def outAllowed (cls : Nat) : List Nat := if cls = 0 then [12, 0, 11, 3, 4] else [11, 3, 4, 1, 2]

/-- Is a result format floating-point? -/
def outIsFp (f : Nat) : Bool := decide (f ≠ 0) && decide (f ≠ 12)

/-- Bits of an element of a format code. -/
def elemBits (f : Nat) : Nat :=
  match f with
  | 3 | 4 => 16
  | 7 | 8 => 6
  | 9 => 4
  | 11 | 12 => 32
  | _ => 8

/-- Bytes of a packed row of elements (R172). -/
def rowBytes (f n : Nat) : Nat := ceilDiv (n * elemBits f) 8

/-- Bits [lo + n − 1 : lo] as a mask. -/
def bitMask (lo n : Nat) : Nat := (2 ^ n - 1) * 2 ^ lo

/-- Bits of each descriptor word that its KIND uses (R172, the table of fields used). -/
def usedMasks (d : XeDesc) : List Nat :=
  let addr := bitMask 0 23 + bitMask 32 23
  match d.kind with
  | 0 =>
    [bitMask 0 19 + bitMask 24 8 + (if d.fmtOut = 0 then bitMask 32 6 else 0), bitMask 0 48, addr, addr, addr,
     if fmtClass d.fmtA = some 3 then addr else 0, if outIsFp d.fmtOut then bitMask 0 32 else 0, 0]
  | 1 => [bitMask 0 8 + bitMask 12 6 + bitMask 24 8, 0, addr, 0, addr, 0, 0, bitMask 0 28]
  | _ => [bitMask 0 8 + bitMask 12 6 + bitMask 24 8, bitMask 0 16 + bitMask 32 16, addr, 0, addr, 0, bitMask 0 32, 0]

/-- Extent of rows: n rows of b bytes at a stride. -/
def rowsEnd (a stride n b : Nat) : Nat := a + (n - 1) * stride + b

/-- Columns and rows of the result (R172, R191). -/
def outCols (d : XeDesc) : Nat := if d.kind = 2 then 2 else d.n

/-- Requirements on formats and operand regions of each KIND (R172, R173). -/
def kindOk (d : XeDesc) : Bool :=
  match d.kind with
  | 0 =>
    match fmtClass d.fmtA with
    | none => false
    | some c =>
      let bRows := if d.transB then d.n else d.k
      let bRow := rowBytes d.fmtB (if d.transB then d.k else d.n)
      decide (fmtClass d.fmtB = some c) && decide (d.fmtOut ∈ outAllowed c)
        && (decide (d.acc = 0) || decide (d.fmtOut = 11) || decide (d.fmtOut = 12))
        && decide (d.shift ≤ 31) && decide (d.m ≤ 4096) && decide (d.n ≤ 4096)
        && (decide (c ≠ 3) || decide (d.k % 32 = 0))
        && decide (rowBytes d.fmtA d.k ≤ d.aStride) && decide (bRow ≤ d.bStride)
        && decide (rowBytes d.fmtOut d.n ≤ d.dStride)
        && decide (rowsEnd d.aAddr d.aStride d.m (rowBytes d.fmtA d.k) ≤ clMemSize)
        && decide (rowsEnd d.bAddr d.bStride bRows bRow ≤ clMemSize)
        && (decide (c ≠ 3) || (decide (d.saAddr + d.m * (d.k / 32) ≤ clMemSize) && decide (d.sbAddr + d.n * (d.k / 32) ≤ clMemSize)))
  | 1 =>
    decide (d.fmtA = 3) && decide (d.fmtOut = 11) && decide (d.acc = 1) && decide (d.segAddr + 16 * d.segCount ≤ clMemSize)
  | 2 =>
    (decide (d.fmtA = 11) || decide (d.fmtA = 3) || decide (d.fmtA = 4)) && decide (d.fmtOut = 11) && decide (d.m ≤ 4096)
      && decide (rowBytes d.fmtA d.k ≤ d.aStride) && decide (8 ≤ d.dStride)
      && decide (rowsEnd d.aAddr d.aStride d.m (rowBytes d.fmtA d.k) ≤ clMemSize)
  | _ => false

/-- Is the descriptor valid (R172, R173)? -/
def descValid (ws : List W64) : Bool :=
  let d := descOf ws
  decide (d.acc ≤ 1) && kindOk d && ((usedMasks d).zipIdx.all fun e => decide ((ws.getD e.2 0).toNat &&& e.1 = (ws.getD e.2 0).toNat))

/-- The D rows of a job known from its descriptor, as offset and length (ADAPT: none; its segments give them). -/
def destRows (d : XeDesc) : List (Nat × Nat) :=
  if d.kind = 1 then []
  else (List.range d.m).map fun i => (d.dAddr + i * d.dStride, rowBytes d.fmtOut (outCols d))

/-- A segment of an ADAPT job (R192). -/
structure Segment where
  first : Nat
  count : Nat
  buf : Nat
  slot : Nat
  gen : Nat
deriving DecidableEq, Repr

/-- The header of an adapter's buffer (R192, R225): slot, generation, rank, d_in, d_out, alpha, offsets of A and B within the buffer. -/
structure AdapterHead where
  slot : Nat
  gen : Nat
  r : Nat
  din : Nat
  dout : Nat
  alpha : F32
  aOff : Nat
  bOff : Nat
deriving DecidableEq, Repr

/-- Segment i of the list at SEG_ADDR. DESIGN CHOICE (log entry 98): an entry with nonzero reserved bytes, or with a row, count, slot or offset outside the
range R192 gives, is taken as it stands. -/
def State.segment (s : State) (l : Nat) (d : XeDesc) (i : Nat) : Segment :=
  let b := s.bytes (clMem l + d.segAddr + 16 * i) 16
  { first := numAt b 0 2, count := numAt b 2 2, buf := numAt b 4 3, slot := numAt b 8 2, gen := numAt b 10 2 }

/-- The header of a segment's buffer. -/
def State.adapterHead (s : State) (l : Nat) (g : Segment) : AdapterHead :=
  let h := s.bytes (clMem l + g.buf) 64
  { slot := numAt h 0 2, gen := numAt h 2 2, r := numAt h 4 2, din := numAt h 6 2, dout := numAt h 8 2, alpha := BitVec.ofNat 32 (numAt h 12 4),
    aOff := g.buf + numAt h 16 4, bOff := g.buf + numAt h 20 4 }

/-- Does the buffer hold the version that the segment names, with a rank in range (R193)? -/
def headMatches (g : Segment) (h : AdapterHead) : Bool :=
  decide (h.slot = g.slot) && decide (h.gen = g.gen) && decide (1 ≤ h.r) && decide (h.r ≤ 128)

/-- Rows of D that a segment writes, as offset and length. -/
def segmentRows (d : XeDesc) (g : Segment) (h : AdapterHead) : List (Nat × Nat) :=
  (List.range g.count).map fun x => (d.dAddr + (g.first + x) * d.dStride, 4 * h.dout)

/-- Do a segment's rows keep to R172: strides no smaller than a row, the input rows within the 8 MiB? -/
def segmentOk (d : XeDesc) (g : Segment) (h : AdapterHead) : Bool :=
  decide (2 * h.din ≤ d.aStride) && decide (4 * h.dout ≤ d.dStride)
    && (decide (g.count = 0) || decide (d.aAddr + (g.first + g.count - 1) * d.aStride + 2 * h.din ≤ clMemSize))

/-- The segments of an ADAPT job whose buffers hold the versions they name, each with its header. -/
def State.adaptSegments (s : State) (l : Nat) (d : XeDesc) : List (Segment × AdapterHead) :=
  ((List.range d.segCount).map fun i => (s.segment l d i, s.adapterHead l (s.segment l d i))).filter fun e => headMatches e.1 e.2

/-- Does an ADAPT job keep to R172 in its segments? Every other job does in its descriptor. -/
def State.segmentsOk (s : State) (l : Nat) (d : XeDesc) : Bool :=
  decide (d.kind ≠ 1) || (s.adaptSegments l d).all fun e => segmentOk d e.1 e.2

/-- The rows of D that a job will write: those of its descriptor, or of its segments (R170, R192). -/
def State.jobRows (s : State) (l : Nat) (d : XeDesc) : List (Nat × Nat) :=
  if d.kind = 1 then (s.adaptSegments l d).foldl (fun a e => a ++ segmentRows d e.1 e.2) [] else destRows d

/-- Does a destination leave the 8 MiB or touch the cell pool (R170 reason 2)? -/
def State.destBad (s : State) (l : Nat) (rows : List (Nat × Nat)) : Bool :=
  rows.any fun e => decide (clMemSize < e.1 + e.2) || s.aimsPool l e.1 e.2

/-- Jobs waiting, as QDEPTH of XE_MODE shows them. -/
def State.showXe (s : State) (l : Nat) : State :=
  let s := s.setFld (xeModeQdepth l) (s.xe l).queue.length
  if s.fld (xeModeState l) = 3 then s else s.setFld (xeModeState l) (if (s.xe l).running.isSome then 1 else 0)

/-- A refused ESUB: the word has ACCEPTED clear and the reason, and REFUSED counts it (R170). -/
def State.refuseJob (s : State) (c : Nat) (rd : GReg) (reason : Nat) : State :=
  (s.setGpr c rd (BitVec.ofNat 64 reason) false).incSat (xeJobsRefused (c / 32)) 1

/-- A DESC_INVALID record of the exact engine (R170). -/
def recDesc (s : State) (c : Nat) : Rec := recCluster s (c / 32) 3 10 1 (s.cs c).job.toNat 1

/-- ESUB: post a job descriptor in data scratch to the cluster's exact engine (R118, R170 to R173, R200). -/
def execEsub (c : CoreId) (rd : GReg) (desc : GReg) (s : State) : Host.Outcome State Fault Refusal :=
  .next (s.issue c fun s => s.needJob c fun s =>
    let l := c.val / 32
    let a := (s.gpr c desc).toNat
    if s.gprP c desc then (s.loadPoisoned c (.g rd)).setLatch c
    else if (s.xe l).failed || decide (s.fld (xeModeState l) = 3) then (s.refuseJob c rd 3).setLatch c
    else if !inExtent a 64 65536 then
      let s := (s.refuseJob c rd 1).setLatch c
      s.post (recDesc s c)
    else
      let s := s.scratchErrors c a 64
      let bytes := s.scratch c a 64
      let ws := (List.range 8).map fun i => BitVec.ofNat 64 (numAt bytes (8 * i) 8)
      if s.scratchP c a 64 then (s.refuseJob c rd 1).setLatch c
      else if !descValid ws || !s.segmentsOk l (descOf ws) then
        let s := (s.refuseJob c rd 1).setLatch c
        s.post (recDesc s c)
      else if s.destBad l (s.jobRows l (descOf ws)) then (s.refuseJob c rd 2).refuseAccess c 5 (descOf ws).dAddr
      else if 16 ≤ (s.xe l).queue.length then s.refuseJob c rd 0
      else
        let j : XeJob := { words := ws, job := (s.cs c).job.toNat, core := c, poisonAll := (s.cs c).latch }
        let s := (s.modXe l fun e => { e with queue := e.queue ++ [j] }).showXe l
        s.setGpr c rd (BitVec.ofNat 64 (2 ^ 63)) false)

/-- EXACT_JOB_START: jobs run one at a time in acceptance order (R169, R171). -/
def execExactJobStart (l : ClusterId) (s : State) : Host.Outcome State Fault Refusal :=
  .next (match (s.xe l).running, (s.xe l).queue with
    | none, j :: rest =>
      if (s.xe l).failed then s else (s.modXe l fun e => { e with queue := rest, running := some j }).showXe l
    | _, _ => s)

/-! Operand elements. -/

/-- Floating-point format of a code (R173); MX codes name their element's. -/
def fmtOfCode (f : Nat) : FpFmt :=
  match f with
  | 1 | 5 => fmtE4M3
  | 2 | 6 => fmtE5M2
  | 3 => fmtBf16
  | 4 => fmtF16
  | 7 => fmtE2M3
  | 8 => fmtE3M2
  | 9 => fmtE2M1
  | _ => fmtF32

/-- Element j of a packed row (R172). -/
def elemAt (f : Nat) (row : List Byte) (j : Nat) : Nat :=
  let b := j * elemBits f
  bitsOf (numAt row (b / 8) 4) (b % 8) (elemBits f)

/-- Value of an element pattern (R177); MXINT8 stands for k · 2^−6. -/
def elemVal (f v : Nat) : Fp := if f = 10 then fpScale (fpInt (signed 8 v)) (-6) else fpOf (fmtOfCode f) v

/-- One FP32 accumulation with a single rounding (R178). -/
def accumulate (acc : F32) (x : Fp) : F32 := round32 (fpAdd (val32 acc) x)

/-- R178: products in ascending k, each added with one rounding. -/
def dotFp (xs : List (Fp × Fp)) : F32 := xs.foldl (fun acc e => accumulate acc (fpMul e.1 e.2)) 0

/-- R179: exact block sums scaled by both block scales; a scale of 0xFF contributes NaN. -/
def dotMx (blocks : List (List (Fp × Fp) × Nat × Nat)) : F32 :=
  blocks.foldl (fun acc b =>
    if b.2.1 = 255 ∨ b.2.2 = 255 then accumulate acc .nan
    else
      let sum := b.1.foldl (fun t e => fpAdd t (fpMul e.1 e.2)) (.fin false 0 0)
      accumulate acc (fpScale sum ((b.2.1 : Int) + (b.2.2 : Int) - 254))) 0

/-- R180: the exact integer sum. -/
def dotInt (xs : List (Int × Int)) : Int := sumInt (xs.map fun e => e.1 * e.2)

/-- r(x) of R185. -/
def residue (x : Int) : Int := x % 255

/-- The residue datapath's value for one output element (R185). -/
def residueSum (xs : List (Int × Int)) : Int := sumInt (xs.map fun e => residue e.1 * residue e.2) % 255

/-- Does an accumulator agree with the residue value (R185)? -/
def residueAgrees (acc : Int) (xs : List (Int × Int)) : Bool := decide (residue acc = residueSum xs)

/-- A saturated or wrapped integer result, and whether it saturated (R181). -/
def intResult (w : Nat) (sat : Bool) (x : Int) : Int × Bool :=
  if sat then (satSigned w x, decide (satSigned w x ≠ x)) else (wrapSigned w x, false)

/-- Conversion of an FP32 value to a result format (R181, R182). -/
def fpResult (fmtOut : Nat) (fp8Sat : Bool) (v : F32) : Nat :=
  if fmtOut = 11 then fpTo fmtF32 false (val32 v) else fpTo (fmtOfCode fmtOut) (fp8Sat && decide (fmtOut = 1 ∨ fmtOut = 2)) (val32 v)

/-- R181 for a floating-point result: scale, optional addition into D, conversion. -/
def finishFp (d : XeDesc) (fp8Sat : Bool) (acc : F32) (old : Nat) : Nat :=
  let v := round32 (fpMul (val32 d.alpha) (val32 acc))
  let v := if d.acc = 1 then round32 (fpAdd (val32 (BitVec.ofNat 32 old)) (val32 v)) else v
  fpResult d.fmtOut fp8Sat v

/-- R181 for an integer result: the pattern written and whether it saturated. -/
def finishInt (d : XeDesc) (intSat fp8Sat : Bool) (acc : Int) (old : Nat) : Nat × Bool :=
  if d.fmtOut = 12 then
    let v := intResult 32 intSat acc
    if d.acc = 1 then
      let w := intResult 32 intSat (signed 32 old + v.1)
      (pattern 32 w.1, v.2 || w.2)
    else (pattern 32 v.1, v.2)
  else if d.fmtOut = 0 then
    let v := intResult 8 intSat (divRNE acc (2 ^ d.shift))
    (pattern 8 v.1, v.2)
  else (finishFp d fp8Sat (round32 (fpInt acc)) old, false)

/-! Reading operands. -/

/-- Bytes of cluster memory l at an offset. -/
def State.clBytes (s : State) (l a n : Nat) : List Byte := s.bytes (clMem l + a) n

/-- Does an extent of cluster memory carry poison, or leave the 8 MiB? -/
def State.clPoison (s : State) (l a n : Nat) : Bool := decide (clMemSize < a + n) || s.anyPoison (clMem l + a) n

/-- Row i of A of a job: its bytes. -/
def State.rowA (s : State) (l : Nat) (d : XeDesc) (i : Nat) : List Byte :=
  s.clBytes l (d.aAddr + i * d.aStride) (rowBytes d.fmtA d.k)

/-- Pattern of B[k][n] (R172, TRANS_B). -/
def State.elemB (s : State) (l : Nat) (d : XeDesc) (k n : Nat) : Nat :=
  let rc := if d.transB then (n, k) else (k, n)
  elemAt d.fmtB (s.clBytes l (d.bAddr + rc.1 * d.bStride) (rowBytes d.fmtB (if d.transB then d.k else d.n))) rc.2

/-- Does a poisoned word lie in column n of B (R184)? -/
def State.poisonB (s : State) (l : Nat) (d : XeDesc) (n : Nat) : Bool :=
  if d.transB then s.clPoison l (d.bAddr + n * d.bStride) (rowBytes d.fmtB d.k)
  else (List.range d.k).any fun k =>
    let b := n * elemBits d.fmtB
    s.clPoison l (d.bAddr + k * d.bStride + b / 8) ((b % 8 + elemBits d.fmtB + 7) / 8)

/-- Bytes of a result element. -/
def outBytes (d : XeDesc) : Nat := elemBits d.fmtOut / 8

/-- Offset of D[m][n]. -/
def dElem (d : XeDesc) (m n : Nat) : Nat := d.dAddr + m * d.dStride + n * outBytes d

/-- Code pairs of a block of a row and a column whose elements are MXINT8 (R177, R185). -/
def mxintPairs (a b : Nat → Nat) (i : Nat) : List (Int × Int) :=
  (List.range 32).map fun k => (signed 8 (a (32 * i + k)), signed 8 (b (32 * i + k)))

/-- One element of a GEMM (R178 to R181, R184): its pattern, whether it saturated, whether it is poisoned. An element of the classes that the residue check
covers is written poisoned where the check disagrees (R185, R186): the accumulators formed here are exact and agree (`dotInt_residueAgrees`), so that a
disagreement is one that the command reports of the hardware's. -/
def State.gemmElem (s : State) (l : Nat) (d : XeDesc) (intSat fp8Sat : Bool) (rowBytesA : List Byte) (rowPoison : Bool)
    (colB : List Nat) (colPoison : Bool) (m n : Nat) : Nat × Bool × Bool :=
  let old := leNat (s.clBytes l (dElem d m n) (outBytes d))
  let blocks := d.k / 32
  let mx := decide (fmtClass d.fmtA = some 3)
  let poison := rowPoison || colPoison
    || (mx && (s.clPoison l (d.saAddr + m * blocks) blocks || s.clPoison l (d.sbAddr + n * blocks) blocks))
    || (decide (d.acc = 1) && s.clPoison l (dElem d m n) (outBytes d))
  let a (k : Nat) : Nat := elemAt d.fmtA rowBytesA k
  let b (k : Nat) : Nat := colB.getD k 0
  if d.fmtA = 0 then
    let xs := (List.range d.k).map fun k => (signed 8 (a k), signed 8 (b k))
    let r := finishInt d intSat fp8Sat (dotInt xs) old
    (r.1, r.2, poison || !residueAgrees (dotInt xs) xs)
  else if mx then
    let bs := (List.range blocks).map fun i =>
      ((List.range 32).map fun k => (elemVal d.fmtA (a (32 * i + k)), elemVal d.fmtB (b (32 * i + k))),
       leNat (s.clBytes l (d.saAddr + m * blocks + i) 1), leNat (s.clBytes l (d.sbAddr + n * blocks + i) 1))
    let agree := decide (d.fmtA ≠ 10) || decide (d.fmtB ≠ 10)
      || (List.range blocks).all fun i => residueAgrees (dotInt (mxintPairs a b i)) (mxintPairs a b i)
    (finishFp d fp8Sat (dotMx bs) old, false, poison || !agree)
  else (finishFp d fp8Sat (dotFp ((List.range d.k).map fun k => (elemVal d.fmtA (a k), elemVal d.fmtB (b k)))) old, false, poison)

/-- Tile of 32 rows and 64 columns that holds an element (R167). -/
def tileOf (m n : Nat) : Nat × Nat := (m / 32, n / 64)

/-- A row of results: offset, bytes, a poison bit per byte, whether an element saturated. -/
structure OutRow where
  off : Nat
  bytes : List Byte
  poison : List Bool
  sat : Bool
deriving DecidableEq, Repr

/-- Pack the elements of a result row. -/
def packRow (off size : Nat) (es : List (Nat × Bool × Bool)) : OutRow :=
  { off, bytes := es.foldl (fun l e => l ++ leBytes size e.1) [], poison := es.foldl (fun l e => l ++ allBits size e.2.2) [],
    sat := es.any fun e => e.2.1 }

/-- The rows a GEMM writes; `bad` tells which tiles persist in disagreement (R186). -/
def State.gemmRows (s : State) (l : Nat) (d : XeDesc) (intSat fp8Sat all : Bool) (bad : Nat × Nat → Bool) : List OutRow :=
  let cols := (List.range d.n).map fun n => ((List.range d.k).map fun k => s.elemB l d k n, s.poisonB l d n)
  (List.range d.m).map fun m =>
    let ra := s.rowA l d m
    let pa := s.clPoison l (d.aAddr + m * d.aStride) (rowBytes d.fmtA d.k)
    packRow (d.dAddr + m * d.dStride) (outBytes d) (cols.zipIdx.map fun e =>
      let r := s.gemmElem l d intSat fp8Sat ra pa e.1.1 e.1.2 m e.2
      (r.1, r.2.1, r.2.2 || all || bad (tileOf m e.2)))

/-- The rows a REDUCE writes (R191): row sum, and row maximum. -/
def State.reduceRows (s : State) (l : Nat) (d : XeDesc) (all : Bool) : List OutRow :=
  (List.range d.m).map fun m =>
    let row := s.rowA l d m
    let xs := (List.range d.k).map fun k => elemVal d.fmtA (elemAt d.fmtA row k)
    let old (i : Nat) : Nat := leNat (s.clBytes l (d.dAddr + m * d.dStride + 4 * i) 4)
    let sum := finishFp d false (dotFp (xs.map fun x => (x, fpInt 1))) (old 0)
    let top := xs.foldl fpMax (xs.headD .nan)
    let top := if d.acc = 1 then fpMax (fpOf fmtF32 (old 1)) top else top
    let p := all || s.clPoison l (d.aAddr + m * d.aStride) (rowBytes d.fmtA d.k)
    let pd (i : Nat) : Bool := p || (decide (d.acc = 1) && s.clPoison l (d.dAddr + m * d.dStride + 4 * i) 4)
    packRow (d.dAddr + m * d.dStride) 4 [(sum, false, pd 0), (fpTo fmtF32 false top, false, pd 1)]

/-- Rows of a segment that the engine poisons instead of computing (R193): each to its stride, within the 8 MiB. -/
def State.poisonRows (s : State) (l : Nat) (d : XeDesc) (g : Segment) : State :=
  (List.range g.count).foldl (fun s i =>
    let o := d.dAddr + (g.first + i) * d.dStride
    s.poison (clMem l + o) (Nat.min d.dStride (clMemSize - o))) s

/-- One segment of an ADAPT job (R192, R193): answers the state, whether a word was written poisoned. DESIGN CHOICE (log entry 98): rows of D that
have come to leave the 8 MiB or to touch the pool since ESUB are not written; that is the refusal of R145 with the posting core's latch. -/
def State.adaptSegment (s : State) (l : Nat) (d : XeDesc) (job core : Nat) (all : Bool) (i : Nat) : State × Bool :=
  let g := s.segment l d i
  let s := s.readErrors l job g.buf 64
  let h := s.adapterHead l g
  let rows := segmentRows d g h
  if !headMatches g h then
    ((s.poisonRows l d g).post (recCluster s l 3 12 1 job (g.slot * 2 ^ 16 + g.gen)), true)
  else if s.destBad l rows then (s.refuseAccess core 5 d.dAddr, true)
  else
    let s := (s.readErrors l job h.aOff (2 * h.r * h.din)).readErrors l job h.bOff (2 * h.r * h.dout)
    let s := rows.zipIdx.foldl (fun s e =>
      (s.readErrors l job (d.aAddr + (g.first + e.2) * d.aStride) (2 * h.din)).readErrors l job e.1.1 e.1.2) s
    let bf (a : Nat) : Fp := elemVal 3 (leNat (s.clBytes l a 2))
    let seg := all || s.clPoison l (d.segAddr + 16 * i) 16 || s.clPoison l g.buf 64 || s.clPoison l h.aOff (2 * h.r * h.din)
    let out := rows.zipIdx.map fun e =>
      let x := d.aAddr + (g.first + e.2) * d.aStride
      let t := (List.range h.r).map fun j =>
        fpOf fmtBf16 (fpTo fmtBf16 false (val32 (dotFp ((List.range h.din).map fun q =>
          (bf (x + 2 * q), bf (h.aOff + 2 * (j * h.din + q)))))))
      let p := seg || s.clPoison l x (2 * h.din)
      packRow e.1.1 4 ((List.range h.dout).map fun o =>
        let u := dotFp (t.zipIdx.map fun y => (y.1, bf (h.bOff + 2 * (o * h.r + y.2))))
        let old := e.1.1 + 4 * o
        let v := round32 (fpAdd (val32 (BitVec.ofNat 32 (leNat (s.clBytes l old 4)))) (val32 (round32 (fpMul (val32 h.alpha) (val32 u)))))
        (v.toNat, false, p || s.clPoison l (h.bOff + 2 * o * h.r) (2 * h.r) || s.clPoison l old 4))
    (out.foldl (fun s w => s.storeMem (clMem l + w.off) w.bytes w.poison) s, out.any fun w => w.poison.any id)

/-- The segments of an ADAPT job, in order. -/
def State.adaptRun (s : State) (l : Nat) (d : XeDesc) (job core : Nat) (all : Bool) : State × Bool :=
  (List.range d.segCount).foldl (fun e i =>
    let r := e.1.adaptSegment l d job core all i
    (r.1, e.2 || r.2)) (s, false)

/-! Completion. -/

/-- Bit errors met while the operands of a job are read (R143, R184). -/
def State.operandErrors (s : State) (l job : Nat) (d : XeDesc) : State :=
  let rows (s : State) (a stride n b : Nat) : State := (List.range n).foldl (fun s i => s.readErrors l job (a + i * stride) b) s
  match d.kind with
  | 1 => s.readErrors l job d.segAddr (16 * d.segCount)
  | k =>
    let s := rows s d.aAddr d.aStride d.m (rowBytes d.fmtA d.k)
    let s := if d.acc = 1 then rows s d.dAddr d.dStride d.m (rowBytes d.fmtOut (outCols d)) else s
    if k = 0 then
      let s := rows s d.bAddr d.bStride (if d.transB then d.n else d.k) (rowBytes d.fmtB (if d.transB then d.k else d.n))
      if fmtClass d.fmtA = some 3 then (s.readErrors l job d.saAddr (d.m * (d.k / 32))).readErrors l job d.sbAddr (d.n * (d.k / 32))
      else s
    else s

/-- A residue disagreement of one tile (R186, R187). -/
def State.residueEvent (s : State) (l job : Nat) (f : ResidueFault) : State :=
  let s := ((s.setFlag (xeResidueErrNew l) true).setFld (xeResidueErrLastJob l) job).setFld (xeResidueErrLastTick l) s.tick20
  let d := f.row * 2 ^ 16 + f.col % 2 ^ 12
  if f.persistent then
    let s := (s.setFlag (xeResidueErrPersist l) true).incSat (xeResidueErrPersistent l) 1
    let s := s.modXe l fun e => { e with persist := s.tick :: e.persist.filter fun t => decide (s.tick < t + 1048576) }
    s.post (recCluster s l 3 3 0 job (d ||| 1))
  else
    let s := s.incSat (xeResidueErrTransient l) 1
    s.post (recCluster s l 2 3 0 job d)

/-- Three persistent disagreements within 1,048,576 ticks fail the engine and with it the cluster (R187). -/
def State.residueFail (s : State) (l : Nat) : State :=
  if 3 ≤ (s.xe l).persist.length ∧ s.fld (clStatusMap l) = 0 then s.failCluster l 5 else s

/-- Does the residue check cover the job (R185): the integer class, and MXINT8? -/
def residueCovers (d : XeDesc) : Bool := decide (d.kind = 0) && (decide (d.fmtA = 0) || (decide (d.fmtA = 10) && decide (d.fmtB = 10)))

/-- The effect of a whole job (R174, R181, R184, R191, R192): its result rows are written; answers whether a word was poisoned. -/
def State.runJob (s : State) (l : Nat) (j : XeJob) (faults : List ResidueFault) : State × Bool :=
  let d := descOf j.words
  let all := j.poisonAll || ((s.cs j.core).latch && decide ((s.cs j.core).job.toNat = j.job))
  let intSat := s.flag (xeModeIntSat l)
  let fp8Sat := s.flag (xeModeFp8Sat l)
  if d.kind = 1 then s.adaptRun l d j.job j.core all
  else
    let bad (t : Nat × Nat) : Bool := faults.any fun f => f.persistent && decide (f.row = t.1) && decide (f.col = t.2)
    let rows := if d.kind = 0 then s.gemmRows l d intSat fp8Sat all bad else s.reduceRows l d all
    let s := rows.foldl (fun s w => s.storeMem (clMem l + w.off) w.bytes w.poison) s
    let s := if rows.any OutRow.sat then s.setSat j.core else s
    (s, rows.any fun w => w.poison.any id)

/-- EXACT_JOB_COMPLETE: the job's last result word is written, its residues settled, its token signalled (R174, R186). -/
def execExactJobComplete (l : ClusterId) (faults : List ResidueFault) (s : State) : Host.Outcome State Fault Refusal :=
  .next (match (s.xe l).running with
    | none => s
    | some j =>
      if (s.xe l).failed then s else
      let d := descOf j.words
      let s := s.operandErrors l j.job d
      let faults := if residueCovers d then faults else []
      let s := faults.foldl (fun s f => s.residueEvent l j.job f) s
      let r := s.runJob l j faults
      let s := (r.1.modXe l fun e => { e with running := none }).showXe l
      let s := (s.signal l d.token 1 r.2).incWrap (xeJobsDone l) 1
      s.residueFail l)

end Sys2Proof.Machine
end

