-- ==== Sys2Proof/Machine/Arbitrate.lean ====
section
/-! DEFINITION. Arbitration between a crossbar and its checker (R195 to R200, R432 to R434). Log entries 25, 26. -/
namespace Sys2Proof.Machine
open Sys2Proof

/-- Severity of a CHECK_DISAGREE record by policy and verdict code (R434). -/
def disagreeSev (policy verdict : Nat) : Nat :=
  if policy = 0 then (if 1 ≤ verdict ∧ verdict ≤ 3 then 2 else if verdict = 4 then 1 else 3) else 3

/-- A product whose release waits for the verdict is released at handover, with exact results or with every result poisoned (R434). -/
def State.handOver (s : State) (x : Nat) (exact : Option (List (Nat × Int))) (poison : Bool) : State :=
  let r := s.xrun x
  match r.held, r.conv with
  | some p, _ => s.releaseHeld x { p with verdict := exact, allPoison := p.allPoison || poison }
  | none, some p =>
    if p.hold then
      s.modXrun x fun r => { r with
        conv := some { p with hold := false, verdict := exact, allPoison := p.allPoison || poison, earliest := s.t } }
    else s
  | none, none => s

/-- The crossbar's arbitration ends: the latch is free, the engine turns to its next request, the verdict acts from the next
boundary, and the record is posted (R195, R197, R433, R434). -/
def State.endArb (s : State) (x : Nat) (d : Dispute) (verdict : Nat) (dd di : Int) (test : Bool) : State :=
  let l := xbCluster x
  let s := s.modXe l fun e => { e with arb := e.arb.erase x }
  let s := (s.modXrun x fun r => { r with dispute := none }).addEffect x verdict d.group
  let detail := match (vecPhases d.prod.fmt d.prod.vec)[d.period]? with
    | some ph => disagreeDetail dd di verdict d.policy ph d.group
    | none => verdict * 2 ^ 28 + d.policy * 2 ^ 26 + d.group * 2 ^ 13
  s.post { disagreeRec s x (disagreeSev d.policy verdict) d.prod.job detail with test }

/-- An arbitration ends without a verdict because its data or the engine's integer path cannot be trusted (R198, R200). -/
def State.noVerdict (s : State) (x : Nat) (d : Dispute) (engineOk : Bool) : State :=
  let l := xbCluster x
  let s := if engineOk then
      let s := s.incSat (xeArbStatPoisonedMaster l) 1
      match s.sectionOf x with
      | some (sec, t) => { s with sh := { s.sh with restore := s.sh.restore ++ [(sec.sec, t)] } }
      | none => s
    else s.residueEvent l d.prod.job { row := 0, col := 0, persistent := true }
  let s := s.endArb x d 6 0 0 engineOk
  let s := if d.policy = 0 then s.handOver x none true else s
  if engineOk then s else s.residueFail l

/-- The verdict of an arbitration whose data is in ARB_BUF (R195, R432 to R434). -/
def State.giveVerdict (s : State) (x : Nat) (d : Dispute) (ph : Phase) (blk : List Byte) : State :=
  let l := xbCluster x
  let h := rangeCode ph.act
  let p := d.prod
  let vals := s.prodValues x (s.prodCodes x p ph d.base)
  let e := verdictDiffs vals (exactCharge p.prec d.group blk p.fmt p.vec ph) h d.group
  let v := verdictOf (s.fld (xbStatQuality l (xbSlot x))) ph.act h e.1 e.2
  let s := if v = 1 ∨ v = 3 then s.incSat (xeArbStatDataWrong l) 1 else s
  let s := if v = 2 ∨ v = 3 then s.incSat (xeArbStatIndexWrong l) 1 else s
  let s := if v = 4 then s.incSat (xeArbStatBothWithin l) 1 else s
  let s := s.endArb x d v (e.1.tdiv (20 * h)) (e.2.tdiv (5 * h)) true
  if d.policy = 0 then
    s.handOver x (if v = 1 ∨ v = 3 then some (exactOut p.prec d.group blk p.fmt p.vec) else none) false
  else s

/-- ARBITRATION: the engine turns to the request at the head of its queue once its data is in ARB_BUF. -/
def execArbitration (l : ClusterId) (engineOk : Bool) (s : State) : Host.Outcome State Fault Refusal :=
  .next (match (s.xe l).arb with
    | [] => s
    | x :: _ =>
      if s.guarded || (s.xe l).failed || !(tabGet false s.cl.arbData l) then s
      else
        match (s.xrun x).dispute with
        | none => s
        | some d =>
          let a := clMem l + s.fld (xeArbCfgArbBuf l)
          let s := { s with cl := { s.cl with arbData := tabSet false s.cl.arbData l false } }
          let s := s.readErrors l d.prod.job (s.fld (xeArbCfgArbBuf l)) blockBytes
          match (vecPhases d.prod.fmt d.prod.vec)[d.period]? with
          | some ph =>
            if s.anyPoison a blockBytes then s.noVerdict x d true
            else if engineOk then s.giveVerdict x d ph (s.bytes a blockBytes)
            else s.noVerdict x d false
          | none => s)

end Sys2Proof.Machine
end

