-- ==== Sys2Proof/Machine/ShelverTick.lean ====
section
/-! DEFINITION. What the shelver does in the guard band and at the boundary: evictions, section words, states of volumes and sections,
adapter slots, twins, replacements, switch-overs, endurance (R29, R237, R253 to R257, R260 to R270, R273, R279, R283). Log entries 34 to 37. -/
namespace Sys2Proof.Machine
open Sys2Proof

/-! Guard band. -/

/-- Loans of a volume that the coming boundary returns (R264): of requests that ended in this tick. -/
def State.returning (s : State) (h : Nat) : Nat :=
  s.sv.req.countP fun e => decide (e.2.vol = some h) && decide (e.2.ended = some s.tick)

/-- Pool sections that may be evicted (R254). -/
def State.evictable (s : State) : List SectionRec :=
  s.ctg.sections.filter fun r =>
    !r.resident && !(s.sect r.sec).evicting && match (s.sect r.sec).vol with
      | some h => decide ((s.vol h).st = .shelved) && !(s.vol h).pin && decide ((s.vol h).loans = 0)
      | none => false

/-- The section of a list whose last loan returned longest ago, the lower number among equals (R254). -/
def State.longestIdle (s : State) (l : List SectionRec) : Option SectionRec :=
  (sortBy SectionRec.sec l).foldl (fun a r =>
    let key (r : SectionRec) : Nat := match (s.sect r.sec).vol with | some h => (s.vol h).returned | none => 0
    match a with
    | none => some r
    | some b => if key r < key b then some r else some b) none

/-- A section is freed by eviction for a waiting demand (R253 step 3, R254, R279). -/
def State.evictFor (s : State) (h : Nat) : State :=
  let v := s.vol h
  match s.longestIdle (s.evictable.filter fun r => sectionSuits v r && s.mayChoose r) with
  | none => s
  | some r =>
    let s := (s.modSect r.sec fun x => { x with evicting := true }).modVol h fun v => { v with sec := some r.sec }
    { s with sh := { s.sh with demands := s.sh.demands.filter fun e => decide (e ≠ h), placing := s.sh.placing ++ [h] } }

/-- Evict while more pool sections are in use than LIMIT allows (R279). -/
def State.evictExcess (s : State) : Nat → State
  | 0 => s
  | n + 1 =>
    match s.longestIdle s.evictable with
    | none => s
    | some r => (s.modSect r.sec fun x => { x with evicting := true }).evictExcess n

/-- A waiting demand in the guard band: a free section, else one made free by eviction (R253). -/
def State.placeDemand (s : State) (h : Nat) : State :=
  match s.chooseSection h with
  | some r => s.claimSection h r.sec
  | none => if (s.vol h).resident then s.askResident h else s.evictFor h

/-- Eviction decisions of the guard band (R253, R254, R279, R283). -/
def State.evictions (s : State) : State :=
  let s := s.sh.demands.foldl State.placeDemand s
  let limit := s.fld shPoolShareLimit
  let out := s.ctg.sections.countP fun r => (s.sect r.sec).evicting
  s.evictExcess (if limit = 0x3FF then 0 else s.poolUsed - out - limit)

/-- The section word of a volume (R237). -/
def sectionWord (live retiring : Bool) (h version id : Nat) : Nat :=
  bitNat live * 2 ^ 63 + bitNat retiring * 2 ^ 62 + h % 2 ^ 14 * 2 ^ 48 + version % 2 ^ 16 * 2 ^ 32 + id % 2 ^ 32

/-- Write a section's word in each of its clusters (R235, R237). -/
def State.writeWord (s : State) (r : SectionRec) (w : Nat) : State :=
  r.clusters.foldl (fun s l => s.storeMem (clMem l + r.wordAddr) (leBytes 8 w) (allBits 8 false)) s

/-- Does a newer version of a volume become SHELVED at the coming boundary (R262)? -/
def State.outdated (s : State) (h : Nat) : Bool :=
  s.sh.vol.any fun e => decide (e.2.part = (s.vol h).part) && decide (e.2.id = (s.vol h).id)
    && decide ((s.vol h).version < e.2.version) && e.2.placed

/-- Commit a section's word for the next tick where its volume's state, or a catalogue swap, changes it (R237, R260, R262, R279). -/
def State.commitSection (s : State) (r : SectionRec) : State :=
  let x := s.sect r.sec
  match x.vol with
  | none => s
  | some h =>
    let v := s.vol h
    let retiring := decide (v.st = .retiring) || (decide (v.st = .shelved) && s.outdated h)
    let live := decide (v.sec = some r.sec) && !s.losesSection r.sec && (v.placed
      || ((decide (v.st = .shelved) || decide (v.st = .retiring)) && !x.evicting && !(retiring && decide (v.loans ≤ s.returning h))))
    if live = x.live ∧ (retiring && live) = x.retiring then s
    else
      (s.modSect r.sec fun x => { x with live, retiring := retiring && live }).writeWord r
        (sectionWord live (retiring && live) h v.version v.id)

/-- Commit the section words of the guard band. -/
def State.commitSections (s : State) : State := s.ctg.sections.foldl State.commitSection s

/-- Is a substitution ready: every slot with content is written into the spare (R29)? -/
def State.substReady (s : State) (c spare : Nat) : Bool :=
  (s.contentSlots c).all fun x => match s.spareXb c spare x with
    | some n => (s.phys n).passed
    | none => false

/-- Is a crossbar's change of the map or twin due: a twin or a replacement has been written, a hold has ended (R232, R270, R275)? -/
def PhysXb.changeDue (p : PhysXb) : Bool :=
  match p.st with
  | .twinPrep => p.passed
  | .writing => p.passed && (decide (p.writeFor = .replacement) || decide (p.writeFor = .placement))
  | .held => p.passed || p.cause.isSome
  | _ => false

/-- Is an adapter slot's change due (R268)? -/
def ASlot.changeDue (x : ASlot) : Bool :=
  match x.st with
  | .writing => x.passed
  | .current => x.release
  | _ => false

/-- The map changes and twins, core switch-overs and adapter slot changes of the next boundary are committed (R29, R232, R268, R270, R283): what is done
later waits for the next tick. -/
def State.commitChanges (s : State) : State :=
  { s with sh := { s.sh with commits :=
    (s.xb.phys.filter fun e => e.2.changeDue).map (fun e => .xb e.1)
      ++ ((s.sh.subst.filter fun e => s.substReady e.1 e.2).map fun e => .core e.1)
      ++ (s.sh.aslot.filter fun e => e.2.changeDue).map fun e => .aslot e.1 } }

/-! Boundary. -/

/-- A section is fenced (R262, R276): its slots show TIER 2; twins return to the reserve. -/
def State.fenceSection (s : State) (r : SectionRec) : State :=
  r.xbs.foldl (fun s x =>
    let n := s.mappedXb x
    let s := match tabFind s.xb.twin x with
      | some t => (s.modPhys t fun p => { p with st := if p.cause.isSome then .weeded else .reserve, writeFor := .none }).setTwin x none
      | none => s
    let s := s.modPhys n fun p => { p with
      st := if p.cause.isSome then .weeded else if p.st = .serving ∨ p.st = .held then .fenced else p.st, recal := false, reading := false }
    let s := { s with sh := { s.sh with twinWanted := tabErase s.sh.twinWanted x, replace := s.sh.replace.filter fun e => decide (e ≠ x) } }
    (s.setFld (xbStatTier (xbCluster x) (xbSlot x)) 2).showSlot x) s

/-- What a slot shows of its crossbar clears when another serves it (R435, XB_STAT). -/
def State.clearMarks (s : State) (x : Nat) : State :=
  let l := xbCluster x
  let k := xbSlot x
  (((s.setFld (xbStatIdxOff l k) 0).setFlag (xbStatSuspect l k) false).setFlag (xbStatRecalDue l k) false).showSlot x

/-- A physical crossbar takes a slot, with trims recomputed where it did not serve it as the twin (R463); the one it replaces becomes a reserve, or is WEEDED (R232, R274 to R276); a core whose reserves are then consumed
falls under R33. -/
def State.takeSlot (s : State) (x n : Nat) : State :=
  let m := s.mappedXb x
  let s := if m = n then s
    else
      let s := s.modPhys m fun p => { p with st := if p.cause.isSome then .weeded else .reserve, writeFor := .none, recal := false }
      ((s.mapXb x n).clearMarks x).checkReserve (xbCore x)
  let s := if (s.phys n).st = .twin then s else s.renewTrims n
  s.modPhys n fun p => { p with st := .serving, writeFor := .none, passed := false, forXb := x }

/-- A placement that the guard band committed is SHELVED (R260, R262, R274): its crossbars serve, older versions retire. -/
def State.shelve (s : State) (r : SectionRec) (h : Nat) : State :=
  let v := s.vol h
  let s := v.done.foldl (fun s e => match r.xbs[e.1]? with
    | some x =>
      let s := s.takeSlot x e.2
      let s := s.setFld (xbStatTier (xbCluster x) (xbSlot x)) (if r.resident then 0 else 1)
      (s.setFld (xbStatPrec (xbCluster x) (xbSlot x)) (v.precOf e.1)).showSlot x
    | none => s) s
  let s := (s.versionsOf v.part v.id fun st => decide (st = .shelved)).foldl (fun s o =>
    if (s.vol o).version < v.version then s.modVol o fun w => { w with st := .retiring } else s) s
  let s := s.modVol h fun v => { v with st := .shelved, returned := s.tick }
  let s := { s with sh := { s.sh with placing := s.sh.placing.filter fun e => decide (e ≠ h) } }
  (s.modSect r.sec fun x => { x with retained := some (v.id, v.version) }).endWatch h 0 0

/-- The volume a section was promised to by an eviction (R254). -/
def State.claimant (s : State) (n h : Nat) : Option Nat :=
  s.sh.vol.findSome? fun e => if e.1 ≠ h ∧ e.2.sec = some n then some e.1 else none

/-- A section's volume leaves it: the section is fenced, and free or its claimant's (R254, R262). -/
def State.vacate (s : State) (r : SectionRec) (h : Nat) : State :=
  let s := (s.fenceSection r).leaveSection h
  s.modSect r.sec fun x => { x with vol := s.claimant r.sec h, live := false, retiring := false, evicting := false }

/-- A placement whose word the guard band committed LIVE is SHELVED (R260, R262). -/
def State.shelveBoundary (s : State) (r : SectionRec) : State :=
  let x := s.sect r.sec
  match x.vol with
  | some h => if (s.vol h).sec = some r.sec ∧ (s.vol h).st = .placing ∧ x.live then s.shelve r h else s
  | none => s

/-- A section whose volume leaves it, or has been lost, is fenced (R237, R253, R254, R262). -/
def State.vacateBoundary (s : State) (r : SectionRec) : State :=
  let x := s.sect r.sec
  match x.vol with
  | none => s
  | some h =>
    let v := s.vol h
    if v.sec ≠ some r.sec then
      let s := if x.live then (s.writeWord r (sectionWord false false h v.version v.id)).fenceSection r else s
      s.modSect r.sec fun x => { x with vol := none, live := false, retiring := false, evicting := false }
    else if (x.evicting ∨ v.st = .retiring) ∧ !x.live then s.vacate r h
    else s

/-- The sections at the boundary: what is placed becomes SHELVED first, since older versions then retire and leave at the same boundary (R262). -/
def State.sectionBoundaries (s : State) : State :=
  s.ctg.sections.foldl State.vacateBoundary (s.ctg.sections.foldl State.shelveBoundary s)

/-- Volumes whose section was chosen become PLACING (R255, R262). -/
def State.beginPlacing (s : State) : State :=
  s.sh.placing.foldl (fun s h =>
    let v := s.vol h
    if (v.st = .staging ∨ v.st = .staged) ∧ (match v.sec with | some n => decide ((s.sect n).vol = some h) | none => false) = true then
      s.modVol h fun v => { v with st := .placing }
    else s) s

/-- Adapter slots at the boundary, by the state each had before it; what the guard band has committed takes effect (R266, R268, R283, R340). -/
def State.adapterBoundary (s : State) : State :=
  s.sh.aslot.foldl (fun s e =>
    let a := e.1
    let x := e.2
    match x.st with
    | .writing =>
      if x.passed ∧ .aslot a ∈ s.sh.commits then
        let s := s.sh.aslot.foldl (fun s o =>
          if o.1 ≠ a ∧ o.2.st = .current ∧ o.2.part = x.part ∧ o.2.adapter = x.adapter then
            s.modAslot o.1 fun y => { y with st := .retiring, release := false }
          else s) s
        (s.modAslot a fun y => { y with st := .current, stager := none }).doneOpt x.stager 0 0 a x.gen 0
      else s
    | .current => if x.release ∧ .aslot a ∈ s.sh.commits then s.modAslot a fun y => { y with st := .retiring, release := false } else s
    | .retiring => if x.loans = 0 then s.modAslot a fun _ => { st := .free, part := x.part } else s
    | _ => s) s

/-- Is a slot's section live? -/
def State.slotLive (s : State) (x : Nat) : Bool :=
  match s.sectionOf x with
  | some (r, _) => (s.sect r.sec).live
  | none => false

/-- A twin or replacement whose write passed, a held crossbar whose work is done, as the guard band committed it (R270, R275, R276, R279, R283); a twin
that is weeded while its core has no reserve is given up at once. -/
def State.xbBoundary (s : State) (n : Nat) : State :=
  let p := s.phys n
  let due := p.changeDue && decide (.xb n ∈ s.sh.commits)
  let drop (s : State) : State := s.modPhys n fun p => { p with st := .reserve, writeFor := .none, passed := false }
  let unwant (s : State) (x : Nat) : State :=
    { s with sh := { s.sh with twinWanted := tabErase s.sh.twinWanted x, replace := s.sh.replace.filter fun e => decide (e ≠ x) } }
  match p.st with
  | .twinPrep =>
    if due then
      let x := p.forXb
      if s.slotLive x ∧ (tabFind s.xb.twin x).isNone ∧ (s.phys (s.mappedXb x)).st = .serving then
        let s := s.modPhys (s.mappedXb x) fun q => { q with st := .held, passed := false, reading := false, checked := false }
        let s := (s.modPhys n fun q => { q with st := .twin, writeFor := .none, passed := false }).trimsDue n
        let s := s.setFlag (xbStatSuspect (xbCluster x) (xbSlot x)) false
        ((unwant (s.setTwin x (some n)) x)).showSlot x
      else drop s
    else s
  | .writing =>
    if due ∧ p.writeFor = .replacement then
      let x := p.forXb
      let s := unwant s x
      if !(s.slotLive x) then drop s
      else match tabFind s.xb.twin x with
        | some t =>
          let s := s.modPhys t fun q => { q with st := .weeded }
          (((s.renewTrims n).modPhys n fun q => { q with st := .twin, writeFor := .none, passed := false }).setTwin x (some n)).showSlot x
        | none => s.takeSlot x n
    else if due ∧ (s.vol p.handle).st ≠ .placing then drop s
    else s
  | .held =>
    match s.logicalOf n with
    | none => s
    | some x => match tabFind s.xb.twin x with
      | none => s
      | some t =>
        if !due then s
        else if p.cause.isSome then
          let s := s.setTwin x none
          (s.takeSlot x t).showReserve (xbCore x)
        else
          let s := s.modPhys t fun q => { q with st := if q.cause.isSome then .weeded else .reserve, writeFor := .none }
          let s := ((s.setTwin x none).renewTrims n).modPhys n fun q => { q with st := .serving, passed := false, reading := false, checked := false, clearIdx := false }
          let s := if p.clearIdx then s.setFld (xbStatIdxOff (xbCluster x) (xbSlot x)) 0 else s
          s.showSlot x
  | .twin =>
    if p.cause.isSome ∧ s.reserves (xbCore p.forXb) = [] ∧ (s.writeOf p.forXb .replacement).isNone then
      let x := p.forXb
      let s := (s.modPhys n fun q => { q with st := .weeded }).setTwin x none
      let s := s.modPhys (s.mappedXb x) fun q => { q with st := .fenced }
      ((s.setFld (xbStatTier (xbCluster x) (xbSlot x)) 2).showSlot x).wantSubst (xbCore x)
    else s
  | _ => s

/-- Endurance (R273): a crossbar at its rating is weeded where it serves no LIVE slot, one being written included, else through a twin. -/
def State.endurance (s : State) (n : Nat) : State :=
  let p := s.phys n
  if 100000 ≤ p.writes ∧ p.cause.isNone then
    match p.st with
    | .serving => match s.logicalOf n with
      | some x => s.wantTwin x 3
      | none => s
    | .twin => s
    | .writing | .twinPrep => (s.weed n .endurance).retryWrite p
    | _ => s.weed n .endurance
  else s

/-- The crossbars of a spare that take a core's slots (R29, R32): those written for the slots with content, the next usable ones for the others. -/
def State.spareMap (s : State) (c spare : Nat) : List (Nat × Nat) :=
  let content := (s.contentSlots c).filterMap fun x => (s.spareXb c spare x).map fun n => (x, n)
  let all := ((List.range 18).map fun i => s.corePhys (c / 32) spare + i).filter fun n => decide (n ∉ content.map Prod.snd)
  let left := (all.filter fun n => (s.phys n).cause.isNone) ++ all.filter fun n => (s.phys n).cause.isSome
  content ++ ((coreSlots c).filter fun x => decide (x ∉ content.map Prod.fst)).zip left

/-- A tile of a slot that a volume is being placed in is to be written again (R261, R279). -/
def State.repeatTile (s : State) (x : Nat) : State :=
  s.sh.vol.foldl (fun s e =>
    if e.2.st = .placing then
      match (e.2.sec.bind s.secRec).bind fun r => r.xbs.findIdx? fun y => decide (y = x) with
      | some t => s.modVol e.1 fun v => { v with
          begun := v.begun.filter fun u => decide (u ≠ t), done := v.done.filter fun u => decide (u.1 ≠ t)
          differ := v.differ ++ [t], failed := v.failed.filter fun u => decide (u ≠ t) }
      | none => s
    else s) s

/-- A slot of the spare comes into force: a live one serves, any other is fenced, and what a placement writes there is written again (R29, R276, R279). -/
def State.switchSlot (s : State) (x n : Nat) : State :=
  let s := s.mapXb x n
  match s.sectionOf x with
  | some (r, _) =>
    if (s.sect r.sec).live then
      let s := s.modPhys n fun p => { p with st := .serving, forXb := x }
      (s.setFld (xbStatTier (xbCluster x) (xbSlot x)) (if r.resident then 0 else 1)).clearMarks x
    else (s.repeatTile x).clearMarks x
  | none => s.clearMarks x

/-- Every crossbar of a physical core is left: in no use, WEEDED where it has a cause. -/
def State.leaveXbs (s : State) (l : List Nat) : State :=
  l.foldl (fun s n => s.modPhys n fun p => { p with
    st := if p.cause.isSome then .weeded else .reserve, writeFor := .none, recal := false, reading := false, passed := false, checked := false }) s

/-- A logical core switches to its spare (R29, R32, R115 to R117, R279, R321, CL_REMAP): its map, its image, its counters, data scratch at zero. -/
def State.switchCore (s : State) (c spare : Nat) : State :=
  let l := c / 32
  let k := c % 32
  let old := s.pcoreOf c
  let new := s.spareMap c spare
  let s := (coreSlots c).foldl (fun s x => { s with
    xb := { s.xb with map := tabErase s.xb.map x, twin := tabErase s.xb.twin x }
    sh := { s.sh with twinWanted := tabErase s.sh.twinWanted x, replace := s.sh.replace.filter fun e => decide (e ≠ x) } })
    (s.leaveXbs (s.coreXbs c))
  let s := (s.setFld (clRemapPrevPcore l k) old).setFld (clRemapPcore l k) spare
  let s := (s.setFld (clRemapSubstTick l k) s.tick20).incSat (clRemapSubstCount l k) 1
  let s := (s.setFld (clRemapState l k) 0).decFld (clStatusSpares l) 1
  let s := new.foldl (fun s e => s.switchSlot e.1 e.2) (s.leaveXbs (s.coreXbs c))
  let s := { s with
    sh := { s.sh with subst := tabErase s.sh.subst c, usedCores := s.sh.usedCores ++ [34 * s.physCluster l + old] }
    core := { s.core with
      scratch := s.core.scratch.filter fun e => decide (e.1 / 65536 ≠ c)
      scratchPoison := s.core.scratchPoison.filter fun e => decide (e.1 / 1024 ≠ c)
      scratchUpset := s.core.scratchUpset.filter fun e => decide (e.1 / 1024 ≠ c)
      ibuf := s.core.ibuf.filter fun e => decide (e.1 / 32768 ≠ c) } }
  let s := if s.sh.subst.any fun e => decide (e.1 / 32 = l) then s else s.setFlag (clStatusSubstPend l) false
  let s := s.modCore c fun k => { k with run := if k.run = .failed then .off else k.run, bufVerified := false }
  ((s.copyImage c).showReserve c).checkReserve c

/-- Switch-overs that the guard band committed (R29, R283). -/
def State.switchCores (s : State) : State :=
  s.sh.subst.foldl (fun s e => if .core e.1 ∈ s.sh.commits ∧ s.substReady e.1 e.2 then s.switchCore e.1 e.2 else s) s

/-- Recalibrations that are due and not under way are asked for again (R471, R472). -/
def State.retryRecal (s : State) : State :=
  s.ca.due.foldl (fun s e =>
    let p := s.phys e.1
    match s.logicalOf e.1 with
    | some x => if p.st = .serving ∧ p.noRecal ≤ s.now then (s.modPhys e.1 fun p => { p with recal := true }).wantTwin x 3 else s
    | none => s) s

/-- The shelver at the boundary, after loans have returned (R262, R264, R268, R270, R283, R433, R472). -/
def State.shelverBoundary (s : State) : State :=
  let s := s.sectionBoundaries.beginPlacing
  let s := s.serveDemands s.sh.demands
  let s := s.adapterBoundary
  let s := (s.xb.phys.map Prod.fst).foldl State.xbBoundary s
  let s := s.switchCores
  let s := { s with sh := { s.sh with commits := [] } }
  let s := (s.xb.phys.map Prod.fst).foldl State.endurance s
  let effects := s.xb.effects
  let s := effects.foldl State.verdictEffect { s with xb := { s.xb with effects := [] } }
  s.settleQuality.ageSets.retryRecal.startWork

/-- CA_QUALITY, updated at each boundary over the crossbars that map a logical slot. -/
def State.showQuality (s : State) : State :=
  let qs := (List.range 128).foldl (fun a l =>
    if s.fld (clStatusMap l) = 0 then a ++ (List.range 512).map fun k => (s.phys (s.servingXb (512 * l + k))).quality else a) []
  let s := s.setFld caQualityWorst (qs.foldl Nat.max 0)
  let s := s.setFld caQualityAbove08 (qs.countP fun q => decide (12 < q))
  (s.setFld caQualityAbove15 (qs.countP fun q => decide (24 < q))).setFld caQualityRecalPend s.ca.due.length

end Sys2Proof.Machine
end

