-- ==== Sys2Proof/Machine/CatLoad.lean ====
section
/-! DEFINITION. What a catalogue's sections configure, at a full load (R287, R293 to R306) and at a partial swap (R318): protection tables,
clusters, queues and their pools, leaf images, stream engines, the shelver, fabric entries, credit pools; and the swap itself
(R159, R200, R221, R230, R262, R279, R318, R352, R383). Log entries 53, 54. -/
namespace Sys2Proof.Machine
open Sys2Proof

/-! Protection tables (R307). -/

/-- BT_PART, BT_HOSTWIN and BT_TENANT_RANGE from a catalogue's records. -/
def State.loadProtection (s : State) (c : Cat) : State :=
  let s := (c.parts.filter fun r => r.valid).foldl (fun s r =>
    let s := (s.setFlag (btPartValid r.part) true).setFld (btPartHost r.part) r.host
    (s.setFld (btPartFirst r.part) r.first).setFld (btPartCount r.part) r.count) s
  c.hosts.foldl (fun s r =>
    let p := r.port
    let mine := sumNat ((c.valid.filter fun x => decide (x.host = p)).map fun x => 2 ^ x.part)
    let s := (s.setFlag (btHostwinEn p) r.enabled).setFlag (btHostwinControl p) r.control
    let s := (s.setFld (btHostwinVfs p) r.vfs).setFld (btHostwinParts p) mine
    let s := s.setFlag (hpStatusControl p) r.control
    (s.setFld (btTenantRangeFirst p) r.tenantFirst).setFld (btTenantRangeCount p) r.tenantCount) s

/-- Initial IN_POLICY of each partition (R293). -/
def State.loadPolicies (s : State) (c : Cat) : State := c.valid.foldl (fun s r => s.setFld (inPolicyPolicy r.part) r.policy) s

/-! Tenants (R294). -/

/-- A tenant's initial weight and balance, and the LIMITs of its page-table header (R220, R294). -/
def State.loadTenant (s : State) (r : TenantRec) : State :=
  let s := (s.setFld (tnWeightWeight r.tenant) r.weight).setFld (tnBudgetBalance r.tenant) r.budget
  let s := s.setFlag (tnStatValid r.tenant) r.valid
  s.hbmWrite (tableEntry r.tenant 0) ((List.range 16).foldl (fun a i => a ++ leBytes 4 (r.limit.getD i 0)) []) (allBits 64 false) 0

/-! Clusters, queues and pools (R144, R148, R153, R296, R297). -/

/-- QM_POOL_CFG, XE_MODE and XE_ARB_CFG of a CLUSTER record. -/
def State.loadCluster (s : State) (k : ClusterRec) : State :=
  let l := k.cluster
  let s := (s.setFld (qmPoolCfgBase l) k.poolBase).setFld (qmPoolCfgBanks l) k.poolBanks
  let s := s.setFld (qmPoolCfgStageCells l) k.stageCells
  let s := (s.setFld (xeModeFp8Sat l) (k.xe % 2)).setFld (xeModeIntSat l) (k.xe / 2 % 2)
  let s := (s.setFlag (xeArbCfgEn l) k.arb).setFld (xeArbCfgArbBuf l) (if k.arb then k.arbBuf else 0)
  s.setFld (xeArbCfgPeriod l) (if k.arb then k.arbPeriod else 0)

/-- QM_QCFG and the initial THRESH of one queue; a queue without a record has EN 0. -/
def State.loadQueue (s : State) (c : Cat) (l q : Nat) : State :=
  match c.queues.find? fun r => decide (r.cluster = l) && decide (r.q = q) with
  | some r => (s.setReg (qmQcfgReg l q) r.cfg).setFld (qmCutThreshThresh l q) r.thresh
  | none => s.setReg (qmQcfgReg l q) 0

/-- Every queue of a cluster. -/
def State.loadQueues (s : State) (c : Cat) (l : Nat) : State := (List.range 512).foldl (fun s q => s.loadQueue c l q) s

/-- Queues of a cluster that hold reserved cells, ascending (R153). -/
def State.schedQueues (s : State) (l : Nat) : List Nat :=
  (List.range 512).filter fun q => s.flag (qmQcfgEn l q) && decide (s.fld (qmQcfgSource l q) = 1) && decide (0 < s.fld (qmQcfgResCells l q))

/-- A queue's reserved cells are taken from the head of the shared free list (R153, log entry 53). -/
def State.reserveCells (s : State) (l q : Nat) : State :=
  let n := s.fld (qmQcfgResCells l q)
  let home := (s.pool l).free.take n
  (s.modPool l fun p => { p with free := p.free.drop n }).modQueue l q fun k => { k with home, reserved := home }

/-- Queues of a cluster that have reserved cells now. -/
def State.homedQueues (s : State) (l : Nat) : List Nat := (List.range 512).filter fun q => !(s.queue l q).home.isEmpty

/-- The pool of a cluster as QM_POOL_CFG carves it: the non-staging cells in ascending index (R144, R148). -/
def State.buildPool (s : State) (l : Nat) : State :=
  let n := 2048 * s.fld (qmPoolCfgBanks l) - s.fld (qmPoolCfgStageCells l)
  let s := s.modPool l fun _ => { free := List.range n, freed := [], staging := [] }
  let s := (s.homedQueues l).foldl (fun s q => s.modQueue l q fun k => { k with home := [], reserved := [] }) s
  ((s.schedQueues l).foldl (fun s q => s.reserveCells l q) s).showPool l

/-! Leaf images (R113, R116, R298). -/

/-- The code bytes of core k of a leaf block. -/
def LeafRec.codeOf (b : LeafRec) (k : LeafCore) : List Byte := bytesAt b.code k.code k.len

/-- A cluster's images are written at IMG_ADDR in its memory and loaded into instruction memory (R113, R116, R287 step 5). -/
def State.loadImages (s : State) (k : ClusterRec) (b : LeafRec) : State :=
  let l := k.cluster
  (b.cores.zipIdx).foldl (fun s e =>
    let d := b.codeOf e.1
    (s.storeMem (clMem l + k.imgAddr + 32768 * e.2) d (allBits d.length false)).setImage (32 * l + e.2) d e.1) s

/-- CL_LEAF and LEAF_VALID of a leaf block. -/
def State.showLeaf (s : State) (b : LeafRec) : State :=
  let l := b.cluster
  ((s.setFld (clLeafJobs l) b.jobs).setFld (clLeafResEnd l) b.resEnd).setFlag (clStatusLeafValid l) true

/-! Stream engines (R214, R217, R219, R221, R303). -/

/-- A partition's frame range in stack i. -/
def StreamRec.range (r : StreamRec) (i : Nat) : List Nat :=
  let f := r.frames.getD i (0, 0)
  (List.range f.2).map fun k => f.1 + k

/-- A partition's free list in every stack is its range in ascending order (R221). -/
def State.loadFrames (s : State) (r : StreamRec) : State :=
  (List.range 16).foldl (fun s i => (s.setFreeFrames i r.part (r.range i)).setFld (seKvPagesQuota i r.part) (r.range i).length) s

/-- The STREAM record that assigns slot k of engine i. -/
def slotOwner (l : List StreamRec) (i k : Nat) : Option StreamRec := l.find? fun r => r.valid && decide (k ∈ r.slots.getD i [])

/-- Decode slots assigned become FREE, slots assigned no more UNASSIGNED; a slot whose partition stays is left (R214, R230). -/
def State.assignSlots (s : State) (l : List StreamRec) (i : Nat) : State :=
  let s := (List.range 256).foldl (fun s k =>
    let st := s.fld (seSlotStatState i k)
    match slotOwner l i k with
    | some r =>
      if st = 0 ∨ (st = slotFree ∧ s.fld (seSlotStatPart i k) ≠ r.part) then
        s.setReg (seSlotStatReg i k) (BitVec.ofNat 64 (r.part * 16 + slotFree))
      else s
    | none => if st = slotFree then s.setReg (seSlotStatReg i k) 0 else s) s
  s.setFld (seCfgSlots i) ((List.range 256).countP fun k => (slotOwner l i k).isSome)

/-- Stack i's share of the KV region: frames BASE to BASE + SIZE − 1 of every stack (R295, SE_CFG). -/
def State.loadKv (s : State) (c : Cat) (i : Nat) : State :=
  match c.regions.find? fun r => decide (r.kind = 3) with
  | some r => (s.setFld (seCfgKvBase i) r.base).setFld (seCfgKvFrames i) r.size
  | none => s

/-- The stream engines at a full load. -/
def State.loadStreams (s : State) (c : Cat) : State :=
  let s := (List.range 16).foldl (fun s i => (s.loadKv c i).assignSlots c.streams i) s
  (c.streams.filter fun r => r.valid).foldl State.loadFrames s

/-! The shelver (R234, R235, R268, R277, R304). -/

/-- SH_POOL_SHARE as the catalogue gives it: SHARE, pool sections, pool crossbars of owned clusters. -/
def State.loadShare (s : State) (c : Cat) : State :=
  let owned := (List.range 128).countP fun l => (c.partOf l).isSome
  let s := (s.setFld shPoolShareShare c.share).setFld shPoolShareSections (c.sections.countP fun r => !r.resident)
  s.setFld shPoolSharePoolXb (owned * 32 * c.share)

/-- Adapter slots of each quota become FREE (R268). -/
def State.loadAslots (s : State) (c : Cat) : State :=
  c.quotas.zipIdx.foldl (fun s e =>
    (List.range e.1.aslotCount).foldl (fun s k => s.modAslot (e.1.aslotFirst + k) fun _ => { st := .free, part := e.2 }) s) s

/-! Fabric entries and credit pools (R302, R306, R375, R383, R395). -/

/-- FB_SLOT_TABLE of a port: its FABRIC entries in ascending START, INERT while the port's entries are. -/
def fabricOf (c : Cat) (p : Nat) : List FabricRec := sortBy (fun r => r.start) (c.fabrics.filter fun r => decide (r.port = p))

/-- The register value of a FABRIC entry. -/
def fabricWord (r : FabricRec) (inert : Bool) : W64 :=
  BitVec.ofNat 64 (2 ^ 63 + r.cls % 4 * 2 ^ 61 + r.part % 16 * 2 ^ 57 + r.job % 4096 * 2 ^ 45 + bitNat inert * 2 ^ 44
    + r.length % 2 ^ 20 * 2 ^ 20 + r.start % 2 ^ 20)

/-- Write a port's table. -/
def State.loadFabric (s : State) (c : Cat) (p : Nat) : State :=
  let l := fabricOf c p
  let inert := s.flag (fbPortStateInert p)
  (List.range 256).foldl (fun s k =>
    s.setReg (fbSlotTableReg p k) (match l[k]? with | some r => fabricWord r inert | none => 0)) s

/-- A port's table after a swap of partition n (R383, R395): entries of the partition are INERT only where the port is quarantined, DOWN or DISABLED now; those
of others stay as they were. -/
def State.swapFabric (s : State) (old new : Cat) (n p : Nat) : State :=
  let was := fabricOf old p
  let l := fabricOf new p
  let st := s.fbState p
  let dead := decide (st = portQuarantined) || decide (st = portDown) || decide (st = portDisabled)
  let inert (r : FabricRec) : Bool :=
    if r.part = n then dead
    else match was.findIdx? fun x => decide (x.start = r.start) && decide (x.part = r.part) with
      | some k => s.flag (fbSlotTableInert p k)
      | none => s.flag (fbPortStateInert p)
  let words := l.map fun r => fabricWord r (inert r)
  let s := (List.range 256).foldl (fun s k => s.setReg (fbSlotTableReg p k) (words.getD k 0)) s
  s.setFlag (fbPortStateInert p) (s.flag (fbPortStateInert p) && (l.isEmpty || l.any inert))

/-- Tables of every port at a full load: entries of a port that is quarantined or DOWN are INERT (R395). -/
def State.loadFabrics (s : State) (c : Cat) : State :=
  (List.range 8).foldl (fun s p =>
    let s := s.loadFabric c p
    if s.fbState p = portQuarantined ∨ s.fbState p = portDown then s.makeInert p else s) s

/-! Full load (R287). -/

/-- Step 4 of R287: the configuration of the sections other than the protection tables. The tick keeps 64 µs until the catalogue is in force (R282). -/
def State.loadConfig (s : State) (c : Cat) : State :=
  let s := (s.setFld pwStatusFloor c.floorMhz).setFld ctSyncModeMode c.syncMode
  let s := (s.setFld ctCatStateGen c.gen).setReg ctCatIdReg (BitVec.ofNat 64 c.catId)
  let s := (s.loadPolicies c).setFld tnRefillTicksTicks c.refillTicks
  let s := c.tenants.foldl State.loadTenant s
  let s := (List.range 128).foldl (fun s l => match c.partOf l with
    | some n => (s.setFlag (clStatusOwned l) true).setFld (clStatusPart l) n
    | none => s) s
  let s := c.clusters.foldl (fun s k => ((s.loadCluster k).loadQueues c k.cluster).buildPool k.cluster) s
  let s := ((s.loadStreams c).loadShare c).loadAslots c
  let s := s.loadFabrics c
  let s := { s with cat := { s.cat with cur := some c } }
  (List.range 8).foldl (fun s p => if s.fbUp p then s.advertise p else s) s

/-- Step 5 of R287: every cluster's images. -/
def State.loadLeaves (s : State) (c : Cat) : State :=
  c.leaves.foldl (fun s b => match c.clusterRec b.cluster with
    | some k => (s.loadImages k b).showLeaf b
    | none => s) s

/-! Partial swap (R318, R319, R321, R352). -/

/-- Does the swap change a service? -/
def sameService (old new : Cat) (v : Nat) : Bool :=
  decide (old.services.find? (fun r => decide (r.service = v)) = new.services.find? fun r => decide (r.service = v))

/-- The requests a swap ends, in the guard band of the tick before it (R352). -/
def State.swapEnds (s : State) (new : Cat) (n : Nat) : State :=
  let old := s.ctg
  let hit (r : Request) : Bool := decide (r.part = n) &&
    (!sameService old new r.svc || kvChanged old new n
      || (match r.vol.bind fun h => (s.vol h).sec with
          | some x => !sameSection old new x
          | none => false))
  (s.liveReqs hit).foldl (fun s k => s.endNow k 5 14) s

/-- A partition's staging buffers become its instruction memory (R117, R318). -/
def State.swapImages (s : State) (c : Cat) : State :=
  c.leaves.foldl (fun s b =>
    (b.cores.zipIdx).foldl (fun s e =>
      let i := 32 * b.cluster + e.2
      let code := (List.range e.1.len).map fun k => tabGet 0 s.core.ibuf (32768 * i + k)
      let s := { s with core := { s.core with ibuf := s.core.ibuf.filter fun x => decide (x.1 / 32768 ≠ i) } }
      (s.setImage i code e.1).modCore i fun x => { x with bufVerified := false }) (s.showLeaf b)) s

/-- The swap of partition n in the guard band of the tick before its target (R318, R352): its requests end, images and records are replaced, GEN increments
in each of its clusters, the incoming area is freed, a NOTE record is posted. What follows at the boundary is `State.swapInForce`. -/
def State.swapCommit (s : State) (n : Nat) (c : Cat) : State :=
  let old := s.ctg
  let new := old.merge c
  let s := (s.swapEnds new n).swapImages c
  let digest := Config.sha384 s.cat.incoming
  let s := { s with cat := { s.cat with
    cur := some new
    swapping := some (old, n)
    imgSent := []
    stopped := s.cat.stopped.filter fun m => decide (m ≠ n)
    applied := s.cat.applied ++ [digest] } }
  let s := (new.clustersOf n).foldl (fun s l => s.incWrap (clLeafGen l) 1) s
  ((s.loadShare new).freeStaged 0).post { sev := 1, kind := 17, sub := 2, domain := 3, unit := 0, part := some n }

/-- The swap does not take effect (R319): the partition takes PARTITION_FATAL and runs nothing from the target on. -/
def State.swapFails (s : State) (a : Announce) : State :=
  let s := s.post { sev := 4, kind := 17, sub := 3, domain := 3, unit := 0, part := some a.part }
  let s := { s with cat := { s.cat with local_ := s.cat.local_.filter fun b => decide (b ≠ a), stopped := s.cat.stopped ++ [a.part] } }
  let s := s.setFld ctCatStatePstate 5
  ((s.ctg.clustersOf a.part).foldl (fun s l => s.setFlag (clStatusSwapPend l) false) s).showLists

/-- The swap that is due, in the guard band of the tick before its target (R318, R319). -/
def State.swapDecide (s : State) : State :=
  match s.swapDue with
  | none => s
  | some (a, c) => if s.buffersReady a.part then s.swapCommit a.part c else s.swapFails a

/-- A partition's swap is given up (R321, R448). -/
def State.swapDrop (s : State) (n : Nat) : State :=
  if s.cat.local_.any fun a => decide (a.part = n) then
    let s := { s with cat := { s.cat with local_ := s.cat.local_.filter fun a => decide (a.part ≠ n) } }
    let s := (s.ctg.clustersOf n).foldl (fun s l => s.setFlag (clStatusSwapPend l) false) s
    (s.freeStaged 0).showLists
  else s

/-- Queues at a swap (R159): emptied where QM_QCFG or the pool layout changes; one NOTE record for the partition. -/
def State.swapQueues (s : State) (old : Cat) (n : Nat) : State :=
  let new := s.ctg
  let part (s : State) (l : Nat) : State × Bool :=
    match new.clusterRec l with
    | none => (s, false)
    | some k =>
      let relaid := match old.clusterRec l with
        | some o => decide ((o.poolBase, o.poolBanks, o.stageCells) ≠ (k.poolBase, k.poolBanks, k.stageCells))
        | none => true
      let changed := (List.range 512).filter fun q =>
        let cfg := match new.queues.find? fun r => decide (r.cluster = l) && decide (r.q = q) with | some r => r.cfg | none => 0
        relaid || decide (s.reg (qmQcfgReg l q) ≠ cfg)
      let s := changed.foldl (fun s q => s.emptyQueue l q) s
      let s := (s.loadCluster k).loadQueues new l
      if relaid then (s.buildPool l, !changed.isEmpty)
      else
        let s := changed.foldl (fun s q =>
          let back := (s.queue l q).reserved
          (s.modPool l fun p => { p with free := p.free ++ back }).modQueue l q fun k => { k with home := [], reserved := [] }) s
        ((changed.filter fun q => decide (q ∈ s.schedQueues l)).foldl (fun s q => s.reserveCells l q) s |>.showPool l, !changed.isEmpty)
  let e := (old.clustersOf n).foldl (fun (a : State × List Nat) l =>
    let x := part a.1 l
    (x.1, if x.2 then a.2 ++ [l] else a.2)) (s, [])
  match e.2 with
  | [] => e.1
  | l :: _ => e.1.post { sev := 1, kind := 11, sub := 1, domain := 2, unit := unitCluster l, part := some n }

/-- Sections at a swap (R262, R279): one removed or changed is fenced, its word was cleared in the guard band, and its volume leaves it; a volume that
waits for it waits again. What its crossbars retain stays with it (R277). -/
def State.swapSections (s : State) (old : Cat) (n : Nat) : State :=
  (old.sections.filter fun r => decide (r.part = n) && !sameSection old s.ctg r.sec).foldl (fun s r =>
    let s := s.fenceSection r
    let s := match (s.sect r.sec).vol with
      | some h => if (s.vol h).sec = some r.sec then s.leaveSection h else s
      | none => s
    let s := s.sh.vol.foldl (fun s e =>
      if e.2.sec = some r.sec then
        let s := (s.dropPlacing e.1).modVol e.1 Volume.idle
        { s with sh := { s.sh with demands := s.sh.demands ++ [e.1] } }
      else s) s
    s.modSect r.sec fun x => { retained := x.retained }) s

/-- Slots of sections the swap brings in are fenced (R276, XB_STAT). -/
def State.swapFence (s : State) (old : Cat) : State :=
  (s.ctg.sections.filter fun r => !sameSection old s.ctg r.sec).foldl (fun s r =>
    r.xbs.foldl (fun s x => s.setFld (xbStatTier (xbCluster x) (xbSlot x)) 2) s) s

/-- Packets that wait for a FABRIC entry which the swap removes are discarded, one CONTAINED record per GATE_OUT; the others follow
their entry (R383, R389). -/
def State.swapEgress (s : State) (old new : Cat) (p : Nat) : State :=
  let was := fabricOf old p
  let is := fabricOf new p
  let place (x : Nat) : Option Nat := match was[x]? with
    | some r => is.findIdx? fun y => decide (y.start = r.start) && decide (y.part = r.part) && decide (y.job = r.job) && decide (y.cls = r.cls)
    | none => none
  let gone (e : Egress) : Bool := match e.entry with | some (x, _) => (place x).isNone | none => false
  let lost := (s.fport p).egress.filter gone
  let gates := (lost.filterMap fun e => e.entry.map fun x => (x, e.pkt)).foldl
    (fun acc g => if acc.any fun h : (Nat × Nat) × Packet => decide (h.1.2 = g.1.2) then acc else acc ++ [g]) []
  let s := s.modFport p fun f => { f with egress := (f.egress.filter fun e => !gone e).map fun e =>
    { e with entry := match e.entry with | some (x, g) => (place x).map fun y => (y, g) | none => none } }
  let s := s.incSat (fbLinkStatDiscards p) lost.length
  gates.foldl (fun s g => s.post (recUnit 2 p 3 20 7 g.2.job (g.2.src * 2 ^ 16 + g.1.1) (was[g.1.1]?.map fun r => r.part))) s

/-- Credit pools of a port that the swap changes are advertised again; one it removes is withdrawn (R375). -/
def State.swapPools (s : State) (old : Cat) (p : Nat) : State :=
  let mine (c : Cat) : List CreditRec := c.credits.filter fun r => decide (r.source = 0) && decide (r.id = p)
  if mine old = mine s.ctg ∨ !s.fbUp p then s
  else
    let gone := (mine old).filter fun r => !((mine s.ctg).any fun x => decide (x.pool = r.pool))
    (gone.foldl (fun s r => s.sendCtl p (.poolAdv r.pool 0 true)) s).advertise p

/-- Decode slots and frames at a swap (R214, R221, R230): with another KV layout or range, OPEN slots close, and the free lists are set anew at
the next boundary; until then no slot of the partition is OPEN, so no frame is allocated. -/
def State.swapStreams (s : State) (old : Cat) (n : Nat) : State :=
  let s := (List.range 16).foldl (fun s i => s.assignSlots s.ctg.streams i) s
  if !kvChanged old s.ctg n then s
  else
    let s := (List.range 16).foldl (fun s i =>
      ((List.range 256).foldl (fun s k => if s.fld (seSlotStatPart i k) = n then s.closeSlot i k else s) s).showSlots i) s
    { s with se := { s.se with rebuild := s.se.rebuild ++ [n] } }

/-- What a committed swap does at its target boundary (R159, R230, R279, R314, R318, R352, R375, R383, R448): queues, sections, FABRIC entries, credit
pools and decode slots follow the new records, FATAL and SWAP_PEND clear, the entry leaves its list. -/
def State.swapInForce (s : State) : State :=
  match s.cat.swapping with
  | none => s
  | some (old, n) =>
    let new := s.ctg
    let s := (s.swapQueues old n).swapSections old n
    let s := (List.range 8).foldl (fun s p => s.swapEgress old new p) s
    let s := (List.range 8).foldl (fun s p => s.swapFabric old new n p) s
    let s := (List.range 8).foldl (fun s p => s.swapPools old p) s
    let s := ((s.swapStreams old n).swapFence old).setFlag (inPartStateFatal n) false
    let s := (new.clustersOf n).foldl (fun s l => s.setFlag (clStatusSwapPend l) false) s
    ({ s with cat := { s.cat with
      swapping := none
      local_ := s.cat.local_.filter fun a => decide (a.part ≠ n) || !s.tickReached a.tgt } }).showLists

end Sys2Proof.Machine
end

