-- ==== Sys2Proof/Machine/Power.lean ====
section
/-! DEFINITION. Power stages, critical shutdown, voltage and frequency of the rows, the power budget, power states (R137, R489 to R500, R514,
R515, R519, R566). Log entries 55 to 57. -/
namespace Sys2Proof.Machine
open Sys2Proof

/-- Does the compute die run: rails raised, no critical shutdown (R490, R514, R524)? One stage alone carries it on (R490). -/
def State.dieRuns (s : State) : Bool := s.pw.rails && !s.pw.gated

/-- Is a survey channel's rail in its window: not three results in a row outside (R494)? -/
def State.railIn (s : State) (c : Nat) : Bool := decide (tabGet 0 s.pw.railOut c < 3) || !s.flag (svWindowEn c)

/-- PWR_OK follows the stages, the intermediate rail and the eight VCORE domains (R492). -/
def State.showPwrOk (s : State) : State :=
  { s with pw := { s.pw with
    pwrOk := s.pw.rails && s.flag (pwStageOn 0) && s.flag (pwStageOn 1) && ([2, 3, 8, 9, 10, 11, 12, 13, 14, 15].all s.railIn) } }

/-- A record of the custodian's firmware: through the record queue while the die runs, else in the log alone (R531). -/
def State.firmRecord (s : State) (r : Rec) : State := if s.dieRuns then s.post r else s.custRecord r

/-- Is a power stage latched off (R489, R490)? -/
def State.stageLatched (s : State) : Bool := !s.pw.latch.isEmpty

/-! Shutdown (R490, R514). -/

/-- Every cluster clock is gated and ports stop sending (R514): no core runs, nothing opens. -/
def State.gateDie (s : State) : State :=
  { s with
    idle := true
    pw := { s.pw with gated := true }
    core := { s.core with st := s.core.st.map fun e => (e.1, { e.2 with run := .off }) } }

/-- Both stages off: PWR_OK deasserts, the die loses its supply (R490, R492). -/
def State.stagesOff (s : State) : State :=
  let s := ((s.setFlag (pwStageOn 0) false).setFlag (pwStageOn 1) false).gateDie
  { s with pw := { s.pw with pwrOk := false, rails := false } }

/-- The SEQ of the most recent error record. -/
def State.lastSeq (s : State) : Nat := (s.fld inErrHeadWr + 2 ^ 32 - 1) % 2 ^ 32

/-- A shutdown entry (R514, R517, R531, R532): SUB CRITICAL, the cause, the sensor, the reading and CT_TICK_NOW in their fields of R443; the SEQ of
the most recent error record beside it (log entry 55). -/
def State.shutdownEntry (s : State) (cause sensor : Nat) (reading : Int) : State :=
  let n := s.cu.em.lseq
  let s := s.custRecord (recUnit 9 0 5 23 4 0 (pattern 11 reading * 2 ^ 20 + sensor % 512 * 2 ^ 8 + cause % 16) none)
  ({ s with cu := { s.cu with em := { s.cu.em with lastShutdown := some n, shutdownSeq := some s.lastSeq } } }).alert 2

/-- Critical shutdown (R514): CRIT asserted, clocks gated, the shutdown logged, both stages commanded off. -/
def State.critical (s : State) (cause sensor : Nat) (reading : Int) : State :=
  if s.pw.crit.isSome then s
  else
    let s := { s with pw := { s.pw with crit := some s.now } }
    let s := (s.gateDie.shutdownEntry cause sensor reading).stagesOff
    { s with pw := { s.pw with cmdOff := true } }

/-- Count a latch trip of a stage over the life of the module (PW_STAGE TRIPS, R530). -/
def State.countTrip (s : State) (k : Nat) : State :=
  let n := satAdd 16 (s.cu.em.trips.getD k 0) 1
  { s with cu := { s.cu with em := { s.cu.em with trips := setAt s.cu.em.trips k n } } }.setFld (pwStageTrips k) n

/-- Code of a trip in R514. -/
def tripCode : TripCause → Nat
  | .overTemperature => 3
  | .overCurrent => 4
  | .critTimer => 6

/-- A stage's trip latch fires (R489, R490): both stages turn off; the custodian records it while it runs. -/
def State.trip (s : State) (k : Nat) (cause : TripCause) : State :=
  let s := ({ s with pw := { s.pw with latch := s.pw.latch ++ [(k, cause)] } }.countTrip k).stagesOff
  if s.pw.standby then s.shutdownEntry (tripCode cause) k 0
  else { s with pw := { s.pw with latchDue := s.pw.latchDue ++ [(k, cause)] } }

/-- STAGE_TRIP: a trip latch fires on the stage's own sensing; a latch that has fired stays (R489, R490, R514). -/
def execStageTrip (stage : Fin 2) (cause : TripCause) (s : State) : Host.Outcome State Fault Refusal :=
  .next (if s.pw.latch.any fun e => decide (e.1 = stage.val) then s else s.trip stage cause)

/-- CRIT_TIMEOUT: CRIT held for 100 µs with a stage still on fires its trip latch (R489, R514). -/
def execCritTimeout (s : State) : Host.Outcome State Fault Refusal :=
  .next (
    if s.pw.crit.isNone then s
    else if s.flag (pwStageOn 0) then s.trip 0 .critTimer
    else if s.flag (pwStageOn 1) then s.trip 1 .critTimer
    else s)

/-! Lockouts (R489, R490, R566). -/

/-- A boot begins (R524): STEP and RESET_KIND of BT_BOOT; uptime counts from here. -/
def State.beginBoot (s : State) (step kind : Nat) : State :=
  let s := (s.setFld btBootStep step).setFld btBootResetKind kind
  { s with cu := { s.cu with bootAt := s.now } }

/-- May the stages start: no latch, not commanded off, standby present (R515)? -/
def State.mayStart (s : State) : Bool := !s.stageLatched && !s.pw.cmdOff && s.pw.standby

/-- Is a stage's input within its lockouts as it now stands (R489)? An operating stage stops below 55 V or above 84 V; one that is off
starts above 58 V and below 82 V. -/
def inputOk (on : Bool) (mv : Nat) : Bool := if on then decide (55000 ≤ mv) && decide (mv ≤ 84000) else decide (58000 < mv) && decide (mv < 82000)

/-! Voltage and frequency (R495 to R498). -/

/-- VMIN at f MHz (R495). -/
def vmin (f : Nat) : Nat := 600 + 5 * ceilDiv (f - 800) 20

/-- Is a row in the active set: does it hold an owned logical cluster in P0 (R496)? -/
def State.rowActive (s : State) (d : Nat) : Bool :=
  (List.range 16).any fun x => s.flag (clStatusOwned (16 * d + x)) && decide (s.fld (clStatusMap (16 * d + x)) = 0) && s.inP0 (16 * d + x)

/-- Are all clusters of a row in P1 to P3 (R496)? -/
def State.rowAsleep (s : State) (d : Nat) : Bool :=
  (List.range 16).all fun x => decide (s.fld (clStatusMap (16 * d + x)) ≠ 0) || !s.inP0 (16 * d + x)

/-- The active rows. -/
def State.activeRows (s : State) : List Nat := (List.range 8).filter s.rowActive

/-- Is the fast throttle in force at the coming boundary: from the guard band that takes FAST up, until it has cleared (R512, R513)? -/
def State.fastNow (s : State) : Bool := s.pw.fastFrom.isSome && !s.pw.fastClear

/-- The frequency R496 gives the active set for a common target. -/
def State.setFreq (s : State) (target : Nat) : Nat :=
  if s.fastNow then 800
  else if s.flag pwStatusThrotIn then s.fld pwStatusFloor
  else Nat.max (s.fld pwStatusFloor) (Nat.min target (Nat.min (s.fld pwStatusThermCap) (s.fld pwBudgetCap)))

/-- The common target of the active rows, if they agree (R497). -/
def State.commonTarget (s : State) : Option Nat :=
  match s.activeRows.map fun d => s.fld (pwDomainFreqTarget d) with
  | [] => none
  | t :: r => if r.all fun u => decide (u = t) then some t else none

/-- The frequency in force in the active set: the lowest, where rows that have just become active run at others (R40; log entry 57). -/
def State.commonFreq (s : State) : Nat :=
  (s.activeRows.map fun d => s.fld (pwDomainFreqCur d)).foldl Nat.min 1800

/-- The frequency a row is to have: the active set one common one, under the caps the one in force while the targets differ (R40, R496, R497); the fast
throttle slows every row (R512). -/
def State.wantFreq (s : State) (d : Nat) : Nat :=
  if s.fastNow then 800
  else if s.rowActive d then s.setFreq (s.commonTarget.getD s.commonFreq)
  else if s.rowAsleep d then Nat.min (s.fld (pwDomainFreqTarget d)) 800 else s.fld (pwDomainFreqTarget d)

/-- Does a row's voltage allow f MHz (R497)? -/
def State.voltOk (s : State) (d f : Nat) : Bool := decide (vmin f ≤ s.fld (pwDomainVoltCur d)) && s.flag (pwDomainVoltVok d)

/-- The frequency a row takes at the next boundary: a rise waits for the voltage, of every active row for the set (R40, R497). -/
def State.nextFreq (s : State) (d : Nat) : Nat :=
  let f := s.wantFreq d
  let cur := if s.rowActive d then s.commonFreq else s.fld (pwDomainFreqCur d)
  if f ≤ cur then f
  else if (if s.rowActive d then s.activeRows else [d]).all fun e => s.voltOk e f then f else cur

/-- Is a row's change held: a rise without its voltage, or a target that the other active rows do not share (R497)? -/
def State.freqHeld (s : State) (d : Nat) : Bool :=
  decide (s.nextFreq d < s.wantFreq d) || (s.rowActive d && s.commonTarget.isNone)

/-- HELD, ACTIVE and VMIN follow the targets, frequencies and voltages (R496 to R498). -/
def State.showFreq (s : State) : State :=
  let s := (List.range 8).foldl (fun s d =>
    let s := (s.setFlag (pwDomainFreqHeld d) (s.freqHeld d)).setFlag (pwDomainFreqActive d) (s.rowActive d)
    s.setFld (pwDomainVoltVmin d) (vmin (Nat.max (s.fld (pwDomainFreqCur d)) (s.wantFreq d)))) s
  s.setFld pwStatusActive (sumNat (s.activeRows.map fun d => 2 ^ d))

/-- The commit row decides the frequencies of the next boundary (R283, R496). -/
def State.decideFreq (s : State) : State :=
  { s with pw := { s.pw with freqNext := (List.range 8).map fun d => (d, s.nextFreq d) } }

/-- Frequencies decided take effect (R496, CS_FREQ). -/
def State.applyFreq (s : State) : State :=
  let s := s.pw.freqNext.foldl (fun s e => s.setFld (pwDomainFreqCur e.1) e.2) s
  ({ s with pw := { s.pw with freqNext := [] } }).showFreq

/-- Does the custodian's firmware make the access? -/
def byCustodian : Accessor → Bool
  | .custodian => true
  | _ => false

/-- PW_DOMAIN_FREQ: the custodian writes a target, rounded down to a multiple of 25; one outside 800 to 1,800 MHz is ignored (R495, R497,
R519). -/
def execPwDomainFreq (acc : Accessor) (d : Fin 8) (target : BitVec 11) (s : State) : Host.Outcome State Fault Refusal :=
  .next (
    let f := target.toNat / 25 * 25
    if !byCustodian acc then s
    else if f < 800 ∨ 1800 < f then s
    else (s.setFld (pwDomainFreqTarget d) f).showFreq)

/-- The survey window of a row's VCORE channel: its tolerance about the voltages between two values in mV (R493, R494). -/
def State.vcoreWindow (s : State) (d lo hi : Nat) : State :=
  (s.setFld (svWindowLow (8 + d)) (ceilDiv ((lo - 10) * 4096) 1000)).setFld (svWindowHigh (8 + d)) ((hi + 10) * 4096 / 1000)

/-- PW_DOMAIN_VOLT: the custodian writes a target: the regulator ramps, or the write is refused below VMIN or outside 600 to 850 mV (R498). -/
def execPwDomainVolt (acc : Accessor) (d : Fin 8) (target : BitVec 10) (s : State) : Host.Outcome State Fault Refusal :=
  .next (
    let v := target.toNat
    let m := s.fld (pwDomainVoltVmin d)
    let cur := s.fld (pwDomainVoltCur d)
    if !byCustodian acc then s
    else if v < m ∨ v < 600 ∨ 850 < v then
      (s.setFlag (pwDomainVoltRefused d) true).firmRecord (recUnit 10 0 1 24 1 0 (m * 2 ^ 20 + v * 2 ^ 8 + d.val) none)
    else if v % 5 ≠ 0 then s
    else
      let s := (s.setFld (pwDomainVoltTarget d) v).setFlag (pwDomainVoltVok d) (decide (v ≤ cur + 5) && decide (cur ≤ v + 5))
      (s.vcoreWindow d (Nat.min v cur) (Nat.max v cur)).showFreq)

/-- REGULATOR_RAMP_DONE: CUR reaches TARGET and VOK is set (R498). -/
def execRegulatorRampDone (d : Fin 8) (s : State) : Host.Outcome State Fault Refusal :=
  .next (
    let v := s.fld (pwDomainVoltTarget d)
    (((s.setFld (pwDomainVoltCur d) v).setFlag (pwDomainVoltVok d) true).vcoreWindow d v v).showFreq)

/-! The budget (R499, R500). -/

/-- The custodian announces idle ticks at the earliest target R311 admits (R500, R511). -/
def State.announceIdle (s : State) (arg : Nat) : State :=
  (s.announceSet .custodian (requestWord 0 2 arg (s.tick + 256))).requestDomain .custodian 2 arg (BitVec.ofNat 32 (s.tick + 256))

/-- Is the active set at FLOOR (R500)? -/
def State.atFloor (s : State) : Bool :=
  !s.activeRows.isEmpty && s.activeRows.all fun d => decide (s.fld (pwDomainFreqCur d) ≤ s.fld pwStatusFloor)

/-- After 100 ms at FLOOR above LIMIT: a BUDGET record and idle ticks, whose ARG the spec does not give (R500, log entry 56). -/
def State.budgetIdle (s : State) (meas : Nat) : State :=
  let s := s.firmRecord (recUnit 10 0 1 24 2 0 (s.fld pwBudgetLimit * 2 ^ 16 + meas % 4096) none)
  let arg := 1 + Config.freeNat s.free % 192
  let s := (s.draw 1).incSat pwBudgetThrottles 1
  let heat := match s.pw.heat with | some h => h.1 | none => 0
  { s with pw := { s.pw with limitOver := 0, budgetArg := arg } }.announceIdle (Nat.max arg heat)

/-- BUDGET_AVERAGE: a 1 ms average of input power; CAP falls by 100 MHz above LIMIT and rises by 100 MHz after 10 ms below 95 % of it (R499,
R500). -/
def execBudgetAverage (meas : Nat) (s : State) : Host.Outcome State Fault Refusal :=
  .next (
    let limit := s.fld pwBudgetLimit
    let cap := s.fld pwBudgetCap
    let s := s.setFld pwBudgetMeas (Nat.min meas 4095)
    let above := decide (limit < meas)
    let under := decide (100 * meas < 95 * limit)
    let run := if above && s.atFloor then s.pw.limitOver + 1 else 0
    let low := if under then s.pw.limitUnder + 1 else 0
    let s := { s with pw := { s.pw with limitOver := run, limitUnder := if low = 10 then 0 else low } }
    let s := if above then s.setFld pwBudgetCap (cap - 100)
      else if low = 10 then s.setFld pwBudgetCap (Nat.min 1800 (cap + 100)) else s
    let s := if run = 100 then s.budgetIdle meas else s
    s.showFreq)

/-! Power states (R137, R501). -/

/-- CL_PSTATE: a write of MODE and RETAIN by a core's cluster, a port that owns the cluster, or the custodian (R50, R137). -/
def execClPstate (acc : Accessor) (l : ClusterId) (v : W64) (s : State) : Host.Outcome State Fault Refusal :=
  .next (
    let mine : Bool := match acc with
      | .custodian => true
      | .host p => match s.partOf l with | some n => s.portOwns p n | none => false
      | .vf _ _ => false
    if !mine then s.hiddenAccess acc (clPstateReg l)
    else if !s.clAvailable l then s.unmappedAccess acc (clPstateReg l)
    else s.requestPower l v)

end Sys2Proof.Machine
end

