-- ==== Sys2Proof/Machine/Thermal.lean ====
section
/-! DEFINITION. Temperature sensors, throttling, the fast local throttle and THROT_N (R204, R474 to R480, R505 to R513, R543). Log entries
58, 59. -/
namespace Sys2Proof.Machine
open Sys2Proof

/-! Sensors (R474 to R479). Temperatures are in 0.25 °C. -/

/-- Both sensors of a physical cluster. -/
def clusterSensors (px py : Nat) : List Nat := [2 * (17 * py + px), 2 * (17 * py + px) + 1]

/-- Both sensors of a fabric port. -/
def portSensors (p : Nat) : List Nat := [288 + 2 * p, 289 + 2 * p]

/-- The other of a pair. -/
def pairOf (n : Nat) : Nat := if n % 2 = 0 then n + 1 else n - 1

/-- Neighbours of a sensor (R476). -/
def neighbours (n : Nat) : List Nat :=
  if n < 272 then
    let px := n / 2 % 17
    let py := n / 34
    [pairOf n] ++ (if 0 < px then clusterSensors (px - 1) py else []) ++ (if px < 16 then clusterSensors (px + 1) py else [])
      ++ (if 0 < py then clusterSensors px (py - 1) else []) ++ (if py < 7 then clusterSensors px (py + 1) else [])
  else if n < 288 then
    let i := n - 272
    clusterSensors (if i % 2 = 0 then 0 else 16) (i / 2) ++ (if 2 ≤ i then [n - 2] else []) ++ (if i + 2 < 16 then [n + 2] else [])
  else
    let p := (n - 288) / 2
    [pairOf n] ++ (if 0 < p then portSensors (p - 1) else []) ++ (if p < 7 then portSensors (p + 1) else [])

/-- Sensors of a physical row: its clusters' and its two HBM PHYs' (R479). -/
def rowSensors (py : Nat) : List Nat := (List.range 34).map (fun i => 34 * py + i) ++ [272 + 2 * py, 273 + 2 * py]

/-- The reading of a count by the factory two-point trim, rounded to 0.25 °C (R475); a trim whose two counts are equal gives 30 °C. -/
def readingOf (n count : Nat) : Int :=
  let c30 : Int := Config.sensorC30 n
  let d : Int := (Config.sensorC90 n : Int) - c30
  let num : Int := 240 * ((count : Int) - c30)
  clamp (-1024) 1023 (120 + (if d = 0 then 0 else divRNE (if d < 0 then -num else num) d.natAbs))

/-- Twice the median: the mean of the two middle values of an even count (R477). -/
def median2 (l : List Int) : Int :=
  let s := sortBy (fun x : Int => (x + 1024).toNat) l
  let n := s.length
  if n % 2 = 1 then 2 * s.getD (n / 2) 0 else s.getD (n / 2 - 1) 0 + s.getD (n / 2) 0

/-- A sensor's own reading. -/
def State.reading (s : State) (n : Nat) : Int := signed 11 (s.fld (thSensorReading n))

/-- Is a sensor excluded? -/
def State.excluded (s : State) (n : Nat) : Bool := s.flag (thSensorExcl n)

/-- Usable neighbours' readings. -/
def State.neighbourReadings (s : State) (n : Nat) : List Int := ((neighbours n).filter fun m => !s.excluded m).map s.reading

/-- The highest of a list. -/
def highest : List Int → Option Int
  | [] => none
  | x :: r => match highest r with
    | none => some x
    | some y => some (if x < y then y else x)

/-- The area temperature of an excluded sensor (R479). -/
def State.areaTemp (s : State) (n : Nat) : Int :=
  match s.neighbourReadings n with
  | [] =>
    let peers := if n < 272 then rowSensors (n / 34) else if n < 288 then rowSensors ((n - 272) / 2) else (List.range 16).map fun i => 288 + i
    (highest ((peers.filter fun m => !s.excluded m).map s.reading)).getD (s.reading n)
  | l => divRNE (median2 l) 2

/-- A sensor's sample is taken. -/
def State.takeSample (s : State) (counts : List Nat) (n : Nat) : State :=
  let c := counts.getD n 0
  ((s.setFlag (thSensorValid n) true).setFld (thSensorRaw n) c).setFld (thSensorReading n) (pattern 11 (readingOf n c))

/-- The cross-check of a sensor counts its strikes (R477, R478). -/
def State.crossCheck (s : State) (n : Nat) : State :=
  if s.excluded n then s
  else
    let l := s.neighbourReadings n
    let far := decide (3 ≤ l.length) && decide (48 < (2 * s.reading n - median2 l).natAbs)
    s.setFld (thSensorStrikes n) (if far then Nat.min 8 (s.fld (thSensorStrikes n) + 1) else 0)

/-- Temperatures in use: the reading, or the area temperature (R479, TH_SENSOR AREA). -/
def State.showArea (s : State) (n : Nat) : State :=
  s.setFld (thSensorArea n) (pattern 11 (if s.excluded n then s.areaTemp n else s.reading n))

/-- A sensor with 8 strikes is excluded from the following sample on, with its record and its entry in eMRAM (R477). -/
def State.excludeSensor (s : State) (n : Nat) : State :=
  if s.excluded n ∨ s.fld (thSensorStrikes n) < 8 then s
  else
    let detail := pattern 11 (divRNE (median2 (s.neighbourReadings n)) 2) * 2 ^ 20 + pattern 11 (s.reading n) * 2 ^ 9 + n
    let s := s.post (recUnit 9 0 1 22 4 0 detail none)
    { s with cu := { s.cu with em := { s.cu.em with sensorExcl := s.cu.em.sensorExcl ++ [n] } } }

/-- The exclusions in eMRAM are in force (R477, TH_EXCLUDED). -/
def State.showExcluded (s : State) : State :=
  s.cu.em.sensorExcl.foldl (fun s n => (s.setFlag (thSensorExcl n) true).setFlag ⟨thExcludedReg (n / 64), n % 64, 1⟩ true) s

/-- The die temperature and its hottest sensor (R505). -/
def State.hottest (s : State) : Int × Nat :=
  (List.range 304).foldl (fun a n => let t := signed 11 (s.fld (thSensorArea n)); if a.1 < t then (t, n) else a) (-1024, 0)

/-! Throttling (R505 to R513). -/

/-- Has the module a domain that it has not left (R512)? -/
def State.inDomain (s : State) : Bool := decide (s.syncMode ≠ 0) && !s.hasExited

/-- DETAIL of SUB 1 to 3 of KIND 23 (R517). -/
def State.thermDetail (s : State) : Nat := s.fld pwStatusThermCap * 2 ^ 32 + pattern 11 s.pw.dieTemp * 2 ^ 10 + s.pw.dieSensor

/-- FAST is set at the sample that reaches it (R512); what follows waits for the guard band. -/
def State.goFast (s : State) : State :=
  if s.flag pwStatusFast then s
  else
    let s := s.post (recUnit 9 0 3 23 3 0 (bitNat s.inDomain * 2 ^ 48 + s.thermDetail) none)
    { s with pw := { s.pw with fastPend := true } }.setFlag pwStatusFast true

/-- A record posted at most once a second (R506, R544): has a second passed since the last? -/
def State.secondPassed (s : State) (last : Option Nat) : Bool := match last with | some t => decide (t + 1000000000 ≤ s.now) | none => true

/-- Is the cap at FLOOR with the die temperature at or above THROTTLE (R506)? -/
def State.atFloorHot (s : State) : Bool :=
  decide (s.fld pwStatusThermCap ≤ s.fld pwStatusFloor) && decide ((s.fld thLimitsThrottle : Int) ≤ s.pw.dieTemp)

/-- Has a stack been limited for 10 ms (R508)? -/
def State.stackHot (s : State) : Bool := s.pw.hot.any fun e => decide (e.2 - 1 + 10000000 ≤ s.now)

/-- Announce idle ticks for heat (R511); the budget's announcement governs when it is larger (R518), and ARG 0 ends idling (R509). -/
def State.announceHeat (s : State) (arg : Nat) : State :=
  let s := s.announceIdle (if arg = 0 then 0 else Nat.max arg s.pw.budgetArg)
  { s with pw := { s.pw with
    heat := if arg = 0 then none else some (arg, s.tick + 256)
    budgetArg := if arg = 0 then 0 else s.pw.budgetArg
    heatRun := 0
    floorRun := 0
    coolRun := 0 } }

/-- A stack limited for 10 ms has its record (R508). -/
def State.hotRecords (s : State) : State :=
  s.pw.hot.foldl (fun s e =>
    if e.1 ∈ s.pw.hotDone ∨ s.now < e.2 - 1 + 10000000 then s
    else
      let s := s.post (recUnit 9 0 1 23 5 0 e.1 none)
      { s with pw := { s.pw with hotDone := s.pw.hotDone ++ [e.1] } }) s

/-- The custodian's announcements for heat, looked at with every sample of 100 µs: AT_FLOOR held for 10 ms (R511), or a stack limited for 10 ms (R508). -/
def State.heatPolicy (s : State) : State :=
  let cool := decide (s.pw.dieTemp < 368) && (List.range 16).all fun i => decide (tabGet 0 s.se.temp i < 368)
  let s := { s with pw := { s.pw with
    floorRun := if s.atFloorHot then s.pw.floorRun + 1 else 0
    coolRun := if cool then s.pw.coolRun + 1 else 0 } }
  match s.pw.heat with
  | none => if decide (100 ≤ s.pw.floorRun) || s.stackHot then s.announceHeat 32 else s
  | some (arg, tgt) =>
    if 10000 ≤ s.pw.coolRun then s.announceHeat 0
    else if !s.tickReached tgt then s
    else
      let s := { s with pw := { s.pw with heatRun := s.pw.heatRun + 1 } }
      if decide (1000 ≤ s.pw.heatRun) && (s.atFloorHot || s.stackHot) && decide (arg < 192) then s.announceHeat (Nat.min 192 (arg + 32)) else s

/-- Do the sensors sample: from the end of boot step 5 on (R475, R516)? -/
def State.sampling (s : State) : Bool := s.dieRuns && decide (6 ≤ s.fld btBootStep) && decide (s.fld btBootStep ≤ 15)

/-- SENSOR_SAMPLE: readings, cross-checks, area temperatures, then the limits (R475 to R480, R505, R512, R514), then exclusions for the
samples that follow. -/
def execSensorSample (counts : List Nat) (s : State) : Host.Outcome State Fault Refusal :=
  .next (
    if !s.sampling then s
    else
      let all := List.range 304
      let s := all.foldl (fun s n => s.takeSample counts n) s
      let s := all.foldl State.crossCheck s
      let s := (all.foldl State.showArea s).leaveSet
      let h := s.hottest
      let cool := decide (h.1 + 12 < (s.fld thLimitsThrottle : Int))
      let s := { s with pw := { s.pw with
        dieTemp := h.1
        dieSensor := h.2
        below := if cool then s.pw.below + 1 else 0
        belowRise := if cool then s.pw.belowRise + 1 else 0 } }
      let s := (all.foldl State.excludeSensor s).showExcluded
      if (s.fld thLimitsCrit : Int) ≤ h.1 then s.critical 1 h.2 h.1
      else
        let s := if (s.fld thLimitsFast : Int) ≤ h.1 then s.goFast else s
        s.hotRecords.heatPolicy)

/-- THERM_CAP falls at a boundary at which the die temperature is at or above THROTTLE, never below FLOOR, with its records (R506). -/
def State.thermCapFall (s : State) : State :=
  if s.pw.dieTemp < (s.fld thLimitsThrottle : Int) ∨ !s.sampling then s
  else
    let cap := s.fld pwStatusThermCap
    let floor := s.fld pwStatusFloor
    let next := Nat.max floor (cap - 100)
    let s := if next < cap then s.setFld pwStatusThermCap next else s
    let s := if next < cap && s.secondPassed s.pw.thermPosted && decide (cap = 1800) then
        { s with pw := { s.pw with thermPosted := some s.now } }.post (recUnit 9 0 1 23 1 0 s.thermDetail none)
      else s
    if next ≤ floor && s.secondPassed s.pw.floorPosted then
      { s with pw := { s.pw with floorPosted := some s.now } }.post (recUnit 9 0 1 23 2 0 s.thermDetail none)
    else s

/-- THERM_CAP_RISE: after 1 ms below THROTTLE − 3 °C, ten samples, and for each further 1 ms, the cap rises by 100 MHz, to 1,800 MHz at most (R506). -/
def execThermCapRise (s : State) : Host.Outcome State Fault Refusal :=
  .next (if s.pw.belowRise < 10 then s
    else ({ s with pw := { s.pw with belowRise := 0 } }.setFld pwStatusThermCap (Nat.min 1800 (s.fld pwStatusThermCap + 100))).showFreq)

/-- FAST_CLEAR: after 100 ms below THROTTLE − 3 °C FAST clears; local idling ends at the next boundary (R513). -/
def execFastClear (s : State) : Host.Outcome State Fault Refusal :=
  .next (if s.pw.below < 1000 ∨ !s.flag pwStatusFast then s
    else ({ s with pw := { s.pw with fastClear := true } }.setFlag pwStatusFast false).showFreq)

/-- HBM_STACK_HOT: a reading of a stack's own sensor: at 95 °C its controller limits its command rate and posts a NOTE record, below 92 °C it
lifts the limit (R204); at 105 °C the critical shutdown starts (R514). -/
def execHbmStackHot (i : Fin 16) (temp : Int) (s : State) : Host.Outcome State Fault Refusal :=
  .next (
    let n := i.val
    let s := { s with se := { s.se with temp := tabSet 0 s.se.temp n temp } }
    let was := tabGet false s.se.limited n
    let s : State := if !was && decide (380 ≤ temp) then
        let s := { s with
          se := { s.se with limited := tabSet false s.se.limited n true }
          pw := { s.pw with hot := tabInsert (tabErase s.pw.hot n) n (s.now + 1), hotDone := s.pw.hotDone.filter fun m => decide (m ≠ n) } }
        s.post (recUnit 4 n 1 14 1 0 0 none)
      else if was && decide (temp < 368) then
        { s with
          se := { s.se with limited := tabSet false s.se.limited n false }
          pw := { s.pw with hot := tabErase s.pw.hot n } }
      else s
    let s := s.showSe n
    if 420 ≤ temp ∧ s.dieRuns then s.critical 2 n temp else s)

/-! THROT_N (R507, R543). -/

/-- The filtered input takes a value: its register fields, its transitions (BT_INPUTS, PW_STATUS). -/
def State.setThrot (s : State) (b : Bool) : State :=
  if s.flag btInputsThrot = b then s
  else
    let s := ((s.setFlag btInputsThrot b).setFlag pwStatusThrotIn b).incSat btInputsThrotEdges 1
    { s with cu := { s.cu with throtStuckDone := false } }.showFreq

/-- THROT_N_CHANGE: the majority of the samples changes; more than 4 transitions within 1 ms mark the input UNSTABLE and force it asserted
(R543). The filter runs from boot step 5 (R546). -/
def execThrotNChange (low : Bool) (s : State) : Host.Outcome State Fault Refusal :=
  .next (
    if s.fld btBootStep < 5 ∨ s.cu.throtRaw = low then s
    else
      let times := (s.cu.throtTimes.filter fun t => decide (s.now < t + 1000000)) ++ [s.now]
      let s := { s with cu := { s.cu with throtRaw := low, throtTimes := times } }
      if s.flag btInputsThrotUnstable then s
      else if 4 < times.length then
        ((s.setFlag btInputsThrotUnstable true).setThrot true).inputRecord 9 1 4 (Nat.min 255 times.length)
      else s.setThrot low)

/-- THROT_STUCK: a filtered assertion lasts 1 s; recorded once for that assertion (R543). -/
def execThrotStuck (s : State) : Host.Outcome State Fault Refusal :=
  .next (if !s.flag btInputsThrot ∨ s.cu.throtStuckDone then s
    else { s with cu := { s.cu with throtStuckDone := true } }.inputRecord 9 1 3 0)

/-- THROT_UNSTABLE_CLEAR: the majority has not changed for 10 ms; the filtered value follows it again (R543). -/
def execThrotUnstableClear (s : State) : Host.Outcome State Fault Refusal :=
  .next (if !s.flag btInputsThrotUnstable then s
    else
      let s := { s with cu := { s.cu with throtTimes := [] } }.setFlag btInputsThrotUnstable false
      s.setThrot s.cu.throtRaw)

end Sys2Proof.Machine
end

