-- ==== Sys2Proof/Machine/Survey.lean ====
section
/-! DEFINITION. The survey converter, its windows and what custodian firmware does at them (R481 to R485, R487, R491, R494, R499, R500, R517). Log
entries 60, 61. -/
namespace Sys2Proof.Machine
open Sys2Proof

/-! Windows (R482, R493, R494). -/

/-- Lower and upper limit in µV (or µA, or mW scale) and the channel's full scale, for the channels that have a tolerance; VCORE at 650 mV. -/
def railLimits (c : Nat) : Option (Nat × Nat × Nat) :=
  if c < 2 then some (60000000, 80000000, 100000000)
  else if c < 4 then some (5820000, 6180000, 8000000)
  else if c < 8 then none
  else if c < 16 then some (640000, 660000, 1000000)
  else if c < 24 then some (0, 240000000, 300000000)
  else if c < 32 then some (196000, 204000, 500000)
  else if c < 40 then some (2328000, 2472000, 3000000)
  else if c < 44 then some (1018500, 1081500, 1500000)
  else if c < 48 then some (727500, 772500, 1500000)
  else if c < 52 then some (750000, 900000, 1500000)
  else if c < 64 then none
  else if c < 96 then some (196000, 204000, 1000000)
  else none

/-- Custodian firmware sets the window of a rail channel to its tolerance, with EN set (R494). -/
def State.setWindow (s : State) (c : Nat) : State :=
  match railLimits c with
  | none => s
  | some (lo, hi, full) =>
    ((s.setFlag (svWindowEn c) true).setFld (svWindowLow c) (ceilDiv (lo * 4096) full)).setFld (svWindowHigh c) (hi * 4096 / full)

/-- Every rail channel's. -/
def State.setWindows (s : State) : State := (List.range 96).foldl State.setWindow s

/-! Conversions (R481, R483, R484). -/

/-- A conversion starts (R481). -/
def State.startConv (s : State) (ch : Nat) (urgent : Bool) (wait : Nat) : State :=
  { s with pw := { s.pw with running := some (ch, urgent, wait) } }.setFlag svCtrlBusy true

/-- Channel of an urgent request's source (R484, R491). -/
def State.urgentCh (s : State) (src : Nat) : Nat := if src = 2 then s.fld svUrgentCh else 6 + src

/-- PENDING of SV_URGENT follows the requests that wait. -/
def State.showUrgent (s : State) : State := s.setFlag svUrgentPending (s.pw.urgent.any fun x => decide (x < 3))

/-- The next conversion starts: urgent requests in the order stage 0, stage 1, firmware; then a START that waits; then the continuous
sequence; nothing while EN is clear (R483, R484, R487). -/
def State.nextConv (s : State) : State :=
  if s.pw.running.isSome ∨ !s.flag svCtrlEn then s
  else
    match [0, 1, 2].find? fun x => decide (x ∈ s.pw.urgent) with
    | some x =>
      let wait := Config.freeNat s.free % 1001
      let s := { s with pw := { s.pw with urgent := s.pw.urgent.erase x } }.draw 1
      s.showUrgent.startConv (s.urgentCh x) true wait
    | none =>
      if s.flag svCtrlCont then s.startConv (s.fld svSelectCh) false 0
      else if 3 ∈ s.pw.urgent then
        { s with pw := { s.pw with urgent := s.pw.urgent.erase 3 } }.startConv (s.fld svSelectCh) false 0
      else s

/-- An urgent request of a source; one already pending merges with it; an idle converter starts at once, with WAIT 0 (R484). -/
def State.requestUrgent (s : State) (src : Nat) : State :=
  if src ∈ s.pw.urgent then s
  else if s.pw.running.isNone && s.flag svCtrlEn then s.startConv (s.urgentCh src) true 0
  else { s with pw := { s.pw with urgent := s.pw.urgent ++ [src] } }.showUrgent

/-! What firmware does with results (R494, R499, R500, R517). -/

/-- Rows of a rail that powers them: VCORE, its current, VXB and the reference-column probes (R482, R493). -/
def railRow (c : Nat) : Option Nat :=
  if 8 ≤ c ∧ c < 32 then some (c % 8) else if 64 ≤ c ∧ c < 96 then some ((c - 64) / 4) else none

/-- DETAIL of a RAIL or INPUT record (R517). -/
def railDetail (c code : Nat) : Nat := code * 2 ^ 16 + c

/-- A POWER record of firmware. -/
def State.powerRecord (s : State) (sev sub detail : Nat) (part : Option Nat) : State := s.firmRecord (recUnit 10 0 sev 24 sub 0 detail part)

/-- A rail of a row is out of window: PARTITION_FATAL for each partition with a cluster in the row; CONTAINED for a cluster in none (R494). -/
def State.rowOut (s : State) (d c code : Nat) : State :=
  let ls := ((List.range 16).map fun x => 16 * d + x).filter fun l => decide (s.fld (clStatusMap l) = 0)
  let ps := (ls.filterMap s.partOf).eraseDups
  let s := ps.foldl (fun s n => s.powerRecord 4 3 (railDetail c code) (some n)) s
  (ls.filter fun l => (s.partOf l).isNone).foldl (fun s _ => s.powerRecord 3 3 (railDetail c code) none) s

/-- A rail counts as out of window (R494). -/
def State.railOutAct (s : State) (c code : Nat) : State :=
  if c < 2 then s.powerRecord 1 4 (code * 2 ^ 16 + c) none
  else if c < 4 then s.critical 5 0 0
  else if 32 ≤ c ∧ c < 40 then
    { s with pw := { s.pw with vprgBack := tabInsert (tabErase s.pw.vprgBack c) c 0 } }.setFlag shPoolSharePause true
  else if 40 ≤ c ∧ c < 52 then s.powerRecord 5 3 (railDetail c code) none
  else match railRow c with
    | some d => s.rowOut d c code
    | none => s

/-- A VPRG rail that is back for 1 s ends the PAUSE when no other is out (R494). -/
def State.vprgBackAct (s : State) (c : Nat) : State :=
  match tabFind s.pw.vprgBack c with
  | none => s
  | some 0 => { s with pw := { s.pw with vprgBack := tabInsert (tabErase s.pw.vprgBack c) c (s.now + 1) } }
  | some (t + 1) =>
    if s.now < t + 1000000000 then s
    else
      let s := { s with pw := { s.pw with vprgBack := tabErase s.pw.vprgBack c } }
      if s.pw.vprgBack.isEmpty then s.setFlag shPoolSharePause false else s

/-- A result against the window of its channel: the third outside in a row is out of window (R485, R494). -/
def State.judgeRail (s : State) (c code : Nat) : State :=
  let out := decide (code < s.fld (svWindowLow c)) || decide (s.fld (svWindowHigh c) < code)
  let s := if code < s.fld (svWindowLow c) then s.setFlag (svWindowLowHit c) true else s
  let s := if s.fld (svWindowHigh c) < code then s.setFlag (svWindowHighHit c) true else s
  let n := if out then tabGet 0 s.pw.railOut c + 1 else 0
  let s := { s with pw := { s.pw with railOut := tabSet 0 s.pw.railOut c n } }.showPwrOk
  if !s.flag (svWindowEn c) then s
  else if n = 3 then s.railOutAct c code
  else if out then s
  else s.vprgBackAct c

/-- Input power of a stage in W: voltage times current of its last results (R499, PW_STAGE IN_W). -/
def State.stageWatts (s : State) (k : Nat) : Nat := s.fld (svWindowLast k) * 100 * (s.fld (svWindowLast (6 + k)) * 25) / 16777216

/-- Temperature of a stage in 0.25 °C: the mean of its two diodes (R517). -/
def State.stageTemp (s : State) (k : Nat) : Int :=
  let a := 52 + 2 * k
  let v25 : Int := ((Config.diodeV25 a + Config.diodeV25 (a + 1) : Nat) : Int)
  let v : Int := ((s.fld (svWindowLast a) + s.fld (svWindowLast (a + 1)) : Nat) : Int)
  clamp (-1024) 1023 (100 + divRNE (v25 * 4096 - 10000 * v) 40960)

/-- PW_STAGE follows the results; STAGE_HOT is posted as a stage reaches 115 °C (R517). -/
def State.telemetry (s : State) (c : Nat) : State :=
  if c < 2 ∨ c = 6 ∨ c = 7 then s.setFld (pwStageInW (c % 2)) (s.stageWatts (c % 2))
  else if 52 ≤ c ∧ c < 56 then
    let k := (c - 52) / 2
    let was := signed 11 (s.fld (pwStageTemp k))
    let t := s.stageTemp k
    let s := s.setFld (pwStageTemp k) (pattern 11 t)
    if was < 460 ∧ 460 ≤ t then s.firmRecord (recUnit 9 0 1 23 6 0 (pattern 11 t * 2 ^ 10 + k) none) else s
  else s

/-- SURVEY_CONVERSION: a conversion ends: SV_RESULT, its window, for an urgent one SV_URGENT and the over-current test of R500; the next
starts (R481, R484, R485). -/
def execSurveyConversion (code : BitVec 12) (s : State) : Host.Outcome State Fault Refusal :=
  .next (match s.pw.running with
    | none => s
    | some (c, urgent, wait) =>
      let s := { s with pw := { s.pw with running := none } }.setFlag svCtrlBusy false
      let k := code.toNat
      let s := ((s.setFlag svResultValid true).setFlag svResultUrgent urgent).setFld svResultCh c
      let s := (s.incWrap svResultSeq 1).setFld svResultCode k
      let s := s.setFld (svWindowLast c) k
      let s := if urgent then
          (((s.setFld svUrgentLastCh c).setFld svUrgentCode k).incWrap svUrgentCount 1).setFld svUrgentWait wait
        else s
      let s := (s.judgeRail c k).telemetry c
      let s := if urgent && (decide (c = 6) || decide (c = 7)) && decide (2211 < k) then
          (s.setFld pwBudgetCap (s.fld pwStatusFloor)).showFreq
        else s
      s.nextConv)

/-- SV_START: with EN set and CONT clear a write of START begins one conversion (R483); one that finds an urgent conversion running begins
after it (R487). Only the custodian writes the SV block (R488). -/
def execSvStart (acc : Accessor) (s : State) : Host.Outcome State Fault Refusal :=
  .next (
    if !byCustodian acc ∨ !s.flag svCtrlEn ∨ s.flag svCtrlCont then s
    else match s.pw.running with
      | none => s.startConv (s.fld svSelectCh) false 0
      | some (_, urgent, _) =>
        if urgent && decide (3 ∉ s.pw.urgent) then { s with pw := { s.pw with urgent := s.pw.urgent ++ [3] } } else s)

/-- SV_URGENT: firmware requests an urgent conversion of a channel (R484). -/
def execSvUrgent (acc : Accessor) (ch : BitVec 7) (s : State) : Host.Outcome State Fault Refusal :=
  .next (if !byCustodian acc ∨ 96 ≤ ch.toNat then s else (s.setFld svUrgentCh ch.toNat).requestUrgent 2)

/-- OVERCURRENT_WATCHER: a stage's input current has stayed above 12.5 A: an urgent request on its channel (R491). -/
def execOvercurrentWatcher (stage : Fin 2) (s : State) : Host.Outcome State Fault Refusal := .next (s.requestUrgent stage.val)

end Sys2Proof.Machine
end

