-- ==== Sys2Proof/Machine/Resets.lean ====
section
/-! DEFINITION. Resets and lockouts (R489, R490, R492, R515, R528, R529, R542, R546, R566): what each keeps, how one begins, the filtered MOD_RST_N, power-on and the loss of the
standby supply; the record mirror (R450). Log entries 62, 63. -/
namespace Sys2Proof.Machine
open Sys2Proof

/-! The record mirror (R450). -/

/-- Ring entries that hold a record not yet mirrored, in SEQ order. -/
def State.heldEntries (s : State) : List Nat :=
  let seq (e : Nat) : Nat := bitsOf (s.reg (inErrRecordReg (4 * e))).toNat 32 32
  sortBy (fun e => (seq e + 2 ^ 32 - s.fld inErrStatMirror) % 2 ^ 32) ((List.range 128).filter s.entryHeld)

/-- Every record not yet mirrored goes into the accession log in SEQ order, then the one in IN_ERR_LAST (R450). -/
def State.mirrorAll (s : State) : State :=
  let words (s : State) (r : Nat → Nat) : List W64 := (List.range 4).map fun w => s.reg (r w)
  let s := s.heldEntries.foldl (fun s e => s.addLog (words s fun w => inErrRecordReg (4 * e + w))) s
  let s := if s.ig.lastHeld then s.addLog (words s inErrLastReg) else s
  let s := { s with ig := { s.ig with lastHeld := false } }
  (s.setFld inErrStatMirror (s.fld inErrHeadWr)).setFld inErrStatPending 0

/-- RECORD_MIRROR: the custodian mirrors the queued records (R450); without the compute die there is no queue. -/
def execRecordMirror (s : State) : Host.Outcome State Fault Refusal := .next (if s.dieRuns then s.mirrorAll else s)

/-! What a reset keeps (R528). -/

/-- Write the NAND copy that is not active, or the staging area of a key set (R536). -/
def State.setInactive (s : State) (c : Component) (img : List Byte) : State :=
  { s with cu := match c with
    | .firmware => if s.cu.em.fwActive = 1 then { s.cu with fwB := img } else { s.cu with fwA := img }
    | .catalogue => if s.cu.em.catActive = 1 then { s.cu with catB := img } else { s.cu with catA := img }
    | .keys => { s.cu with em := { s.cu.em with keyStaged := if img.isEmpty then none else some img } } }

/-- An update under way is lost; a copy being written is marked invalid (R546). -/
def State.dropUpdate (s : State) : State :=
  let s := match s.cu.pldm, s.cu.comp with
    | .receiving, some c => s.setInactive c []
    | _, _ => s
  { s with cu := { s.cu with pldm := .idle, comp := none, compSize := 0, comps := [], update := [], ready := [] } }

/-- A physical crossbar as eMRAM and its cells keep it (R233, R277, R570): write count, weeding record, content; stale until re-verified. -/
def PhysXb.kept (p : PhysXb) : PhysXb :=
  { st := if p.cause.isSome then .weeded else .reserve, writes := p.writes, cause := p.cause, prec := p.prec }

/-- A section as eMRAM keeps it: the content it retains (R277). -/
def SectionSt.kept (x : SectionSt) : SectionSt := { retained := x.retained }

/-- Registers the custodian keeps through a reset of the compute die: the survey converter's, BT_BOOT, the filtered MOD_RST_N, PW_STAGE. -/
def keptReg (o : Nat) : Bool :=
  (decide (0x710000 ≤ o) && decide (o < 0x720000)) || decide (o = btBootReg) || decide (o = pwStageReg 0) || decide (o = pwStageReg 1)

/-- The compute die and HBM are reset (R528): cells, the shelver's records in eMRAM, the calibration snapshot and the custodian stay. Debug closes
and its nonce is spent (R540, R541). -/
def State.dieReset (s : State) : State :=
  let s := s.dropUpdate
  let z := State.reset
  let s' : State := { z with
    now := s.now
    free := s.free
    regs := s.regs.filter fun e => keptReg e.1
    xb := { z.xb with
      cells := s.xb.cells
      map := s.xb.map
      phys := (s.xb.phys.map fun e => (e.1, e.2.kept)).filter fun e => decide (e.2 ≠ {}) }
    sh := { z.sh with sec := (s.sh.sec.map fun e => (e.1, e.2.kept)).filter fun e => decide (e.2 ≠ {}) }
    ca := { z.ca with snapshot := s.ca.snapshot }
    sv := { z.sv with
      out := s.sv.out
      msix := s.sv.msix
      port := (s.sv.port.map fun e => (e.1, { ({} : PortSt) with perst := e.2.perst })).filter fun e => decide (e.2 ≠ {}) }
    fb := { z.fb with port := (s.fb.port.map fun e => (e.1, { ({} : FabPort) with sent := e.2.sent })).filter fun e => decide (e.2 ≠ {}) }
    pw := { z.pw with
      running := s.pw.running
      urgent := s.pw.urgent
      latch := s.pw.latch
      latchDue := s.pw.latchDue
      latchTime := s.pw.latchTime
      cmdOff := s.pw.cmdOff
      railOut := s.pw.railOut
      vprgBack := s.pw.vprgBack
      vinMv := s.pw.vinMv
      standby := s.pw.standby }
    cu := { s.cu with
      nonce := none
      token := none
      planRun := none
      catRun := 0
      checked := none
      throtTimes := []
      throtStuckDone := false
      instrReg := if 4 ≤ s.cu.instrReg ∧ s.cu.instrReg ≤ 6 then 1 else s.cu.instrReg
      pinsDriven := false }
    pending := s.pending }
  (s'.setFlag btInputsModRst (s.flag btInputsModRst)).setFlag btInputsModRstUnstable (s.flag btInputsModRstUnstable)

/-- The custodian starts from ROM (R528): what it holds outside eMRAM and NAND is lost; a staged key set becomes the active one (R523). -/
def State.custRestart (s : State) : State :=
  let s := s.dropUpdate
  let s := { s with
    regs := s.regs.filter fun e => !(decide (0x710000 ≤ e.1) && decide (e.1 < 0x720000))
    pw := { s.pw with running := none, urgent := [], railOut := [], vprgBack := [] }
    cu := { s.cu with
      em := { s.cu.em with keySet := s.cu.em.keyNext.getD s.cu.em.keySet, keyNext := none }
      eid := 0
      session := false
      resp := []
      alerts := []
      alertSev := 4
      alertN := false
      fwRun := none
      wall := none
      modRstTimes := []
      modRstHeldDone := false
      throtRaw := false
      resetDue := none
      bootFrom := 0
      instrReg := 0
      tapReset := true
      dbData := 0 } }
  let s := (List.range 2).foldl (fun s k => (s.setReg (pwStageReg k) 0).setFld (pwStageTrips k) (s.cu.em.trips.getD k 0)) s
  ((s.setFlag btInputsModRst false).setFlag btInputsModRstUnstable false).setFld btBootFwCopy 0

/-! Beginning and end of a reset. -/

/-- Boot begins at a step, or waits for the release of MOD_RST_N with STEP RESET_HELD (R524, R542). -/
def State.startBoot (s : State) (step kind : Nat) : State :=
  if s.flag btInputsModRst then
    ({ s with cu := { s.cu with bootFrom := step } }.setFld btBootStep 17).setFld btBootResetKind kind
  else s.beginBoot step kind

/-- A full or module reset (R528, R529): links drop, the records are mirrored, RESET_START is written, rails turn off; boot starts at step 1,
or at step 4 of a module reset with the stages on. -/
def State.performReset (s : State) (full : Bool) : State :=
  let s := (if s.dieRuns then s.mirrorAll else s).inputRecord 6 1 10 (if full then 1 else 2)
  let s := { s with cu := { s.cu with resetDue := none, em := { s.cu.em with running := false } } }
  let s := { s with pw := { s.pw with pwrOk := false } }
  if full then
    let held := s.flag btInputsModRst
    ((s.stagesOff.custRestart.dieReset).setFlag btInputsModRst held).startBoot 1 1
  else
    let on := s.flag (pwStageOn 0) && s.flag (pwStageOn 1)
    s.dieReset.startBoot (if on then 4 else 1) 2

/-- RESET_START: a reset that has begun is performed (R529). -/
def execResetStart (full : Bool) (s : State) : Host.Outcome State Fault Refusal :=
  .next (if s.pw.standby then s.performReset full else s)

/-- STAGE_LOCKOUT: a stage's input crosses a lockout: the stage turns off, or restarts (R489, R490, R492). With both off the custodian writes a RAIL
entry; their return boots the module from step 1 as a module reset, but in recovery, where they stay off (R522, R566). -/
def execStageLockout (stage : Fin 2) (millivolt : Nat) (s : State) : Host.Outcome State Fault Refusal :=
  .next (
    let k := stage.val
    let on := s.flag (pwStageOn k)
    let step := s.fld btBootStep
    let s := { s with pw := { s.pw with vinMv := setAt s.pw.vinMv k millivolt } }
    if on && !inputOk true millivolt then
      let s := (s.setFlag (pwStageOn k) false).showPwrOk
      if s.flag (pwStageOn (1 - k)) then s
      else
        let s := { s with cu := { s.cu with bootFrom := if step = 17 then 1 else s.cu.bootFrom } }
        if s.pw.standby then (s.shutdownEntry 5 0 0).stagesOff else s.stagesOff
    else if !on && inputOk false millivolt && s.mayStart && decide (step ≠ 0) && decide (step < 16) then
      let s := s.setFlag (pwStageOn k) true
      if !(s.flag (pwStageOn (1 - k))) then s
      else if s.pw.gated then s.dieReset.beginBoot 1 2
      else s.showPwrOk
    else s)

/-- POWER_ON: the standby supply returns and the custodian starts from ROM (R528). A latch is cleared once 72 V has been absent for 2 s; one
that fired without a shutdown entry gets it now (R515, R533). -/
def execPowerOn (s : State) : Host.Outcome State Fault Refusal :=
  .next (
    if s.pw.standby && decide (s.fld btBootStep ≠ 0) then s
    else
      let gone := !s.pw.standby && decide (s.pw.latchTime + 2000000000 ≤ s.now)
      let s := { s with pw := { s.pw with
        standby := true
        cmdOff := false
        vinMv := [72000, 72000]
        latch := if gone then [] else s.pw.latch
        latchDue := if gone then [] else s.pw.latchDue } }
      let s := s.custRestart.dieReset
      let s := s.pw.latchDue.foldl (fun s e => s.shutdownEntry (tripCode e.2) e.1 0) s
      { s with pw := { s.pw with latchDue := [] } }.beginBoot 1 0)

/-- STANDBY_SUPPLY_LOSS: the input falls below 40 V and the custodian stops (R566). -/
def execStandbySupplyLoss (s : State) : Host.Outcome State Fault Refusal :=
  .next (
    if !s.pw.standby then s
    else
      let s := s.dropUpdate.stagesOff
      { s with
        pw := { s.pw with standby := false, latchTime := s.now, vinMv := [0, 0] }
        cu := { s.cu with alertN := false } })

/-! MOD_RST_N (R542). -/

/-- MOD_RST_ASSERT: the filtered input asserts and a module reset begins; stages commanded off may start again (R515). More than 4 assertions
within 1 s mark the input UNSTABLE. -/
def execModRstAssert (s : State) : Host.Outcome State Fault Refusal :=
  .next (
    if !s.pw.standby || s.flag btInputsModRst then s
    else
      let times := (s.cu.modRstTimes.filter fun t => decide (s.now < t + 1000000000)) ++ [s.now]
      let s : State := { s with
        cu := { s.cu with modRstTimes := times, modRstHeldDone := false, resetDue := some (s.cu.resetDue.getD false) }
        pw := { s.pw with cmdOff := false } }
      let s := s.setFlag btInputsModRst true
      if 4 < times.length then (s.setFlag btInputsModRstUnstable true).inputRecord 6 1 2 (Nat.min 255 times.length) else s)

/-- MOD_RST_RELEASE: the filtered input releases and boot starts (R542). -/
def execModRstRelease (s : State) : Host.Outcome State Fault Refusal :=
  .next (
    if !(s.flag btInputsModRst) then s
    else
      let s := (s.setFlag btInputsModRst false).setFlag btInputsModRstUnstable false
      match s.cu.resetDue with
      | some full => s.performReset full
      | none => if s.fld btBootStep = 17 then s.beginBoot s.cu.bootFrom (s.fld btBootResetKind) else s)

/-- MOD_RST_HELD: asserted for more than 1 s; recorded once (R542). -/
def execModRstHeld (s : State) : Host.Outcome State Fault Refusal :=
  .next (if !(s.flag btInputsModRst) ∨ s.cu.modRstHeldDone then s
    else { s with cu := { s.cu with modRstHeldDone := true } }.inputRecord 6 1 1 0)

end Sys2Proof.Machine
end

