-- ==== Sys2Proof/Machine/Boot.lean ====
section
/-! DEFINITION. The steps of boot (R24, R26, R31, R96, R277, R287, R288, R390, R460, R516, R521 to R526, R533): BOOT_STEP and what ends each
step. Log entries 63 to 65. -/
namespace Sys2Proof.Machine
open Sys2Proof

/-! Signed images (R521). -/

/-- Kinds of signed image: firmware and key set. -/
inductive ImageKind where
  | firmware | keySet
deriving DecidableEq, Repr

/-- MAGIC of a kind. -/
def ImageKind.magic : ImageKind → List Byte
  | .firmware => [0x53, 0x4B, 0x46, 0x57]
  | .keySet => [0x53, 0x4B, 0x4B, 0x59]

/-- The largest body of a kind. -/
def ImageKind.most : ImageKind → Nat
  | .firmware => 16777216
  | .keySet => 512

/-- MIN_SVN of a kind in eMRAM. -/
def Emram.minSvn (em : Emram) : ImageKind → Nat
  | .firmware => em.minSvnFw
  | .keySet => em.minSvnKey

/-- SVN of an image. -/
def imageSvn (d : List Byte) : Nat := numAt d 6 2

/-- Its body. -/
def imageBody (d : List Byte) : List Byte := bytesAt d 128 (numAt d 8 4)

/-- The fields of a signed image (R521, log entry 64). -/
def imageFields (k : ImageKind) (d : List Byte) : Bool :=
  let n := numAt d 8 4
  decide (bytesAt d 0 4 = k.magic) && decide (numAt d 4 2 = 1) && decide (1 ≤ imageSvn d) && decide (n ≤ k.most)
    && decide (d.length = 128 + n + 104) && decide (numAt d 12 1 ≤ 1) && decide (numAt d 13 3 = 0) && decide (numAt d 113 15 = 0)
    && decide (numAt d (128 + n) 8 = 0)

/-- Does the custodian accept an image (R521)? The SHA-384 of KEY is the fused digest, the signature verifies, SVN is at least MIN_SVN. -/
def Emram.imageOk (em : Emram) (k : ImageKind) (d : List Byte) : Bool :=
  let a := 128 + numAt d 8 4
  let key := bytesAt d 16 97
  imageFields k d && decide (Config.sha384 key = Config.rootKeyDigest)
    && Config.ecdsaOk key (Config.sha384 (bytesAt d 0 a)) (bytesAt d (a + 8) 48) (bytesAt d (a + 56) 48)
    && decide (em.minSvn k ≤ imageSvn d)

/-- An accepted image with COMMIT_SVN raises MIN_SVN of its kind at once (R521). -/
def Emram.commitSvn (em : Emram) (k : ImageKind) (d : List Byte) : Emram :=
  if numAt d 12 1 = 1 then
    match k with
    | .firmware => { em with minSvnFw := imageSvn d }
    | .keySet => { em with minSvnKey := imageSvn d }
  else em

/-! Steps. -/

/-- STEP becomes n; READY, NOT_READY and RECOVERY raise ALERT_N (R524, R538). -/
def State.setStep (s : State) (n : Nat) : State :=
  let s := s.setFld btBootStep n
  if 14 ≤ n ∧ n ≤ 16 then s.alert 4 else s

/-- The BOOT_FAIL entry of a step, with its row of R526 (R545). -/
def State.bootFail (s : State) (row : Nat) : State :=
  s.inputRecord 6 (if row = 4 then 5 else 1) 9 (s.fld btBootStep + row * 2 ^ 8)

/-- A rail stays out of window at step 1 or 4: the stages are commanded off and the module waits for a reset (R526). -/
def State.railFail (s : State) : State :=
  let s := ((s.bootFail 2).shutdownEntry 5 0 0).stagesOff
  { s with pw := { s.pw with cmdOff := true } }

/-- Step 1: the stages start on an input above 58 V (R489, R524). -/
def State.softStart (s : State) : State :=
  if s.mayStart && (s.pw.vinMv.all fun v => inputOk false v) then
    let s := (s.setFlag (pwStageOn 0) true).setFlag (pwStageOn 1) true
    s.setStep 2
  else s

/-- The shutdown entry that LAST_SHUTDOWN names, in the shutdown ring (R532). -/
def Emram.lastEntry (em : Emram) : Option LogEntry :=
  em.lastShutdown.bind fun n => (tabFind em.shutdown (n % 64)).bind fun e => if e.lseq = n then some e else none

/-- LAST_CAUSE (R533, R546): the cause of a shutdown entry of the boot before, else INPUT_LOSS when the module was running, else orderly. -/
def State.lastCause (s : State) : Nat :=
  let em := s.cu.em
  match em.lastEntry with
  | some e => if e.boot = em.boots then bitsOf (e.record.getD 3 0).toNat 0 4 else if em.running then 7 else 0
  | none => if em.running then 7 else 0

/-- Step 2: LAST_CAUSE, BOOTS, the trips of PW_STAGE (R524, R530, R533). -/
def State.romStep (s : State) : State :=
  let cause := s.lastCause
  let boots := (s.cu.em.boots + 1) % 2 ^ 32
  let s := { s with cu := { s.cu with em := { s.cu.em with boots, running := true } } }
  let s := ((s.setFld btBootLastCause cause).setFld btBootBoots boots).setStep 3
  if cause = 0 then s else s.alert 2

/-- Step 3: the active copy, else the other, is verified and started (R521, R522). -/
def State.verifyStep (s : State) : State :=
  let run (s : State) (copy : Nat) (d : List Byte) : State :=
    ({ s with cu := { s.cu with
      em := s.cu.em.commitSvn .firmware d
      fwRun := some (Config.sha384 d, imageSvn d) } }.setFld btBootFwCopy copy).setStep 4
  let em := s.cu.em
  let a := if em.fwActive = 1 then (1, s.cu.fwA) else (2, s.cu.fwB)
  let b := if em.fwActive = 1 then (2, s.cu.fwB) else (1, s.cu.fwA)
  if em.imageOk .firmware a.2 then run s a.1 a.2
  else if em.imageOk .firmware b.2 then run s b.1 b.2
  else (s.bootFail 1).setStep 16

/-- Recovery: no valid firmware; the stages stay off (R522). -/
def State.recovery (s : State) : State := ((s.bootFail 1).stagesOff).setStep 16

/-- Step 4: rails raised, PWR_OK asserted, survey windows set (R494, R524). -/
def State.railsStep (s : State) : State :=
  let s := { s with
    pw := { s.pw with rails := true, gated := false, railOut := [] }
    cu := { s.cu with em := { s.cu.em with running := true } } }
  s.setWindows.showPwrOk.setStep 5

/-! Step 5: fuses and repair maps (R24, R26, R31). -/

/-- Usable physical cores of a physical cluster, ascending. -/
def Emram.usableCores (em : Emram) (pc : Nat) : List Nat := (List.range 34).filter fun k => decide (34 * pc + k ∉ em.coreRepair)

/-- A cluster left with fewer than 32 usable cores is recorded as failed (R31). -/
def State.weakClusters (s : State) : State :=
  (List.range 136).foldl (fun s pc =>
    if (s.cu.em.usableCores pc).length < 32 ∧ pc ∉ s.cu.em.repair then
      { s with cu := { s.cu with em := { s.cu.em with repair := s.cu.em.repair ++ [pc] } } }.custRecord
        (recUnit 6 0 1 13 4 0 (pc % 17 * 2 ^ 16 + pc / 17 * 2 ^ 8) none)
    else s) s

/-- Is a physical column of a row failed: factory fuses or field repair map (R26)? -/
def State.colFailed (s : State) (y px : Nat) : Bool := Config.factoryFailedColumn y px || decide (17 * y + px ∈ s.cu.em.repair)

/-- The lowest and the second-lowest failed column of a row, 17 where there is none (R24). -/
def State.failedPair (s : State) (y : Nat) : Nat × Nat :=
  match (List.range 17).filter (s.colFailed y) with
  | [] => (17, 17)
  | [a] => (a, 17)
  | a :: b :: _ => (a, b)

/-- Physical column of logical column x of a row, or none when UNAVAILABLE (R24). -/
def shiftColumn (f : Nat × Nat) (x : Nat) : Option Nat :=
  let px := if x < f.1 then x else x + 1
  if f.2 ≤ px then none else some px

/-- CL_STATUS and CL_REMAP of a logical cluster (R24, R116): its 32 cores are the usable ones in ascending order. -/
def State.mapCluster (s : State) (l : Nat) : State :=
  let y := l / 16
  let f := s.failedPair y
  match shiftColumn f (l % 16) with
  | none => (s.setFld (clStatusMap l) 1).setFld (clStatusPy l) y
  | some px =>
    let s := ((s.setFld (clStatusMap l) 0).setFld (clStatusPy l) y).setFld (clStatusPx l) px
    let use := s.cu.em.usableCores (17 * y + px)
    let s := s.setFld (clStatusSpares l) (use.length - 32)
    (List.range 32).foldl (fun s k => s.setFld (clRemapPcore l k) (use.getD k 0)) s

/-- The crossbar map of a core at boot: an entry of eMRAM that names a usable crossbar of the core stands, else the crossbar of the slot's
number, else the lowest usable one not taken (R32, R277). -/
def State.bootMap (s : State) (c : Nat) : State :=
  let mine := s.coreXbs c
  let ok (s : State) (taken : List Nat) (n : Nat) : Bool := decide (n ∈ mine) && (s.phys n).cause.isNone && decide (n ∉ taken)
  let kept (s : State) (j : Nat) : Option Nat := (tabFind s.xb.map (coreXb c j)).filter fun n => ok s [] n
  let held := (List.range 16).filterMap (kept s)
  ((List.range 16).foldl (fun (a : State × List Nat) j =>
    match kept a.1 j with
    | some n => (a.1.mapXb (coreXb c j) n, a.2)
    | none =>
      let own := mine.getD j 0
      let n := if ok a.1 a.2 own then some own else mine.find? (ok a.1 a.2)
      match n with
      | some n => (a.1.mapXb (coreXb c j) n, a.2 ++ [n])
      | none => a) (s, held)).1

/-- What the slots of a core hold (R96, R277, XB_STAT): the precision of the mapped crossbar's content, fenced. -/
def State.bootSlots (s : State) (c : Nat) : State :=
  (List.range 16).foldl (fun s j =>
    let x := coreXb c j
    let n := s.mappedXb x
    let s := s.setFld (xbStatPrec (xbCluster x) (xbSlot x)) (s.phys n).prec
    if (s.phys n).prec = 0 then s else s.setFld (xbStatTier (xbCluster x) (xbSlot x)) 2) s

/-- SH_WEED_COUNT from the weeding records in eMRAM. -/
def State.showWeeds (s : State) : State :=
  [WeedCause.calibration, .writeFail, .drift, .endurance].foldl (fun s k =>
    s.setFld (weedFld k) (Nat.min 4095 (s.xb.phys.countP fun e => decide (e.2.cause = some k)))) s

/-- Step 5: fuses and field repair map applied, shelver state restored, exclusions applied (R24, R26, R277, R477). -/
def State.fuseStep (s : State) : State :=
  let s := s.weakClusters
  let s := (List.range 128).foldl State.mapCluster s
  let cores := (List.range 4096).filter fun c => decide (s.fld (clStatusMap (c / 32)) = 0)
  let s := cores.foldl (fun s c => ((s.bootMap c).bootSlots c).showReserve c) s
  s.showWeeds.showExcluded.setStep 6

/-- Step 6: held until every usable sensor reads below 60 °C (R516, R524). -/
def State.coolEnough (s : State) : Bool := (List.range 304).all fun n => s.excluded n || decide (s.reading n < 240)

/-! Steps 7 and 8: HBM and fabric (R390, R524, R525). -/

/-- FB_COORD, FB_BRIDGE_ID and FB_PLAN_NEIGHBOUR from the plan in eMRAM; ports that it names start to train (R390, R525). -/
def State.writePlan (s : State) : State :=
  let s := match s.cu.em.plan with
    | none => s
    | some p =>
      let s := s.writeTyped fbCoordReg p.coord (BitVec.allOnes 64)
      let s := match p.bridge with
        | some b => s.writeTyped fbBridgeIdReg b (BitVec.allOnes 64)
        | none => s
      let s := (List.range 8).foldl (fun (s : State) q => s.writeTyped (fbPlanNeighbourReg q) (p.neighbour.getD q 0) (BitVec.allOnes 64)) s
      { s with cu := { s.cu with planRun := some p } }
  let s := s.showNumbers
  let s : State := (List.range 8).foldl (fun s q => s.setFld (fbPortStateRole q) (s.fld (fbPlanNeighbourRole q))) s
  let bad := !(s.flag fbCoordValid) || (List.range 3).any fun d => decide (s.dimOf d ≤ s.coordOf d)
  if bad then s.post (recUnit 6 0 1 19 2 0 0 none)
  else
    (List.range 8).foldl (fun s q =>
      if s.fld (fbPlanNeighbourKind q) = 0 then s
      else s.setPort q (if s.fb.fabRefLost then portDown else portTraining)) s

/-- A stack fails training or test (R216, R526). -/
def State.hbmFail (s : State) : State :=
  let s := (s.post { sev := 5, kind := 15, sub := 1, domain := 4, unit := 0, detail := Config.freeNat s.free % 16 }).draw 1
  (s.bootFail 4).setStep 15

/-! Steps 9 to 13: the catalogue (R286 to R288, R460, R524). -/

/-- A full catalogue copy is refused: its reason, and a NOTE record of module scope (R310). -/
def State.refuseCopy (s : State) (e : CatErr) : State :=
  let s := (s.setFld ctCatStateReason e.reason).catDetail e
  s.post { sev := 1, kind := 17, sub := 1, domain := 4, unit := 0, detail := e.reason }

/-- The copy marked active is checked, then the other (R286). -/
def State.checkCopies (s : State) : State :=
  let a := if s.cu.em.catActive = 1 then (1, s.cu.catA) else (2, s.cu.catB)
  let b := if s.cu.em.catActive = 1 then (2, s.cu.catB) else (1, s.cu.catA)
  let take (s : State) (k : Nat × List Byte) (c : Cat) : State :=
    { s with cu := { s.cu with checked := some c, catRun := Config.sha384 k.2 } }.setFld ctCatStateCopy k.1
  match s.checkFull a.2 with
  | .ok c => take s a c
  | .error e =>
    let s := s.refuseCopy e
    match s.checkFull b.2 with
    | .ok c => take s b c
    | .error e => ((s.refuseCopy e).setFld ctCatStateState 3).bootFail 6

/-- May a value of TH_LIMITS be written (TH_LIMITS, R480)? -/
def limitsOk (v : W64) : Bool :=
  let t := bitsOf v.toNat 0 10
  let f := bitsOf v.toNat 16 10
  let c := bitsOf v.toNat 32 10
  decide (t ≤ 0x17C) && decide (f ≤ 0x198) && decide (c ≤ 0x1B8) && decide (t < f) && decide (f < c)

/-- Step 10: protection tables, IN_SEAL_SECRET, TH_LIMITS, then BT_LOCK (R287, R288, R438, R525). Debug closes without a token (R539, R541). -/
def State.lockStep (s : State) : State :=
  let s := match s.cu.checked with
    | some c => s.loadProtection c
    | none => s
  let s := match s.cu.planRun with
    | none => s
    | some p =>
      let s := match p.secret with
        | some w => (List.range 4).foldl (fun (s : State) i => s.setReg (inSealSecretReg i) (w.getD i 0)) s
        | none => s
      match p.limits with
      | some v => if limitsOk v then s.writeTyped thLimitsReg v (BitVec.allOnes 64) else s
      | none => s
  let s := s.setFlag btLockLock true
  let pins : Bool := match s.cu.token with | some t => bitOf t.1 1 | none => false
  let s := if s.cu.token.isSome then s else s.setReg dbObsmuxReg 0
  let s := if pins = true then s
    else { s with cu := { s.cu with pinsDriven := false, instrReg := if 4 ≤ s.cu.instrReg ∧ s.cu.instrReg ≤ 6 then 1 else s.cu.instrReg } }
  if s.cu.checked.isSome then s.setStep 11 else s.setStep 15

/-- Step 11: the image goes into the catalogue area, the other sections' configuration is written, sections are fenced (R96, R277, R287). -/
def State.copyStep (s : State) : State :=
  let img := if s.fld ctCatStateCopy = 1 then s.cu.catA else s.cu.catB
  match s.cu.checked with
  | none => s
  | some c =>
    let s := s.hbmWrite 0 img (allBits img.length false) 0
    ((s.loadConfig c).swapFence {}).setStep 12

/-- The monitor measurement of boot of one slot's crossbar (R460): its result, which the analogue array gives, is a free value; what it calls for (R472). -/
def State.bootMonitor (s : State) (x : Nat) : State :=
  let n := s.mappedXb x
  let d := s.freeBytes 1
  let q := leNat d
  let s := (((s.draw 1).setCal n 24 d).modPhys n fun p => { p with monUp := q }).takeQuality n
  if 48 < q then s.weed n .calibration else if 24 < (s.phys n).quality then s.wantRecal x 1 else s

/-- Step 12: the calibration area is filled, trims take force, every crossbar that maps a slot is measured; one above 1.5 LSB rms is scheduled (R460). -/
def State.calStep (s : State) : State :=
  let s := (List.range 83232).foldl State.restoreRecord s
  let slots := (List.range 65536).filter fun x => decide (s.fld (clStatusMap (xbCluster x)) = 0)
  let s := { s with ca := { s.ca with theta := (List.range 136).map fun pc => (pc, s.clusterTemp pc) } }
  let s := slots.foldl (fun s x => s.recompute (s.clusterTemp (s.physCluster (xbCluster x))) (s.mappedXb x)) s
  let s := slots.foldl State.bootMonitor s.transferTrims
  let s := slots.foldl State.showSlot s
  s.setStep 13

/-- Step 13: leaf images are loaded (R287 step 5). -/
def State.leafStep (s : State) : State :=
  match s.cu.checked with
  | none => s
  | some c => (s.loadLeaves c).setStep 14

/-- BOOT_STEP: the step shown by STEP ends, well or not, and the next begins (R524, R526). A step whose outcome the module itself
decides (6, 9, 10, 11, 13) takes no notice of `ok` but as R526 has it. -/
def execBootStep (ok : Bool) (s : State) : Host.Outcome State Fault Refusal :=
  .next (
    if !s.pw.standby then s
    else match s.fld btBootStep with
    | 1 => if ok then s.softStart else s.railFail
    | 2 => if ok then s.romStep else s.recovery
    | 3 => if ok then s.verifyStep else s.recovery
    | 4 => if ok then s.railsStep else s.railFail
    | 5 => s.fuseStep
    | 6 => if !ok then s.bootFail 3 else if s.coolEnough then s.setStep 7 else s
    | 7 => if ok then s.writePlan.setStep 8 else s.hbmFail
    | 8 => ((if ok then s else s.bootFail 5).setFld ctCatStateState 1).setStep 9
    | 9 => s.checkCopies.setStep 10
    | 10 => s.lockStep
    | 11 => s.copyStep
    | 12 =>
      let s := if ok then s else ({ s with ca := { s.ca with snapshot := [] } }).bootFail 7
      s.calStep
    | 13 => s.leafStep
    | _ => s)

end Sys2Proof.Machine
end

