-- ==== Sys2Proof/Machine/Admission.lean ====
section
/-! DEFINITION. Settlement, refill and admission in the guard band: the pattern of idle ticks, loans, decode slots, cohort tables
(R263 to R266, R343, R347 to R356, R358, R509, R510, R513). Log entries 74 to 76. -/
namespace Sys2Proof.Machine
open Sys2Proof

/-! Idle ticks (R509, R513). -/

/-- Is tick n idle under k idle ticks of each 256 counted from tick `from_`, with ticks that wrap at `wrap` (R509)? -/
def idleAt (wrap k from_ n : Nat) : Bool :=
  let m := (n % wrap + wrap - from_ % wrap) % wrap % 256
  decide (m * k / 256 < (m + 1) * k / 256)

/-- The pattern in force in tick n: k and the tick it is counted from (R509, R512, R513; log entry 76). -/
def State.idlePattern (s : State) (n : Nat) : Nat × Nat :=
  match (if s.pw.fastClear then none else s.pw.fastFrom) with
    | some f => (128, f)
    | none =>
      let due := s.cat.domain.filter fun a => decide (a.action = 2) && s.tickBy a.tgt n
      match due.getLast?, s.pw.throttle with
      | some a, _ => (Nat.min 192 a.arg, a.tgt)
      | none, some (tgt, k) => (Nat.min 192 k, tgt)
      | none, none => (0, 0)

/-- Is tick n idle? -/
def State.idleTick (s : State) (n : Nat) : Bool :=
  let p := s.idlePattern n
  idleAt s.tickWrap p.1 p.2 n

/-! Settlement and refill (R353, R354). -/

/-- A tenant's BALANCE. -/
def State.balance (s : State) (t : Nat) : Int := signed 32 (s.fld (tnBudgetBalance t))

/-- Write a BALANCE, saturating at −2³¹ and at CAP (R353). -/
def State.setBalance (s : State) (t : Nat) (x : Int) : State :=
  s.setFld (tnBudgetBalance t) (pattern 32 (clamp (-2147483648) (s.fld (tnWeightCap t)) x))

/-- The request after its step ends (R344, R349, R354, R359). -/
def State.afterStep (s : State) (r : Request) (st : Step) : Request :=
  let full := match r.dslot with | some d => s.flag (seSlotStatCtxFull (d / 256) (d % 256)) | none => false
  { r with
    step := none
    oldBuf := st.chunk
    ctxLimit := r.ctxLimit || full }

/-- Settle a step: its hold returns less what was charged, its unused completion entries are released (R354). An ended request
keeps the step, with nothing left to settle, so that its cohort-table entries are cleared (R343). -/
def State.settleStep (s : State) (n : Nat) (r : Request) (st : Step) : State :=
  let s := s.setBalance r.tenant (s.balance r.tenant + st.hold - st.used * st.cost)
  let s := (s.decFld (tnBudgetHold r.tenant) st.hold).unreserveCpl r.port r.ring st.resv
  if r.ended.isSome then s.setRq n { r with step := some { st with hold := 0, used := 0, resv := 0 } }
  else s.setRq n (s.afterStep r st)

/-- Settle the steps that end at the coming boundary, and those of requests that have ended, but for an end that counts as of the next tick (R354, R357). -/
def State.settle (s : State) : State :=
  (s.sv.req.map Prod.fst).foldl (fun s n => match s.rq n with
    | some r => match r.step with
      | some st =>
        if s.tickDue st.ends then s.settleStep n r st
        else if r.ended = some s.nextTick ∨ (st.hold = 0 ∧ st.resv = 0) then s
        else if r.ended.isSome then s.settleStep n r st else s
      | none => s
    | none => s) s

/-- Refill every VALID tenant when the coming boundary is a multiple of TICKS (R354). -/
def State.refill (s : State) : State :=
  if s.nextTick % s.fld tnRefillTicksTicks = 0 then
    (List.range 1024).foldl (fun s t =>
      if s.flag (tnStatValid t) then s.setBalance t (s.balance t + s.fld (tnWeightWeight t)) else s) s
  else s

/-! Requests that end without a step in flight (R339, R349, R351, R358). -/

/-- Does a version of a volume wait for the resident section that binds it, which another version holds (R263)? -/
def State.boundWaits (s : State) (part id : Nat) : Bool :=
  s.sh.demands.any fun h =>
    let v := s.vol h
    decide (v.part = part) && decide (v.id = id) && v.resident
      && s.ctg.sections.any fun r => sectionSuits v r && decide ((s.sect r.sec).vol ≠ none) && decide ((s.sect r.sec).vol ≠ some h)

/-- The newest version that admission may lend: SHELVED at the coming boundary (R264); none of a volume that waits for its resident section (R263). -/
def State.lendVolume (s : State) (part id : Nat) : Option Nat :=
  if s.boundWaits part id then none
  else s.newest (s.sh.vol.filterMap fun e =>
    if e.2.part = part ∧ e.2.id = id ∧ (e.2.st = .shelved ∨ e.2.placed = true) then some e.1 else none)

/-- The slot of an adapter that is CURRENT from the coming boundary and takes new loans (R266, R268). -/
def State.lendAdapter (s : State) (part adapter tenant : Nat) : Option Nat :=
  let mine (x : ASlot) : Bool := decide (x.part = part) && decide (x.adapter = adapter) && decide (x.tenant = tenant)
  match s.sh.aslot.find? fun e => decide (e.2.st = .writing) && e.2.passed && mine e.2 with
  | some e => some e.1
  | none => (s.sh.aslot.find? fun e => decide (e.2.st = .current) && !e.2.release && mine e.2).map Prod.fst

/-- What the volume of a request not yet admitted asks for: a placement demand, or its end (R351). -/
def State.beforeAdmission (s : State) (n : Nat) (r : Request) : State :=
  match s.newest (s.versionsOf r.part r.volId fun st => decide (st ≠ .absent)) with
  | none => s.endNow n 5 r.why
  | some h =>
    let st := (s.vol h).st
    if st = .staging ∨ st = .staged then s.raiseDemand h
    else if st = .unavailable ∧ (s.lendVolume r.part r.volId).isNone then s.endNow n 5 (s.vol h).reason
    else s

/-- A request with no step in flight past the coming boundary: its deadline, its context limit, its CLOSE, its volume. -/
def State.finalOne (s : State) (n : Nat) (r : Request) : State :=
  if (match r.deadline with | some d => s.tickReached d | none => false) then s.endNow n 2 0
  else if r.ctxLimit then s.endNow n 0 0
  else if r.closing && r.chunks.isEmpty && r.gens.isEmpty then s.endNow n 0 0
  else if r.admitted then s
  else s.beforeAdmission n r

/-- The same for every request; the demands that this raises are of one moment, the lower handle first (R279). -/
def State.finals (s : State) : State :=
  let k := s.sh.demands.length
  let s := (s.sv.req.map Prod.fst).foldl (fun s n => match s.rq n with
    | some r => if r.ended.isSome || r.step.isSome then s else s.finalOne n r
    | none => s) s
  { s with sh := { s.sh with demands := s.sh.demands.take k ++ sortBy id (s.sh.demands.drop k) } }

/-! Readiness (R347, R348). -/

/-- Is a decode slot FREE for a partition, and given to no request? -/
def State.slotOpenable (s : State) (part i k : Nat) : Bool :=
  decide (s.fld (seSlotStatState i k) = slotFree) && decide (s.fld (seSlotStatPart i k) = part)
    && !(s.se.opening.any fun e => decide (e.1 = 256 * i + k))

/-- FREE slots of a partition on an engine. -/
def State.freeSlots (s : State) (part i : Nat) : List Nat := (List.range 256).filter fun k => s.slotOpenable part i k

/-- The decode slot admission gives: of the engine in ENGINES with the most FREE slots, the lowest (R348). -/
def State.chooseSlot (s : State) (v : ServiceRec) : Option Nat :=
  let best := (List.range 16).foldl (fun (a : Option (Nat × Nat × Nat)) i =>
    if bitOf v.engines i then
      match s.freeSlots v.part i with
      | [] => a
      | k :: r => match a with
        | some (_, _, m) => if m < r.length + 1 then some (i, k, r.length + 1) else a
        | none => some (i, k, r.length + 1)
    else a) none
  best.map fun e => 256 * e.1 + e.2.1

/-- The chunk a step would take: the oldest, once it has been written (R344, R347). -/
def Request.nextChunk (r : Request) : Option Chunk :=
  match r.chunks with
  | c :: _ => if c.ready then some c else none
  | [] => none

/-- Has the request work: a chunk, or units to generate? -/
def Request.hasWork (r : Request) : Bool := r.nextChunk.isSome || !r.gens.isEmpty

/-- When the oldest waiting descriptor of a request was fetched. -/
def Request.oldest (r : Request) : Nat :=
  ((r.chunks.map Chunk.order) ++ r.gens.map Gen.order).foldl (fun a n => match a with
    | none => some n
    | some m => some (Nat.min m n)) none |>.getD 0

/-- May the request's first step begin: a volume, its adapter and a decode slot to be had (R347, R351), and no swap that changes the partition's pages at
the coming boundary (R230)? -/
def State.mayBegin (s : State) (v : ServiceRec) (r : Request) : Bool :=
  (s.lendVolume r.part r.volId).isSome && (decide (r.adapter = 0) || (s.lendAdapter r.part r.adapter r.tenant).isSome)
    && (s.chooseSlot v).isSome && !s.losesPages r.part

/-- Is a request ready for the coming cohort of its service (R347)? -/
def State.readyReq (s : State) (v : ServiceRec) (r : Request) : Bool :=
  decide (r.svc = v.service) && r.ended.isNone && !r.muted && r.step.isNone && !r.ctxLimit && r.hasWork
    && (match r.deadline with | some d => !s.tickDue d | none => true)
    && decide (stepEntries v ≤ s.cplFree r.port r.ring)
    && (r.admitted || s.mayBegin v r)

/-- The request that admission takes next: the first eligible tenant after RR, its oldest waiting descriptor (R354). -/
def State.nextAdmit (s : State) (v : ServiceRec) : Option (Nat × Request) :=
  let rr := tabGet 1023 s.sv.rr v.service
  let key (r : Request) : Nat × Nat := ((r.tenant + 1023 - rr) % 1024, r.oldest)
  (s.sv.req.filter fun e => decide (0 < s.balance e.2.tenant) && s.readyReq v e.2).foldl (fun a e => match a with
    | none => some e
    | some b =>
      let x := key b.2
      let y := key e.2
      if y.1 < x.1 ∨ (y.1 = x.1 ∧ y.2 < x.2) then some e else some b) none

/-! Admission (R343, R354). -/

/-- The loans and the decode slot of a first admission (R264, R266, R348). -/
def State.takeLoans (s : State) (v : ServiceRec) (n : Nat) (r : Request) : State :=
  if r.admitted then s
  else
    match s.lendVolume r.part r.volId, s.chooseSlot v with
    | some h, some d =>
      let a := if r.adapter = 0 then none else s.lendAdapter r.part r.adapter r.tenant
      let s := s.modVol h fun x => { x with loans := x.loans + 1 }
      let s := match a with | some k => s.modAslot k fun x => { x with loans := x.loans + 1 } | none => s
      let s := (s.openSlotFor (d / 256) (d % 256) r.part r.tenant).incWrap (tnStatActive r.tenant) 1
      let agen := match a with | some k => (s.aslot k).gen | none => 0
      s.setRq n { r with vol := some h, aslot := a, agen, dslot := some d }
    | _, _ => s

/-- Units still to generate. -/
def unitsLeft (l : List Gen) : Nat := sumNat (l.map Gen.units)

/-- A cohort-table entry (R343): AGEN without an adapter and INPUT without a chunk are free values. -/
def State.cohortEntry (s : State) (v : ServiceRec) (r : Request) (c : Option Chunk) : List Byte :=
  let d := r.dslot.getD 0
  let fl := 1 + 2 * bitNat (!r.admitted) + 4 * bitNat c.isSome + 8 * bitNat (match c with | some c => c.last | none => false)
    + 16 * bitNat c.isNone
  let agen := match r.aslot with | some _ => leBytes 2 r.agen | none => (s.freeBytes 2)
  let input := match c with
    | some c => leBytes 8 (v.inputAddr + (2 * r.openIx + c.buf) * v.chunkMax)
    | none => (s.draw 2).freeBytes 8
  let sec := match r.vol with | some h => (s.vol h).sec.getD 0 | none => 0
  leBytes 1 fl ++ leBytes 1 0 ++ leBytes 2 r.tenant ++ leBytes 2 r.openIx ++ leBytes 2 d ++ leBytes 2 (r.aslot.getD 0xFFFF) ++ agen
    ++ leBytes 2 sec ++ leBytes 2 (Nat.min (unitsLeft r.gens) v.maxUnits) ++ input ++ leBytes 4 (match c with | some c => c.len | none => 0)
    ++ leBytes 4 (s.fld (seSlotStatLen (d / 256) (d % 256)))

/-- Admit a request into batch slot b of the coming cohort (R353, R354): its hold, its reserved entries, its step; the entry it
fills. -/
def State.takeIn (s : State) (v : ServiceRec) (n : Nat) (r : Request) (b : Nat) : State × List Byte :=
  let s := s.takeLoans v n r
  match s.rq n with
  | none => (s, [])
  | some r =>
    let c := r.nextChunk
    let e := s.cohortEntry v r c
    let s := s.draw 10
    let hold := v.maxUnits * v.cost
    let who : W64 × Bool := match c, r.gens with
      | some c, _ => (c.user, c.irq)
      | none, g :: _ => (g.user, g.irq)
      | none, [] => (0, false)
    let st : Step :=
      { cohort := s.nextTick, batch := b, ends := (s.nextTick + v.stages) % s.tickWrap, hold, cost := v.cost, used := 0,
        chunk := c.map Chunk.buf, user := who.1, irq := who.2, resv := stepEntries v,
        owed := if c.isSome then 0 else unitsLeft r.gens }
    let s := s.setRq n { r with admitted := true, step := some st, chunks := if c.isSome then r.chunks.drop 1 else r.chunks }
    let s := (s.reserveCpl r.port r.ring (stepEntries v)).setBalance r.tenant (s.balance r.tenant - hold)
    let s := s.incWrap (tnBudgetHold r.tenant) hold
    ({ s with sv := { s.sv with rr := tabSet 1023 s.sv.rr v.service r.tenant } }, e)

/-- Admission of one service: at most BATCH requests; the filled entries in order. -/
def State.admitLoop (s : State) (v : ServiceRec) : Nat → Nat → State × List (List Byte)
  | 0, _ => (s, [])
  | k + 1, b => match s.nextAdmit v with
    | none => (s, [])
    | some (n, r) =>
      let x := s.takeIn v n r b
      let y := x.1.admitLoop v k (b + 1)
      (y.1, x.2 :: y.2)

/-- Has a partition FABRIC entries (R405)? -/
def State.hasFabric (s : State) (n : Nat) : Bool := s.ctg.fabrics.any fun r => decide (r.part = n)

/-- Does a partition run leaf programs as far as faults, swaps and its domain decide (R319, R405, R448, R449)? -/
def State.partRuns (s : State) (n : Nat) : Bool :=
  !s.fatalPart n && decide (n ∉ s.ig.partFatal) && decide (n ∉ s.cat.stopped) && !s.ig.moduleFatal && !s.ig.fatalNow
    && (!s.hasFabric n || s.fb.lockedTick)

/-- Does a service take requests in at the coming boundary: all its ticks are working ticks (R510)? -/
def State.mayAdmit (s : State) (v : ServiceRec) : Bool :=
  s.partRuns v.part && (List.range v.stages).all fun i => !s.idleTick ((s.nextTick + i) % s.tickWrap)

/-- Entries that admission does not fill: VALID 0, the rest free (R343). -/
def State.emptyEntries (s : State) (k : Nat) : List Byte :=
  (List.range k).foldl (fun a i =>
    let d := (s.draw (32 * i)).freeBytes 32
    a ++ (match d with | b :: r => (b &&& 0xFE) :: r | [] => [])) []

/-- Address of a service's cohort table in cluster l, for cohort n (R343). -/
def tableAddr (v : ServiceRec) (l n : Nat) : Nat := clMem l + v.batchAddr + n % v.stages * v.batch * 32

/-- Is the memory of a cluster powered (R137, R500)? -/
def State.powered (s : State) (l : Nat) : Bool := s.clAvailable l && decide (s.fld (clStatusPstateNow l) < 2)

/-- The cohort table of the coming boundary is written in every cluster of the partition (R343). -/
def State.writeTables (s : State) (v : ServiceRec) (d : List Byte) : State :=
  ((s.ctg.clustersOf v.part).filter fun l => s.powered l).foldl (fun s l =>
    s.storeMem (tableAddr v l s.nextTick) d (allBits d.length false)) s

/-- Admission of one service (R354). -/
def State.admitService (s : State) (v : ServiceRec) : State :=
  let x := if s.mayAdmit v then s.admitLoop v v.batch 0 else (s, [])
  let rest := v.batch - x.2.length
  let d := x.2.foldl (fun a e => a ++ e) []
  let s := x.1.writeTables v (d ++ x.1.emptyEntries rest)
  s.draw (32 * rest)

/-- Admission: VALID services in ascending number (R354). -/
def State.admission (s : State) : State :=
  (sortBy ServiceRec.service (s.ctg.services.filter fun v => v.valid)).foldl State.admitService s

end Sys2Proof.Machine
end

