-- ==== Sys2Proof/Machine/CoreAlu.lean ====
section
/-! DEFINITION. Scalar, branch and vector instructions of a core, and the seals (R100, R102, R109, R111, R437 to R439, R573). The
instruction set is not reproduced in the spec: log entry 14 lists the operations taken. -/
namespace Sys2Proof.Machine
open Sys2Proof

/-- A shift by a register's value; 64 or more places is a free value (R100; log entry 9). -/
def shiftVal (tag : Nat) (f : W64 → Nat → W64) (a b : W64) : W64 :=
  if b.toNat < 64 then f a b.toNat else Config.wideShift tag a b

/-- A truth value as a register. -/
def boolVal (b : Bool) : W64 := if b then 1 else 0

/-- Scalar operations: integers wrap modulo 2^64; compares are signed and unsigned over 64 bits (R100). -/
def scalarVal (op : ScalarOp) (a b : W64) : W64 :=
  match op with
  | .add => a + b
  | .sub => a - b
  | .mul => a * b
  | .and => a &&& b
  | .or => a ||| b
  | .xor => a ^^^ b
  | .shl => shiftVal 0 (fun x n => x <<< n) a b
  | .shr => shiftVal 1 (fun x n => x >>> n) a b
  | .sar => shiftVal 2 (fun x n => x.sshiftRight n) a b
  | .eq => boolVal (decide (a = b))
  | .ne => boolVal (decide (a ≠ b))
  | .lt => boolVal (a.slt b)
  | .ltu => boolVal (a.ult b)
  | .ge => boolVal (!a.slt b)
  | .geu => boolVal (!a.ult b)

/-- SCALAR_ARITHMETIC: the result carries the poison of its operands (R109). -/
def execScalarArithmetic (c : CoreId) (op : ScalarOp) (rd ra : GReg) (b : Src) (s : State) : Host.Outcome State Fault Refusal :=
  .next (s.issue c fun s =>
    let y := s.srcVal c b
    s.setGpr c rd (scalarVal op (s.gpr c ra) y.1) (s.gprP c ra || y.2))

/-- Set the address of the next instruction, in instructions. -/
def State.goTo (s : State) (c target : Nat) : State := s.modCore c fun k => { k with ia := target }

/-- BRANCH: branch, jump and call; a poisoned condition or target register sets the latch and falls through (R111). -/
def execBranch (c : CoreId) (op : BranchOp) (s : State) : Host.Outcome State Fault Refusal :=
  .next (s.issue c fun s =>
    let next := BitVec.ofNat 64 (s.cs c).ia
    match op with
    | .cond p a b t =>
      if s.gprP c a || s.gprP c b then s.setLatch c
      else if scalarVal p (s.gpr c a) (s.gpr c b) = 0 then s else s.goTo c t
    | .jump t => s.goTo c t
    | .jumpReg r => if s.gprP c r then s.setLatch c else s.goTo c (s.gpr c r).toNat
    | .call link t => (s.setGpr c link next false).goTo c t
    | .callReg link r =>
      if s.gprP c r then s.setLatch c else (s.setGpr c link next false).goTo c (s.gpr c r).toNat)

/-- Width of a lane type. -/
def laneBits : Lane → Nat
  | .i8 => 8
  | .i16 | .bf16 => 16
  | .i32 | .f32 => 32

/-- Lanes of a vector register (R98). -/
def laneCount (t : Lane) : Nat := 256 / laneBits t

/-- Pattern of lane j. -/
def laneAt (t : Lane) (v : Vec256) (j : Nat) : Nat := bitsOf v.toNat (laneBits t * j) (laneBits t)

/-- A vector register from lane patterns. -/
def packLanes (t : Lane) (l : List Nat) : Vec256 :=
  BitVec.ofNat 256 (l.foldr (fun x acc => x % 2 ^ laneBits t + 2 ^ laneBits t * acc) 0)

/-- Format of a floating-point lane. -/
def laneFmt : Lane → FpFmt
  | .bf16 => fmtBf16
  | _ => fmtF32

/-- Is the lane type floating-point? -/
def laneIsFp : Lane → Bool
  | .bf16 | .f32 => true
  | _ => false

/-- An exact integer result put into a lane: wrapped, or clamped with the SAT event (R102). -/
def laneInt (t : Lane) (sat : Bool) (x : Int) : Nat × Bool :=
  let w := laneBits t
  if sat then (pattern w (satSigned w x), decide (satSigned w x ≠ x)) else (pattern w x, false)

/-- One lane of a vector operation over lane patterns d, a, b (R102). -/
def laneOp (op : VecOp) (t : Lane) (sat : Bool) (d a b : Nat) : Nat × Bool :=
  if laneIsFp t then
    let f := laneFmt t
    let x := fpOf f a
    let y := fpOf f b
    let r := match op with
      | .sub => fpAdd x (fpNeg y)
      | .mul => fpMul x y
      | .max => fpMax x y
      | .min => fpMin x y
      | .mac =>
        let p := fpMul x y
        fpAdd (fpOf f d) (if Config.macFused then p else fpOf f (fpTo f false p))
      | _ => fpAdd x y
    (fpTo f false r, false)
  else
    let w := laneBits t
    let x := signed w a
    let y := signed w b
    laneInt t sat (match op with
      | .sub => x - y
      | .mul => x * y
      | .max => if x < y then y else x
      | .min => if y < x then y else x
      | .mac => signed w d + x * y
      | _ => x + y)

/-- Conversion of one lane (R102); a floating-point value with no integer in range is a free value (log entry 10). -/
def laneCvt (src dst : Lane) (sat : Bool) (a : Nat) : Nat × Bool :=
  if laneIsFp src then
    let v := fpOf (laneFmt src) a
    if laneIsFp dst then (fpTo (laneFmt dst) false v, false)
    else
      let w := laneBits dst
      match v with
      | .fin neg m e =>
        let x := fpToInt neg m e
        if satSigned w x = x then (pattern w x, false)
        else if sat then (pattern w (satSigned w x), true)
        else ((Config.cvtInvalid w (round32 v)).toNat % 2 ^ w, false)
      | _ => ((Config.cvtInvalid w (round32 v)).toNat % 2 ^ w, false)
  else
    let x := signed (laneBits src) a
    if laneIsFp dst then (fpTo (laneFmt dst) false (fpInt x), false) else laneInt dst sat x

/-- Reduction of the lanes of a register to one lane (R102); the order of floating-point additions is free (log entry 10). -/
def laneReduce (op : VecOp) (t : Lane) (sat : Bool) (v : Vec256) : Nat × Bool :=
  let l := (List.range (laneCount t)).map (laneAt t v)
  if laneIsFp t then
    let f := laneFmt t
    match op with
    | .redMax => (fpTo f false ((l.map (fpOf f)).foldl fpMax (.inf true)), false)
    | _ => (fpTo f false (fpOf f ((Config.fpReduce (laneBits t) v).toNat % 2 ^ laneBits t)), false)
  else
    let w := laneBits t
    match op with
    | .redMax => laneInt t sat ((l.map (signed w)).foldl (fun a x => if a < x then x else a) (-(2 ^ (w - 1) : Nat)))
    | _ => laneInt t sat (sumInt (l.map (signed w)))

/-- The result of a vector operation and whether a saturating lane clamped; it depends on the operands alone (R7). DESIGN CHOICE (log entry 10): a
conversion that changes the lane width takes lanes 0 to n − 1 of its source, n the smaller lane count, to lanes 0 to n − 1 of its destination, and a
reduction's result stands in lane 0; every other lane of the destination is zero. -/
def vectorVal (op : VecOp) (t : Lane) (sat : Bool) (d a b : Vec256) : Vec256 × Bool :=
  match op with
  | .cvt dst =>
    let r := (List.range (Nat.min (laneCount t) (laneCount dst))).map fun j => laneCvt t dst sat (laneAt t a j)
    (packLanes dst (r.map Prod.fst), r.any Prod.snd)
  | .redSum | .redMax =>
    let r := laneReduce op t sat a
    (packLanes t [r.1], r.2)
  | _ =>
    let r := (List.range (laneCount t)).map fun j => laneOp op t sat (laneAt t d j) (laneAt t a j) (laneAt t b j)
    (packLanes t (r.map Prod.fst), r.any Prod.snd)

/-- Does the operation read its second source, and its destination? -/
def vecReads : VecOp → Bool × Bool
  | .cvt _ | .redSum | .redMax => (false, false)
  | .mac => (true, true)
  | _ => (true, false)

/-- VECTOR_ARITHMETIC: a lane operation, with wrap or saturation, which sets SAT (R102). -/
def execVectorArithmetic (c : CoreId) (op : VecOp) (lane : Lane) (sat : Bool) (vd va vb : VReg) (s : State) :
    Host.Outcome State Fault Refusal :=
  .next (s.issue c fun s =>
    let r := vectorVal op lane sat (s.vr c vd) (s.vr c va) (s.vr c vb)
    let rd := vecReads op
    let p := s.vrP c va || (rd.1 && s.vrP c vb) || (rd.2 && s.vrP c vd)
    let s := s.setVr c vd r.1 p
    if r.2 then s.setSat c else s)

/-- The modulus p of the seals (R437). -/
def sealP : Nat := 2 ^ 61 - 1

/-- The 32 bytes of the domain secret in IN_SEAL_SECRET (R438). -/
def State.secretBytes (s : State) : List Byte :=
  (List.range 4).foldl (fun l w => l ++ leBytes 8 (s.reg (inSealSecretReg w)).toNat) []

/-- The key of tick n (R438): 1 + V mod (p − 1), V the first eight bytes of SHA-384 over the secret and n. -/
def State.sealKey (s : State) (n : Nat) : Nat :=
  let k := if decide (2 ≤ s.fld ctSyncModeMode) then n % 2 ^ 32 else n
  1 + (Config.sha384 (s.secretBytes ++ leBytes 8 k)).toNat % 2 ^ 64 % (sealP - 1)

/-- The key of a ticks ago among those the module keeps (R438). -/
def State.keyAgo (s : State) (a : Nat) : Nat := s.ig.keys.getD a (s.sealKey (s.tick - a))

/-- r(x) of R437. -/
def sealResidue (x : Int) : Nat := (x % (sealP : Int)).toNat

/-- The running seal and power over eight INT32 lanes (R439). -/
def vsealVal (k gs gp : Nat) (v : Vec256) : Nat × Nat :=
  (List.range 8).foldl (fun st j =>
    let p := st.2 * k % sealP
    ((st.1 + sealResidue (signed 32 (laneAt .i32 v j)) * p) % sealP, p)) (gs, gp)

/-- VSEAL: accumulate a seal over eight INT32 lanes with the key of a recent tick. -/
def execVseal (c : CoreId) (gs gp : GReg) (vx : VReg) (a : BitVec 2) (s : State) : Host.Outcome State Fault Refusal :=
  .next (s.issue c fun s =>
    let r := vsealVal (s.keyAgo a.toNat) (s.gpr c gs).toNat (s.gpr c gp).toNat (s.vr c vx)
    let p := s.vrP c vx || s.gprP c gp || s.gprP c gs
    let s := s.setGpr c gs (BitVec.ofNat 64 r.1) p
    let s := s.setGpr c gp (BitVec.ofNat 64 r.2) p
    s.modCore c fun k => { k with ktick := (s.tick - a.toNat) % 65536 })

/-- SADDM: add two seals modulo p. -/
def execSaddm (c : CoreId) (gd ga gb : GReg) (s : State) : Host.Outcome State Fault Refusal :=
  .next (s.issue c fun s =>
    s.setGpr c gd (BitVec.ofNat 64 (((s.gpr c ga).toNat + (s.gpr c gb).toNat) % sealP)) (s.gprP c ga || s.gprP c gb))

/-- SCHK: compare seals; a mismatch sets the latch and posts SEAL_MISMATCH against the job, naming a module (R439). KTICK is the
tick of the key that the core's latest VSEAL used (log entry 15). -/
def execSchk (c : CoreId) (gd ga gb gm : GReg) (s : State) : Host.Outcome State Fault Refusal :=
  .next (s.issue c fun s =>
    let same := decide (s.gpr c ga = s.gpr c gb)
    let p := s.gprP c ga || s.gprP c gb || s.gprP c gm
    let m := bitsOf (s.gpr c gm).toNat 0 12
    let s := s.setGpr c gd (boolVal same) p
    if same || p then s
    else
      let s := ((s.setLatch c).setFld inSealStatLastModule m).incSat inSealStatMismatches 1
      s.post (recCluster s (c.val / 32) 3 7 0 (s.cs c).job.toNat (m * 2 ^ 52 + (s.cs c).ktick)))

end Sys2Proof.Machine
end

