-- ==== Sys2Proof/Machine/Guard.lean ====
section
/-! DEFINITION. The guard band: what is stopped and abandoned at L − 1,000 ns, output-region marking, admission, commits, announced actions
(R96, R122, R126, R175, R199, R237, R264, R279, R283, R325, R382, R448, R449, R452, R463, R512). Log entries 73 to 78. -/
namespace Sys2Proof.Machine
open Sys2Proof

/-! L − 1,000 ns: stops (R126, R175, R199). -/

/-- Transfers whose last word has not been reported land now: every window ends by L − 1,000 ns (R299; log entry 77). -/
def State.landAll (s : State) : State :=
  let l := s.cl.xfers
  l.foldl (fun s x => match s.slotRec x.entry with
    | some r => if x.lands then s.landXfer r x else s
    | none => s) { s with cl := { s.cl with xfers := [] } }

/-- The logical crossbars with an arbitration that has not handed over, ascending. -/
def State.openArbs (s : State) : List Nat := sortBy id ((s.cl.xe.map fun e => e.2.arb).foldl (fun a l => a ++ l) [])

/-- Is a product of a crossbar kept from release by the policy HOLD (R434)? -/
def State.holds (s : State) (x : Nat) : Bool :=
  let r := s.xrun x
  r.held.isSome || (match r.conv with | some p => p.hold | none => false)

/-- An arbitration is abandoned (R199): counted, recorded, its crossbar to be recalibrated. -/
def State.abandonArb (s : State) (x : Nat) : State :=
  match (s.xrun x).dispute with
  | none => s.modXe (xbCluster x) fun e => { e with arb := e.arb.erase x }
  | some d => (s.incSat (xeArbStatAbandoned (xbCluster x)) 1).endArb x d 7 0 0 true

/-- Every arbitration still running is abandoned; what ARB_BUF holds is of no further use. -/
def State.abandonArbs (s : State) : State :=
  let s := s.openArbs.foldl State.abandonArb s
  { s with cl := { s.cl with arbData := [] } }

/-- Has the core begun work in the tick that neither TEND nor WAIT has closed (R126, R573)? -/
def CoreSt.unfinished (k : CoreSt) : Bool :=
  match k.run with
  | .executing | .waiting _ | .imageEnd | .stopped => true
  | _ => false

/-- Jobs of a core whose products have not released (R96). -/
def State.productJobs (s : State) (c : Nat) : List Nat :=
  ((List.range 16).foldl (fun a j =>
    let r := s.xrun (coreXb c j)
    a ++ (r.conv.toList ++ r.queued.toList ++ r.stalled.toList ++ r.out.toList ++ r.held.toList).map Product.job) []).eraseDups

/-- What runs on a core's crossbars at L − 1,000 ns: a product still converting is cut, every result discarded (R96). -/
def State.cutProducts (s : State) (c : Nat) : State :=
  ((List.range 16).foldl (fun s j =>
    match (s.xrun (coreXb c j)).conv with
    | some p => s.cutProduct (coreXb c j) p
    | none => s) s).dropProducts c

/-- The sequencer stops a core that has not completed TEND (R96, R126): the overrun of its job, and of another job whose product is
discarded. `grouped`: the overrun is the consequence of an abandoned arbitration (R199, R445). -/
def State.stopCore (s : State) (c : Nat) (grouped : Bool) : State :=
  let j := (s.cs c).job.toNat
  let jobs := (s.productJobs c).filter fun i => decide (i ≠ j)
  let s := s.overrunJob c 3 j (!grouped)
  let s := jobs.foldl (fun s i => if i ∈ (s.cs c).ovrJobs then s else s.overrunJob c 3 i (!grouped)) s
  (s.cutProducts c).modCore c fun k => { k with run := .stopped }

/-- Every unfinished core is stopped, in ascending number; `grouped` lists those held up by an abandoned arbitration. -/
def State.stopCores (s : State) (grouped : List Nat) : State :=
  ((s.core.st.map Prod.fst).filter fun c => (s.cs c).unfinished).foldl (fun s c => s.stopCore c (decide (c ∈ grouped))) s

/-- D regions of an abandoned job are marked poisoned (R175). -/
def State.poisonDest (s : State) (l : Nat) (j : XeJob) : State :=
  let d := descOf j.words
  if d.kind = 1 then (List.range d.segCount).foldl (fun s i => s.poisonRows l d (s.segment l d i)) s
  else (s.jobRows l d).foldl (fun s e => s.poison (clMem l + e.1) e.2) s

/-- A cluster's engine abandons what it has not completed (R175). -/
def State.abandonJobs (s : State) (l : Nat) : State :=
  let jobs := (s.xe l).running.toList ++ (s.xe l).queue
  let s := jobs.foldl (fun s j => s.post (recCluster s l 3 1 0 j.job 7)) s
  let s := s.incSat (xeJobsAbandoned l) jobs.length
  let s := jobs.foldl (fun s j => s.poisonDest l j) s
  (s.modXe l fun e => { e with queue := [], running := none }).showXe l

/-- Every engine with jobs left. -/
def State.abandonAll (s : State) : State :=
  ((s.cl.xe.filter fun e => e.2.running.isSome || !e.2.queue.isEmpty).map Prod.fst).foldl State.abandonJobs s

/-- Queue pushes of cores that L − 1,000 ns stops are cut short (R126, R158). -/
def State.cutPushes (s : State) : State :=
  (s.cl.queue.map Prod.fst).foldl (fun s k => match (s.queue (k / 512) (k % 512)).arriving with
    | some a => if a.push && (s.cs a.core).unfinished then s.abortArrival (k / 512) (k % 512) else s
    | none => s) s

/-! L − 1,000 to L − 800 ns: marking (R122, R126). -/

/-- Is an output region marked: of a stopped core and a job it entered, or of a failed core? -/
def State.marksRegion (s : State) (l : Nat) (r : OutRegion) : Bool :=
  let k := s.cs (32 * l + r.core)
  (decide (k.run = .stopped) && decide (r.job ∈ k.entered)) || decide (k.run = .failed)

/-- Mark the declared output regions of stopped and failed cores. -/
def State.markRegions (s : State) : State :=
  s.ctg.leaves.foldl (fun s b =>
    if s.clAvailable b.cluster then
      b.regions.foldl (fun s r => if s.marksRegion b.cluster r then s.poison (clMem b.cluster + r.addr) r.len else s) s
    else s) s

/-! What a FATAL record ends (R448, R449). -/

/-- A stream request of a FATAL partition ends POISONED; its decode slot becomes CLOSING only at the boundary (R448). -/
def State.endKeepSlot (s : State) (n : Nat) : State :=
  match s.rq n with
  | none => s
  | some r => ((s.setRq n { r with dslot := none }).endNow n 3 0).modRq n fun x => { x with dslot := r.dslot }

/-- The staging requests of volumes and adapter slots that satisfy a test end VOLUME_UNAVAILABLE. -/
def State.endStaging (s : State) (f : Nat → Bool) : State :=
  let s := ((s.sh.vol.filter fun e => f e.2.part).map Prod.fst).foldl (fun s h => (s.endStager h 5 0).endWatch h 5 0) s
  ((s.sh.aslot.filter fun e => f e.2.part && e.2.stager.isSome).map Prod.fst).foldl (fun s a =>
    (s.modAslot a fun x => { x with stager := none }).doneOpt (s.aslot a).stager 5 0 0 0 0) s

/-- The requests of a partition that has taken PARTITION_FATAL end (R359, R448). -/
def State.endPartition (s : State) (n : Nat) : State :=
  let s := (s.liveReqs fun r => decide (r.part = n)).foldl State.endKeepSlot s
  let s := s.endStaging fun p => decide (p = n)
  if s.cat.stager.isSome ∧ s.fld ctCatStatePpart = n then
    ({ s with cat := { s.cat with stager := none } }).doneOpt s.cat.stager 5 0 0 0 0
  else s

/-- A descriptor still in a port's store ends with the module (R449). -/
def State.endDesc (s : State) (p : Nat) (d : Desc) : State :=
  if d.kind = 1 then
    s.writeCpl p d.ring { kind := 2, status := 3, flags := 0, req := d.req, units := 0, reason := 0, payload := [], user := d.user, irq := d.irq }
  else if 8 ≤ d.kind then
    s.doneReq { port := p, ring := d.ring, req := d.req, user := d.user, irq := d.irq } 5 0 0 0 0
  else s

/-- Every request ends, and every exit announced is dropped for the unplanned one (R449). -/
def State.endModule (s : State) : State :=
  let s := (s.liveReqs fun _ => true).foldl (fun s n => s.endNow n 3 0) s
  let s := s.endStaging fun _ => true
  let s := ({ s with cat := { s.cat with stager := none } }).doneOpt s.cat.stager 5 0 0 0 0
  let s := (List.range 4).foldl (fun s p =>
    let l := (s.hport p).store
    l.foldl (fun s d => s.endDesc p d) (s.modHport p fun h => { h with store := [] })) s
  let s := { s with
    cat := { s.cat with domain := s.cat.domain.filter fun a => decide (a.action ≠ 3) }
    fb := { s.fb with exitAt := match s.fb.exitAt with | some (b, 0) => (if s.tickReached b then some (b, 0) else none) | e => e } }
  s.showLists.unplannedExit 1

/-- The ends that FATAL records of the tick call for (R359, R448, R449). -/
def State.fatalEnds (s : State) : State :=
  let s := s.ig.partFatal.foldl State.endPartition s
  if s.ig.fatalNow && !s.ig.moduleFatal then s.endModule else s

/-! Commits and announced actions (R283). -/

/-- Does a cluster come back to P0 at a boundary at which `now` is n (R137, R501, R518)? -/
def State.wakesAt (s : State) (l n : Nat) : Bool :=
  let st := s.fld (clStatusPstateNow l)
  let since := (tabFind s.pw.wake l).getD 0
  decide (s.fld (clPstateMode l) = 0) && s.clAvailable l &&
    match st with
    | 0 => false
    | 1 => true
    | 2 => decide (since + 20000 ≤ n)
    | _ => decide (since + 300000 ≤ n)

/-- Trims of a cluster that comes back from P2 or P3 are computed before the boundary of exit (R463, R503). -/
def State.wakeTrims (s : State) : State :=
  ((List.range 128).filter fun l => decide (2 ≤ s.fld (clStatusPstateNow l)) && s.wakesAt l (s.now + (s.tickNs - s.t))).foldl (fun s l =>
    s.recomputeCluster (s.physCluster l)) s

/-- The guard band takes FAST up: its pattern counts from the coming boundary (R512). One set later waits for the next guard band. -/
def State.takeFast (s : State) : State :=
  if s.pw.fastPend then { s with pw := { s.pw with fastFrom := some s.nextTick, fastClear := false } } else s

/-- The exit of a fast throttle that has been taken up, and the module's own EXIT entries whose target is the next tick (R410, R512). -/
def State.exits (s : State) : State :=
  let own := s.cat.domain.any fun a => decide (a.action = 3) && !a.remote && s.tickDue a.tgt
  let s := if own && !s.ig.fatalNow then s.plannedExit else s
  if s.pw.fastPend then
    let s := if s.ig.fatalNow then s else s.plannedExit
    { s with pw := { s.pw with fastPend := false } }
  else s

/-- Notifications that wait for the guard band, and the vectors of rings written without IRQ (R325, R452). -/
def State.vectors (s : State) : State :=
  let s := (sortBy id s.ig.notify).foldl (fun s p => s.fireMsix p 0) s
  let s := { s with ig := { s.ig with notify := [] } }
  ((s.sv.ring.filter fun e => e.2.wrote).map Prod.fst).foldl (fun s k =>
    (s.modRing (k / 256) (k % 256) fun r => { r with wrote := false }).fireMsix (k / 256) (s.ringVector (k / 256) (k % 256))) s

/-- The stops of L − 1,000 ns and what they leave undone. -/
def State.guardStops (s : State) : State :=
  let s := (s.advance (s.tickNs - 1000)).landAll
  let held := (s.openArbs.filter s.holds).map xbCore
  let s := (s.abandonArbs.cutPushes.stopCores held).abandonAll
  s.markRegions.untakenWrites.closeFabricSlots

/-- Settlement, refill, the requests that end, admission, evictions. -/
def State.guardAdmission (s : State) : State := s.fatalEnds.settle.refill.finals.admission.evictions

/-- Commits for the next tick, then announced actions. -/
def State.guardCommits (s : State) : State :=
  let s := s.commitSections.commitChanges.wakeTrims.transferTrims.decideFreq
  let s := s.swapDecide.exits.fatalEnds.settle
  { s with ig := { s.ig with nextKey := s.sealKey s.nextTick } }

/-- The guard band of a tick, its rows in order (R283); once in a tick. What comes after it comes after L − 250 ns. -/
def State.guardBand (s : State) : State :=
  if s.guarded ∨ !s.dieRuns then s
  else { s.takeFast.performRequests.guardStops.guardAdmission.guardCommits.vectors.advance (s.tickNs - 250) with guarded := true }

/-- GUARD_BAND. -/
def execGuardBand (s : State) : Host.Outcome State Fault Refusal := .next s.guardBand

end Sys2Proof.Machine
end

