-- ==== Sys2Proof/Machine/Boundary.lean ====
section
/-! DEFINITION. The tick boundary: what ends with the old tick, what comes into force, which clusters change their power state and which cores
begin (R114, R119, R122, R137, R148, R171, R214, R221, R283 to R285, R314, R318, R343, R405, R438, R446, R448, R449, R496, R501 to R504, R509,
R518). Log entries 47, 70, 77 to 80. -/
namespace Sys2Proof.Machine
open Sys2Proof

/-! The tick that ends. -/

/-- Did a core run its image in the tick that ends? -/
def CoreSt.ran (k : CoreSt) : Bool :=
  match k.run with
  | .off | .failed => false
  | .parked => k.waited
  | _ => true

/-- Cores of a cluster. -/
def coresOf (l : Nat) : List Nat := (List.range 32).map fun i => 32 * l + i

/-- CL_SLACK, CL_OVERRUN and OVERRUN of CL_STATUS of a cluster after a completed tick (R138). -/
def State.closeCluster (s : State) (l : Nat) : State :=
  let ks := (coresOf l).map s.cs
  let ovr := ks.any fun k => !k.ovrJobs.isEmpty
  let s := s.setFlag (clStatusOverrun l) ovr
  let s := (s.cl.overruns.reverse.filter fun e => decide (e.1 / 32 = l)).foldl (fun s e => s.showOverrun e.1 e.2.1 e.2.2) s
  if ks.any CoreSt.ran then
    let last := if ovr then 0 else ks.foldl (fun a k => match k.slack with | some x => Nat.min a x | none => a) 0xFFFFFFFF
    (s.setFld (clSlackLast l) last).setFld (clSlackLow l) (Nat.min (s.fld (clSlackLow l)) last)
  else s

/-- Is a register a token counter of a logical cluster? -/
def isToken (o : Nat) : Bool :=
  decide (0x1000000 ≤ o) && decide (o < 0x1800000) && decide (0x400 ≤ o % 0x10000) && decide (o % 0x10000 < 0xC00)

/-- Token counters and job queues clear (R119, R171); what the tick opened is closed. -/
def State.clearTick (s : State) : State :=
  { s with
    regs := s.regs.filter fun e => !isToken e.1
    cl := { s.cl with opened := [], charged := [], xfers := [], overruns := [] } }

/-! Requests, decode slots, frames (R214, R221, R264, R266, R343, R357, R358). -/

/-- VALID of an ended request's entry is cleared in every cluster, while its cohort's table is in use (R343). -/
def State.clearEntry (s : State) (r : Request) : State :=
  match r.step, s.serviceOf r.svc with
  | some st, some v =>
    if s.tickReached st.ends then s
    else ((s.ctg.clustersOf v.part).filter s.powered).foldl (fun s l =>
      let a := tableAddr v l st.cohort + 32 * st.batch
      s.storeMem a [s.byte a &&& 0xFE] [s.poisoned a]) s
  | _, _ => s

/-- An ended request leaves the request table: its loans return (R264, R266). A decode slot that its engine's failure has stopped is
held no more. -/
def State.freeRequest (s : State) (n : Nat) (r : Request) : State :=
  let s := s.clearEntry r
  let s := match r.vol with
    | some h => s.modVol h fun v => { v with loans := v.loans - 1, returned := s.tick }
    | none => s
  let s := match r.aslot with
    | some a => s.modAslot a fun x => { x with loans := x.loans - 1 }
    | none => s
  let s := match r.dslot with
    | some d => if s.fld (seSlotStatState (d / 256) (d % 256)) = slotStopped then s.decFld (tnStatActive r.tenant) 1 else s
    | none => s
  { s with sv := { s.sv with req := tabErase s.sv.req n } }

/-- One request at the boundary: freed when it ended in the tick `old`; closed now when its end counts as of this tick (R357); otherwise
its consumed buffer is free and a deadline reached stops delivery (R344, R358). -/
def State.requestBoundary (s : State) (old n : Nat) (r : Request) : State :=
  match r.ended with
  | some t =>
    if t = old then s.freeRequest n r
    else
      let s := s.setRq n { r with ended := some s.tick }
      match r.dslot with
      | some d => s.closeSlot (d / 256) (d % 256)
      | none => s
  | none =>
    let late := match r.deadline with | some d => s.tickReached d | none => false
    s.setRq n { r with oldBuf := none, muted := r.muted || late }

/-- Slots of an engine leave CLOSING, in ascending number (R214, R221). -/
def State.freeClosing (s : State) (i : Nat) : State :=
  let l := (List.range 256).filter fun k => decide (s.fld (seSlotStatState i k) = slotClosing)
  (l.foldl (fun s k => (s.decFld (tnStatActive (s.fld (seSlotStatTenant i k))) 1).freeSlot i k) s).showSlots i

/-- Decode slots and requests at the boundary; free lists of a changed frame range (R221, R230). -/
def State.servingBoundary (s : State) (old : Nat) : State :=
  let s := ((List.range 16).foldl State.freeClosing s).openSlots
  let s := (s.sv.req.map Prod.fst).foldl (fun s n => match s.rq n with
    | some r => s.requestBoundary old n r
    | none => s) s
  let s := s.se.rebuild.foldl (fun s n => match s.streamOf n with | some r => s.loadFrames r | none => s) s
  { s with se := { s.se with rebuild := [] } }

/-! Queues (R148, R159). -/

/-- Cells of a cluster whose packets have been popped join the tail of the free list in ascending index (R148). -/
def State.joinFree (s : State) (l : Nat) : State :=
  let s := (((s.cl.queue.map Prod.fst).filter fun k => decide (k / 512 = l)).map (· % 512)).foldl (fun s q => s.returnCells l q) s
  let p := s.pool l
  let s := if p.freed.isEmpty then s else s.modPool l fun p => { p with free := p.free ++ sortBy id p.freed, freed := [] }
  let s := s.showPool l
  s.setFld (qmPoolFreeLow l) (Nat.min (s.fld (qmPoolFreeLow l)) (s.pool l).free.length)

/-- Clusters that have a queue manager configured. -/
def State.pooled (s : State) : List Nat := s.ctg.clusters.map ClusterRec.cluster

/-- A GAP that waits for its queue is posted once the queue is in use in P0 (R159). -/
def State.postGaps (s : State) : State :=
  (s.cl.queue.map Prod.fst).foldl (fun s k =>
    let l := k / 512
    let q := k % 512
    if (s.queue l q).gapWaits && s.flag (qmQcfgEn l q) && s.clRuns l then s.flushGapFirst l q else s) s

/-- The smallest number of free frames at a boundary (SE_KV_PAGES). -/
def State.lowFrames (s : State) : State :=
  (List.range 16).foldl (fun s i => s.parts.foldl (fun s n =>
    s.setFld (seKvPagesLow i n) (Nat.min (s.fld (seKvPagesLow i n)) (s.freeFrames i n).length)) s) s

/-! Partitions (R448). -/

/-- The queues of a partition are emptied, with one NOTE record (R159, R448). -/
def State.emptyPart (s : State) (n : Nat) : State :=
  let ls := s.ctg.clustersOf n
  let busy := ls.filter fun l => !(s.busyQueues l).isEmpty
  let s := ls.foldl (fun s l => (s.busyQueues l).foldl (fun s q => s.emptyQueue l q) s) s
  match busy with
  | [] => s
  | l :: _ => s.post { sev := 1, kind := 11, sub := 1, domain := 2, unit := unitCluster l, part := some n }

/-- A partition that took PARTITION_FATAL in the tick that ended stops (R448). -/
def State.stopPartition (s : State) (n : Nat) : State :=
  let s := (s.setFlag (inPartStateFatal n) true).setFld (inPartStateFatalTick n) s.tick20
  let s := (List.range 16).foldl (fun s i =>
    ((List.range 256).foldl (fun s k => if s.fld (seSlotStatPart i k) = n then s.closeSlot i k else s) s).showSlots i) s
  s.emptyPart n

/-- PARTITION_FATAL and RESUME take effect (R448). -/
def State.partBoundary (s : State) : State :=
  let fatal := sortBy id s.ig.partFatal
  let back := s.ig.resume.filter fun n => decide (n ∉ fatal)
  let s := fatal.foldl State.stopPartition s
  let s := back.foldl (fun s n => s.setFlag (inPartStateFatal n) false) s
  { s with ig := { s.ig with
    partFatal := []
    resume := []
    open_ := s.ig.open_.filter fun o => !s.tickReached ((o.tick + 2) % s.tickWrap) } }

/-! Idle ticks and clocks (R496, R509, R513). -/

/-- Announcements whose target has come leave the domain list; a THROTTLE is in force (R314, R509). -/
def State.domainBoundary (s : State) : State :=
  let due := s.cat.domain.filter fun a => s.tickReached a.tgt
  let s := match (due.filter fun a => decide (a.action = 2)).getLast? with
    | some a => { s with pw := { s.pw with throttle := some (a.tgt, a.arg) } }
    | none => s
  ({ s with cat := { s.cat with domain := s.cat.domain.filter fun a => !s.tickReached a.tgt } }).showLists

/-- Whether the tick that begins is idle (R509), and what PW_STATUS shows of it. -/
def State.idleBoundary (s : State) : State :=
  let s := if s.pw.fastClear then { s with pw := { s.pw with fastFrom := none, fastClear := false } } else s
  let b := s.idleTick s.tick
  let s := ({ s with idle := b }).setFld pwStatusIdleArg (s.idlePattern s.tick).1
  if b then s.incSat pwStatusIdleTicks 1 else s

/-! Power states (R137, R159, R501 to R504, R518). -/

/-- Is an address in a bank that a set of RETAIN bits keeps? Bit g keeps banks 4g to 4g + 3 of 128 KiB each (R139, CL_PSTATE). -/
def bankKept (kept off : Nat) : Bool := bitOf kept (off / 0x80000)

/-- Contents of cluster memory in banks that are not kept, of data scratch, instruction memory and staging buffers, are lost (R501; log
entry 79). -/
def State.loseMemory (s : State) (l kept : Nat) : State :=
  let base := clMem l
  let lost (a : Nat) : Bool := decide (base ≤ a) && decide (a < base + clMemSize) && !bankKept kept (a - base)
  { s with
    mem := { bytes := s.mem.bytes.filter fun e => !lost e.1
             poison := s.mem.poison.filter fun e => !lost (64 * e.1)
             check := s.mem.check.filter fun e => !lost (64 * e.1)
             upset := s.mem.upset.filter fun e => !lost (64 * e.1) }
    core := { s.core with
      scratch := s.core.scratch.filter fun e => decide (e.1 / 65536 / 32 ≠ l)
      scratchPoison := s.core.scratchPoison.filter fun e => decide (e.1 / 1024 / 32 ≠ l)
      scratchUpset := s.core.scratchUpset.filter fun e => decide (e.1 / 1024 / 32 ≠ l)
      imem := s.core.imem.filter fun e => decide (e.1 / 32768 / 32 ≠ l)
      ibuf := s.core.ibuf.filter fun e => decide (e.1 / 32768 / 32 ≠ l)
      imemUpset := s.core.imemUpset.filter fun e => decide (e.1 / 512 / 32 ≠ l) } }

/-- Recalibrations of a cluster's crossbars that are running are abandoned (R487): the crossbar may serve again, and is scheduled again. -/
def State.dropRecals (s : State) (l : Nat) : State :=
  let pc := s.physCluster l
  ((s.xb.phys.filter fun e => decide (e.1 / 612 = pc) && decide (e.2.st = .held) && e.2.recal).map Prod.fst).foldl (fun s n =>
    (s.modPhys n fun p => { p with recal := false, passed := true }).incSat caFailCountAbandoned 1) s

/-- A cluster enters P1, P2 or P3 (R137, R501). -/
def State.enterState (s : State) (l m : Nat) : State :=
  let was := s.fld (clStatusPstateNow l)
  let s := (s.setFld (clStatusPstateNow l) m).setFld (xeModeState l) 3
  if m = 1 then s
  else
    let retain := if m = 2 then s.fld (clPstateRetain l) else 0
    let kept := if was < 2 then retain else retain &&& tabGet 0 s.pw.kept l
    let s := ((s.emptyCluster l).loseMemory l kept).dropRecals l
    { s with pw := { s.pw with kept := tabSet 0 s.pw.kept l kept } }

/-- Has the core executed WAIT and not been woken since: parked, or stopped at L − 1,000 ns while its products or transfers were out (R129)? -/
def CoreSt.waits (k : CoreSt) : Bool := decide (k.run = .parked) || decide (k.run = .stopped) && k.waited

/-- Is the cluster's request entered at this boundary: all 32 cores have executed WAIT, after a working tick (R137, R504)? -/
def State.entersAt (s : State) (l : Nat) (worked : Bool) : Bool :=
  let m := s.fld (clPstateMode l)
  worked && decide (m ≠ 0) && decide (m ≠ s.fld (clStatusPstateNow l)) && s.clAvailable l
    && (coresOf l).all fun c => (s.cs c).waits

/-- The frequency a row has, or joins the active set at (R518). -/
def State.rowFreq (s : State) (d : Nat) : Nat :=
  match s.activeRows with
  | e :: _ => s.fld (pwDomainFreqCur e)
  | [] => s.fld (pwDomainFreqCur d)

/-- Images of a cluster that comes back: from the image area where all its banks were kept, else from the catalogue (R503). -/
def State.reloadImages (s : State) (l kept : Nat) : State :=
  match s.ctg.clusterRec l, s.leafOf l with
  | some k, some b =>
    if (List.range 8).all fun i => bankKept kept (k.imgAddr + 0x20000 * i) then
      (coresOf l).foldl State.copyImage s
    else s.loadImages k b
  | _, _ => s

/-- Section words of a cluster that comes back (R235, R503). -/
def State.rewriteWords (s : State) (l : Nat) : State :=
  (s.ctg.sections.filter fun r => decide (l ∈ r.clusters)).foldl (fun s r =>
    let x := s.sect r.sec
    match x.vol with
    | some h =>
      let v := s.vol h
      s.storeMem (clMem l + r.wordAddr) (leBytes 8 (sectionWord x.live x.retiring h v.version v.id)) (allBits 8 false)
    | none => s) s

/-- A cluster returns to P0 (R137, R501, R503): after P2 or P3 it is rebuilt first. -/
def State.wakeCluster (s : State) (l : Nat) : State :=
  let was := s.fld (clStatusPstateNow l)
  let d := l / 16
  let s := if s.rowActive d then s else s.setFld (pwDomainFreqCur d) (s.rowFreq d)
  let s := (s.setFld (clStatusPstateNow l) 0).setFld (xeModeState l) (if (s.xe l).failed then 3 else 0)
  let kept := tabGet 0 s.pw.kept l
  let s := { s with pw := { s.pw with wake := tabErase s.pw.wake l, kept := tabErase s.pw.kept l } }
  if was < 2 then s
  else
    let s := match s.ctg.clusterRec l with
      | some k =>
        let s := (s.setFld (qmPoolCfgBase l) k.poolBase).setFld (qmPoolCfgBanks l) k.poolBanks
        ((s.setFld (qmPoolCfgStageCells l) k.stageCells).loadQueues s.ctg l).buildPool l
      | none => s
    (s.reloadImages l kept).rewriteWords l

/-- Power states at the boundary: entries, then exits whose row has the voltage (R518). -/
def State.powerBoundary (s : State) (worked : Bool) : State :=
  let s := (List.range 128).foldl (fun s l => if s.entersAt l worked then s.enterState l (s.fld (clPstateMode l)) else s) s
  let s := (List.range 128).foldl (fun s l =>
    if s.wakesAt l s.now && (s.rowActive (l / 16) || s.voltOk (l / 16) (s.rowFreq (l / 16))) then s.wakeCluster l else s) s
  s.showFreq

/-! The catalogue comes into force; leaf programs begin (R114, R122, R287, R326). -/

/-- From the first boundary after boot step 13 the catalogue is IN_FORCE with its tick length, and ports are READY, signalled on vector 0 (R282, R287,
R326). -/
def State.inForce (s : State) : State :=
  if s.fld btBootStep = 14 ∧ s.fld ctCatStateState = 1 then
    let s := s.setReg ctTickLenReg (BitVec.ofNat 64 (s.ctg.floorMhz * 2 ^ 16 + s.ctg.tickUs))
    (List.range 4).foldl (fun s p =>
      if s.flag (btHostwinEn p) then (s.setFlag (hpStatusReady p) true).fireMsix p 0 else s) (s.setFld ctCatStateState 2)
  else s

/-- Does a logical cluster run its leaf program in the tick that begins (R114, R319, R405, R448, R449, R510)? -/
def State.clusterBegins (s : State) (l : Nat) : Bool :=
  !s.idle && decide (s.fld ctCatStateState = 2) && s.clRuns l && s.flag (clStatusLeafValid l)
    && match s.partOf l with
      | some n => s.partRuns n
      | none => false

/-- A core at T+0 (R111, R114, R122, R502): its job, flags and lists start anew; it begins at its entry address, or stays as it is. -/
def State.beginCore (s : State) (c : Nat) (go : Bool) : State :=
  let stays := decide (s.fld (clPstateMode (c / 32)) ≠ 0) || !s.inP0 (c / 32)
  s.modCore c fun k =>
    let run := if k.run = .failed then .failed
      else if k.waits && stays then .parked
      else if go then .executing else .off
    { k with
      run, job := 0, latch := false, sat := false, phase := 3, ia := k.imgEntry, entered := [], ovrJobs := [], posted := [],
      slack := none, waited := false }.onward

/-- Every core; registers start cleared and unpoisoned; failed cores' counters are signalled (R114, R122). -/
def State.beginCores (s : State) : State :=
  let s := { s with core := { s.core with gpr := [], gprPoison := [], vr := [], vrPoison := [] } }
  let s := (List.range 128).foldl (fun s l =>
    let go := s.clusterBegins l
    (coresOf l).foldl (fun s c => s.beginCore c go) s) s
  ((s.core.st.filter fun e => decide (e.2.run = .failed)).map Prod.fst).foldl State.signalFailed s

/-- The keys of the tick and of the three before it (R438). -/
def State.rollKeys (s : State) (old : Nat) : State :=
  let k := if s.tick = (old + 1) % s.tickWrap then s.ig.nextKey else s.sealKey s.tick
  { s with ig := { s.ig with keys := k :: s.ig.keys.take 3 } }

/-- The tick ends at T+L and the next begins. -/
def State.turnTick (s : State) : State :=
  let s := s.advance s.tickNs
  let s := (List.range 128).foldl State.closeCluster s
  { s.clearTick with tick := s.nextTick, t := 0 }

/-- MODULE_FATAL acts from the next boundary (R449). -/
def State.moduleStop (s : State) : State :=
  { s with ig := { s.ig with moduleFatal := s.ig.moduleFatal || s.ig.fatalNow, fatalNow := false } }

/-- The domain at the boundary, after what is local (R311): entries that take effect, synchronisation, what the opening boundary found (R405). -/
def State.domainStart (s : State) : State :=
  let s := (List.range 16).foldl State.showSe s
  let s := s.domainBoundary.syncBoundary
  { s with fb := { s.fb with lockedTick := s.flag ctSyncModeLocked && !s.flag ctSyncModeExited } }

/-- Fabric ports at the boundary (R393, R394, R422, R423, R561). -/
def State.fabricBoundary (s : State) : State :=
  let s := (List.range 8).foldl (fun s p => (s.portBoundary p).drainPort p) s.bridgeBoundary
  if s.fb.fabRefBack then { s with fb := { s.fb with fabRefLost := false, fabRefBack := false } } else s

/-- Everything committed comes into force (R283); a swap's configuration before RWT values that were written (R321). -/
def State.commitBoundary (s : State) (old : Nat) : State :=
  let s := s.servingBoundary old
  let s := s.pooled.foldl State.joinFree s
  let s := s.swapInForce
  let s := s.ig.partFatal.foldl State.swapDrop s
  s.applyRwt.shelverBoundary.showQuality.partBoundary

/-- The boundary instant T+L (R283): the guard band first, where it has not been performed. Nothing happens while the die does not run. -/
def State.tickBoundary (s : State) : State :=
  if !s.dieRuns then s
  else
    let worked := !s.idle
    let old := s.tick
    let s := ({ s.guardBand with guarded := false }).fatalEnds.settle
    let s := s.turnTick.moduleStop.commitBoundary old
    let s := s.domainStart
    let s := s.fabricBoundary.applyFreq.thermCapFall.idleBoundary
    let s := (s.powerBoundary worked).inForce
    let s := s.postGaps.lowFrames
    (s.rollKeys old).beginCores

/-- TICK_BOUNDARY. -/
def execTickBoundary (s : State) : Host.Outcome State Fault Refusal := .next s.tickBoundary

end Sys2Proof.Machine
end

