-- ==== Sys2Proof/Machine/CoreMemory.lean ====
section
/-! DEFINITION. Memory instructions of a core: LD, ST, CLD, CST, BLK, CTL, CTLW (R98, R99, R101, R109, R111, R112, R143, R145). -/
namespace Sys2Proof.Machine
open Sys2Proof

/-- LD: load from data scratch. -/
def execLd (c : CoreId) (dst : RegRef) (base : GReg) (off : W64) (agree : Bool) (s : State) : Host.Outcome State Fault Refusal :=
  .next (s.issue c fun s =>
    let n := regSize dst
    match s.checkAccess c (s.gprP c base) agree (effAddr (s.gpr c base) off) n 65536 with
    | .error s => s.loadPoisoned c dst
    | .ok a =>
      let s := s.scratchErrors c a n
      s.loadReg c dst (s.scratch c a n) (s.scratchP c a n))

/-- ST: store to data scratch; a poisoned register or the latch marks every word written (R109, R111). -/
def execSt (c : CoreId) (src : RegRef) (base : GReg) (off : W64) (agree : Bool) (s : State) : Host.Outcome State Fault Refusal :=
  .next (s.issue c fun s =>
    let n := regSize src
    match s.checkAccess c (s.gprP c base) agree (effAddr (s.gpr c base) off) n 65536 with
    | .error s => s
    | .ok a => s.storeScratch c a (s.regBytes c src) (allBits n (s.regP c src || (s.cs c).latch)))

/-- CLD: load from the cluster's memory. -/
def execCld (c : CoreId) (dst : RegRef) (base : GReg) (off : W64) (agree : Bool) (s : State) : Host.Outcome State Fault Refusal :=
  .next (s.issue c fun s =>
    let n := regSize dst
    let l := c.val / 32
    match s.checkAccess c (s.gprP c base) agree (effAddr (s.gpr c base) off) n clMemSize with
    | .error s => s.loadPoisoned c dst
    | .ok a =>
      let s := s.readErrors l (s.cs c).job.toNat a n
      s.loadReg c dst (s.bytes (clMem l + a) n) (s.anyPoison (clMem l + a) n))

/-- CST: store to the cluster's memory; a store aimed at the cell pool is refused (R145). -/
def execCst (c : CoreId) (src : RegRef) (base : GReg) (off : W64) (agree : Bool) (s : State) : Host.Outcome State Fault Refusal :=
  .next (s.issue c fun s =>
    let n := regSize src
    let l := c.val / 32
    match s.checkAccess c (s.gprP c base) agree (effAddr (s.gpr c base) off) n clMemSize with
    | .error s => s
    | .ok a =>
      if s.aimsPool l a n then s.refuseAccess c 5 a
      else s.storeMem (clMem l + a) (s.regBytes c src) (allBits n (s.regP c src || (s.cs c).latch)))

/-- The bytes of a block move and their poison bits, from cluster memory or data scratch. -/
def State.blkSource (s : State) (c : Nat) (dir : BlkDir) (a n : Nat) : List Byte × List Bool :=
  match dir with
  | .toScratch => (s.bytes (clMem (c / 32) + a) n, s.byteMarks (clMem (c / 32) + a) n)
  | .toCluster => (s.scratch c a n, s.scratchMarks c a n)

/-- BLK: block move between cluster memory and data scratch; both ends are checked (R99, R111, R145). -/
def execBlk (c : CoreId) (dir : BlkDir) (dst src : GReg) (len : Nat) (agree : Bool) (s : State) : Host.Outcome State Fault Refusal :=
  .next (s.issue c fun s =>
    let l := c.val / 32
    let a := (s.gpr c src).toNat
    let b := (s.gpr c dst).toNat
    let sizes := match dir with | .toScratch => (clMemSize, 65536) | .toCluster => (65536, clMemSize)
    if s.gprP c src || s.gprP c dst then s.setLatch c
    else if !agree then s.addrDisagree c a
    else if !inExtent a len sizes.1 then s.refuseAccess c 7 a
    else if !inExtent b len sizes.2 then s.refuseAccess c 7 b
    else if dir = .toCluster ∧ s.aimsPool l b len = true then s.refuseAccess c 5 b
    else
      let s := match dir with
        | .toScratch => s.readErrors l (s.cs c).job.toNat a len
        | .toCluster => s.scratchErrors c a len
      let d := s.blkSource c dir a len
      let bp := if (s.cs c).latch then allBits len true else d.2
      match dir with
      | .toScratch => s.storeScratch c b d.1 bp
      | .toCluster => s.storeMem (clMem l + b) d.1 bp)

/-- CTL: read a register of the cluster's own window. -/
def execCtl (c : CoreId) (rd base : GReg) (off : W64) (agree : Bool) (s : State) : Host.Outcome State Fault Refusal :=
  .next (s.issue c fun s =>
    match s.checkAccess c (s.gprP c base) agree (effAddr (s.gpr c base) off) 8 0x10000 with
    | .error s => s.loadPoisoned c (.g rd)
    | .ok a => s.setGpr c rd (s.ctlRead c a) false)

/-- CTLW: write a register of the cluster's own window; RWT fields take effect under R12. -/
def execCtlw (c : CoreId) (rs base : GReg) (off : W64) (agree : Bool) (s : State) : Host.Outcome State Fault Refusal :=
  .next (s.issue c fun s =>
    match s.checkAccess c (s.gprP c base) agree (effAddr (s.gpr c base) off) 8 0x10000 with
    | .error s => s
    | .ok a => if a % 8 = 0 then s.writeCluster (c.val / 32) (clBase (c.val / 32) + a) (s.gpr c rs) else s)

end Sys2Proof.Machine
end

