-- ==== Sys2Proof/Machine/Manage.lean ====
section
/-! DEFINITION. Management (R525, R528, R531 to R541): MCTP, Zwiaro vendor messages, PLDM, SPDM, debug tokens. A response is left in
`CustFile.resp`, its status first. Log entries 66 to 68. -/
namespace Sys2Proof.Machine
open Sys2Proof

/-- A response of the custodian. -/
def State.respond (s : State) (r : List Nat) : State := { s with cu := { s.cu with resp := r } }

/-! STATUS of a vendor message (R535). -/
def stOk : Nat := 0
def stLength : Nat := 2
def stSession : Nat := 3
def stToken : Nat := 4
def stDeferred : Nat := 6

/-- Does a message reach the custodian (R534)? Over SMBus while the standby supply is present; over PCIe through the control port after step 10,
vendor messages not at all. -/
def State.reached (s : State) (m : Mgmt) (vendor : Bool) : Bool :=
  let step := s.fld btBootStep
  s.pw.standby && (!m.pcie
    || (!vendor && decide (11 ≤ step) && decide (step ≤ 15) && (List.range 4).any fun p => s.isControl p && s.flag (btHostwinEn p)))

/-- A message inside the secured session that KEY_EX made (R535, R537). -/
def State.secured (s : State) (m : Mgmt) : Bool := m.secured && s.cu.session

/-- A vendor message: one of the wrong length gets STATUS LENGTH (R535). -/
def State.vendor (s : State) (m : Mgmt) (f : State → State) : State :=
  if !(s.reached m true) then s
  else if !m.lenOk then s.respond [stLength]
  else f s

/-- GET_BOOT: BT_BOOT, CT_CAT_STATE and PW_STATUS, recovery included (R535). -/
def execGetBoot (m : Mgmt) (s : State) : Host.Outcome State Fault Refusal :=
  .next (s.vendor m fun s =>
    s.respond [stOk, (s.reg btBootReg).toNat, (s.reg ctCatStateReg).toNat, (s.reg pwStatusReg).toNat])

/-- Has step 8 begun (R525)? -/
def State.planTaken (s : State) : Bool := decide (8 ≤ s.fld btBootStep) && decide (s.fld btBootStep ≤ 15)

/-- SET_PLAN: the plan is stored in eMRAM; once step 8 has begun it is for the next boot (R525, R535). -/
def execSetPlan (m : Mgmt) (p : Plan) (s : State) : Host.Outcome State Fault Refusal :=
  .next (s.vendor m fun s =>
    if p.secret.isSome && !(s.secured m) then s.respond [stSession]
    else
      { s with cu := { s.cu with em := { s.cu.em with plan := some p } } }.respond [if s.planTaken then stDeferred else stOk])

/-- The fields of an accession-log entry as READ_LOG returns them (R531). -/
def LogEntry.words (e : LogEntry) : List Nat := e.record.map (fun w => w.toNat) ++ [e.lseq, e.boot, e.uptime, e.wall, e.crc.toNat]

/-- READ_LOG: up to four entries from an LSEQ (R532, R535); entries the log does not hold are left out. -/
def execReadLog (m : Mgmt) (first : BitVec 32) (count : Nat) (s : State) : Host.Outcome State Fault Refusal :=
  .next (s.vendor m fun s =>
    if count < 1 ∨ 4 < count then s.respond [stLength]
    else
      let es := (List.range count).filterMap fun i =>
        let n := (first.toNat + i) % 2 ^ 32
        (tabFind s.cu.em.log (n % 425984)).bind fun e => if e.lseq = n then some e.words else none
      s.respond (stOk :: es.foldl (· ++ ·) []))

/-- GET_EVENTS: the pending causes; ALERT_N is released (R538). -/
def execGetEvents (m : Mgmt) (s : State) : Host.Outcome State Fault Refusal :=
  .next (s.vendor m fun s =>
    let r := stOk :: s.cu.alerts
    { s with cu := { s.cu with alerts := [], alertN := false } }.respond r)

/-- SET_ALERT: ALERT_SEV, 1 to 5 (R535, R538). -/
def execSetAlert (m : Mgmt) (sev : Nat) (s : State) : Host.Outcome State Fault Refusal :=
  .next (s.vendor m fun s =>
    if sev < 1 ∨ 5 < sev then s.respond [stLength]
    else { s with cu := { s.cu with alertSev := sev } }.respond [stOk])

/-- SET_TIME: seconds since 1970-01-01 UTC (R531, R535). -/
def execSetTime (m : Mgmt) (seconds : W64) (s : State) : Host.Outcome State Fault Refusal :=
  .next (s.vendor m fun s => { s with cu := { s.cu with wall := some (seconds.toNat, s.now) } }.respond [stOk])

/-! Resets by command (R528, R535). -/

/-- A reset by command begins; the response goes out first. -/
def State.askReset (s : State) (m : Mgmt) (full : Bool) : State :=
  s.vendor m fun s =>
    if !(s.secured m) then s.respond [stSession]
    else { s with cu := { s.cu with resetDue := some (full || s.cu.resetDue.getD false) } }.respond [stOk]

/-- RESET with KIND 1. -/
def execResetModule (m : Mgmt) (s : State) : Host.Outcome State Fault Refusal := .next (s.askReset m false)

/-- RESET with KIND 2. -/
def execResetFull (m : Mgmt) (s : State) : Host.Outcome State Fault Refusal := .next (s.askReset m true)

/-! Debug tokens (R539 to R541). -/

/-- Pins return to normal operation: an instruction that drove them is BYPASS from here on (R541). -/
def State.releasePins (s : State) : State :=
  { s with cu := { s.cu with
    pinsDriven := false
    instrReg := if 4 ≤ s.cu.instrReg ∧ s.cu.instrReg ≤ 6 then 1 else s.cu.instrReg } }

/-- The token in force ends; with BT_LOCK set debug closes (R541). -/
def State.endToken (s : State) : State :=
  let s := { s with cu := { s.cu with token := none } }
  let s := if s.flag btLockLock then (s.setReg dbObsmuxReg 0).releasePins else s
  s.showDebug

/-- GET_DEBUG_NONCE: a new nonce, a free value (R540). -/
def execGetDebugNonce (m : Mgmt) (s : State) : Host.Outcome State Fault Refusal :=
  .next (s.vendor m fun s =>
    let n := Config.freeWord s.free
    ({ s with cu := { s.cu with nonce := some n } }.draw 1).respond [stOk, n.toNat])

/-- The first test of R540 that a token fails, in its order from 1; 0 when none does. -/
def State.tokenTest (s : State) (t : Token) : Nat :=
  let key := s.cu.em.keySet.getD 4 []
  if t.magic ≠ 0x54444B53 ∨ t.format ≠ 1 then 1
  else if t.uid ≠ Config.uid then 2
  else if s.cu.nonce ≠ some t.nonce then 3
  else if t.seconds < 1 ∨ 86400 < t.seconds then 4
  else if !(!key.isEmpty && Config.ecdsaOk key (Config.sha384 t.signed) t.r t.s) then 5
  else 0

/-- SET_DEBUG_TOKEN: accepted, it closes debug for a token in force and opens it with its RIGHTS for SECONDS; refused, it leaves the debug
state (R535, R540, R541). The table of R535 asks no session of it (log entry 66). -/
def execSetDebugToken (m : Mgmt) (t : Token) (s : State) : Host.Outcome State Fault Refusal :=
  .next (s.vendor m fun s =>
    let bad := s.tokenTest t
    let s := if s.cu.nonce = some t.nonce then { s with cu := { s.cu with nonce := none } } else s
    if bad = 0 then
      let rights := t.rights % 4
      let digest := Config.sha384 (t.signed ++ t.r ++ t.s)
      let s := if s.cu.token.isSome then s.endToken else s
      let s := { s with cu := { s.cu with token := some (rights, s.now + t.seconds * 1000000000, digest) } }
      (s.showDebug.inputRecord 6 1 7 (rights + t.seconds * 4)).respond [stOk]
    else ((s.incSat dbTokenRejects 1).inputRecord 6 1 8 bad).respond [stToken])

/-- REVOKE_DEBUG (R541). -/
def execRevokeDebug (m : Mgmt) (s : State) : Host.Outcome State Fault Refusal := .next (s.vendor m fun s => s.endToken.respond [stOk])

/-- DEBUG_TOKEN_EXPIRY: the lifetime of the token in force ends (R541). -/
def execDebugTokenExpiry (s : State) : Host.Outcome State Fault Refusal := .next (if s.cu.token.isSome then s.endToken else s)

/-! MCTP control and PLDM base and monitoring (R534, R536). -/

/-- A message of the other types. -/
def State.message (s : State) (m : Mgmt) (f : State → State) : State := if s.reached m false then f s else s

/-- MCTP_CONTROL: Set Endpoint ID, Get Endpoint ID, and the discovery answers. -/
def execMctpControl (m : Mgmt) (command arg : Nat) (s : State) : Host.Outcome State Fault Refusal :=
  .next (s.message m fun s =>
    if command = 1 then { s with cu := { s.cu with eid := arg % 256 } }.respond [0, arg % 256]
    else if command = 2 then s.respond [0, s.cu.eid]
    else s.respond (Config.answer command))

/-- GET_TID. -/
def execGetTid (m : Mgmt) (s : State) : Host.Outcome State Fault Refusal := .next (s.message m fun s => s.respond (0 :: Config.answer 256))

/-- GET_PLDM_VERSION. -/
def execGetPldmVersion (m : Mgmt) (s : State) : Host.Outcome State Fault Refusal :=
  .next (s.message m fun s => s.respond (0 :: Config.answer 257))

/-- GET_PLDM_TYPES: 0, 2 and 5. -/
def execGetPldmTypes (m : Mgmt) (s : State) : Host.Outcome State Fault Refusal := .next (s.message m fun s => s.respond [0, 0, 2, 5])

/-- Command codes of a PLDM type that R536 supports, as the DMTF numbers them. -/
def pldmCommands : Nat → Option (List Nat)
  | 0 => some [0x02, 0x03, 0x04, 0x05]
  | 2 => some [0x0A, 0x11, 0x21, 0x50, 0x51]
  | 5 => some [0x10, 0x13, 0x14, 0x15, 0x16, 0x17, 0x18, 0x1A, 0x1B, 0x1C, 0x1D]
  | _ => none

/-- GET_PLDM_COMMANDS. -/
def execGetPldmCommands (m : Mgmt) (type : Nat) (s : State) : Host.Outcome State Fault Refusal :=
  .next (s.message m fun s => match pldmCommands type with
    | some l => s.respond (0 :: l)
    | none => s.respond [1])

/-- PDR_REPOSITORY. -/
def execPdrRepository (m : Mgmt) (s : State) : Host.Outcome State Fault Refusal := .next (s.message m fun s => s.respond (0 :: Config.answer 258))

/-- The numeric sensors of R536 by the model's number: 0 the die, 1 to 16 the stacks, 17 and 18 the stage diodes, 19 the input power, 32 + c the survey
channel c. -/
def State.sensorValue (s : State) (n : Nat) : Option Nat :=
  if n = 0 then some (pattern 16 s.pw.dieTemp)
  else if n ≤ 16 then some (pattern 16 (tabGet 0 s.se.temp (n - 1)))
  else if n ≤ 18 then some (s.fld (pwStageTemp (n - 17)))
  else if n = 19 then some (s.fld pwBudgetMeas)
  else if 32 ≤ n ∧ n < 128 then some (s.fld (svWindowLast (n - 32)))
  else none

/-- GET_SENSOR_READING. -/
def execGetSensorReading (m : Mgmt) (sensor : Nat) (s : State) : Host.Outcome State Fault Refusal :=
  .next (s.message m fun s => match s.sensorValue sensor with
    | some v => s.respond [0, v]
    | none => s.respond [1])

/-- GET_STATE_SENSOR_READINGS: 0 boot step, 1 catalogue state, 2 debug state. -/
def execGetStateSensorReadings (m : Mgmt) (sensor : Nat) (s : State) : Host.Outcome State Fault Refusal :=
  .next (s.message m fun s => match sensor with
    | 0 => s.respond [0, s.fld btBootStep]
    | 1 => s.respond [0, s.fld ctCatStateState]
    | 2 => s.respond [0, bitNat s.debugOpen]
    | _ => s.respond [1])

/-! PLDM Type 5 (R522, R523, R536, R546). -/

/-- Is the custodian in recovery (R522)? -/
def State.inRecovery (s : State) : Bool := decide (s.fld btBootStep = 16)

/-- A Type 5 message outside the states that take it is refused. -/
def State.pldmIn (s : State) (m : Mgmt) (l : List Pldm) (f : State → State) : State :=
  s.message m fun s => if s.cu.pldm ∈ l then f s else s.respond [1]

/-- Move to an update state and answer. -/
def State.pldmTo (s : State) (p : Pldm) : State := { s with cu := { s.cu with pldm := p } }.respond [0]

/-- REQUEST_UPDATE: an update begins. -/
def execRequestUpdate (m : Mgmt) (s : State) : Host.Outcome State Fault Refusal :=
  .next (s.pldmIn m [.idle] fun s => { s with cu := { s.cu with ready := [], comps := [], comp := none, update := [] } }.pldmTo .requested)

/-- PASS_COMPONENT_TABLE. -/
def execPassComponentTable (m : Mgmt) (comps : List Component) (s : State) : Host.Outcome State Fault Refusal :=
  .next (s.pldmIn m [.requested] fun s => { s with cu := { s.cu with comps } }.pldmTo .tabled)

/-- UPDATE_COMPONENT: a component of the table is to be written; in recovery FIRMWARE only (R522). The copy being written is invalid until it
is whole (R546). -/
def execUpdateComponent (m : Mgmt) (comp : Component) (size : Nat) (s : State) : Host.Outcome State Fault Refusal :=
  .next (s.pldmIn m [.tabled, .applied] fun s =>
    if comp ∉ s.cu.comps ∨ (s.inRecovery ∧ comp ≠ .firmware) then s.respond [1]
    else
      let s := s.setInactive comp []
      { s with cu := { s.cu with
        comp := some comp
        compSize := size
        update := []
        ready := s.cu.ready.filter fun c => decide (c ≠ comp) } }.pldmTo .receiving)

/-- REQUEST_FIRMWARE_DATA: a piece of the component, in order. -/
def execRequestFirmwareData (m : Mgmt) (data : List Byte) (s : State) : Host.Outcome State Fault Refusal :=
  .next (s.pldmIn m [.receiving] fun s =>
    { s with cu := { s.cu with update := (s.cu.update ++ data).take s.cu.compSize } }.respond [0, s.cu.update.length])

/-- TRANSFER_COMPLETE: the component is whole and lies in the inactive copy, or the transfer has failed. -/
def execTransferComplete (m : Mgmt) (ok : Bool) (s : State) : Host.Outcome State Fault Refusal :=
  .next (s.pldmIn m [.receiving] fun s =>
    match s.cu.comp with
    | some c =>
      if ok && decide (s.cu.update.length = s.cu.compSize) then (s.setInactive c s.cu.update).pldmTo .received
      else { s with cu := { s.cu with comp := none, update := [] } }.pldmTo .tabled
    | none => s)

/-- Is the component that was received good (R291, R309, R521, R536)? -/
def State.componentOk (s : State) (c : Component) : Bool :=
  match c with
  | .firmware => s.cu.em.imageOk .firmware s.cu.update
  | .keys => s.cu.em.imageOk .keySet s.cu.update && decide (numAt s.cu.update 8 4 = 512)
  | .catalogue => match Cat.parse s.catKeys s.cu.update with
    | .ok c => !c.partial_
    | .error _ => false

/-- VERIFY_COMPLETE: success only after the checks have passed; a component that fails leaves the active copy unchanged (R536). -/
def execVerifyComplete (s : State) : Host.Outcome State Fault Refusal :=
  .next (match s.cu.pldm, s.cu.comp with
    | .received, some c =>
      if s.componentOk c then
        let em := match c with
          | .firmware => s.cu.em.commitSvn .firmware s.cu.update
          | .keys => s.cu.em.commitSvn .keySet s.cu.update
          | .catalogue => s.cu.em
        { s with cu := { s.cu with em } }.pldmTo .verified
      else
        { s with cu := { s.cu with pldm := .tabled, comp := none, update := [] } }.respond [1]
    | _, _ => s)

/-- APPLY_COMPLETE: the verified component is applied. -/
def execApplyComplete (s : State) : Host.Outcome State Fault Refusal :=
  .next (match s.cu.pldm, s.cu.comp with
    | .verified, some c => { s with cu := { s.cu with ready := s.cu.ready ++ [c], comp := none, update := [] } }.pldmTo .applied
    | _, _ => s)

/-- The five public keys of a key-set image (R523). -/
def keysOf (img : List Byte) : List (List Byte) := (List.range 5).map fun i => bytesAt (imageBody img) (97 * i) 97

/-- Mark a verified component active for the next reset of its kind (R523, R528, R536). -/
def Emram.activate (em : Emram) : Component → Emram
  | .firmware => { em with fwActive := 3 - em.fwActive }
  | .catalogue => { em with catActive := 3 - em.catActive }
  | .keys => { em with keyNext := em.keyStaged.map keysOf }

/-- ACTIVATE_FIRMWARE: the verified components are marked active; no reset is started (R536). -/
def execActivateFirmware (m : Mgmt) (s : State) : Host.Outcome State Fault Refusal :=
  .next (s.pldmIn m [.tabled, .applied] fun s =>
    if s.cu.ready.isEmpty then s.respond [1]
    else
      { s with cu := { s.cu with em := s.cu.ready.foldl Emram.activate s.cu.em, ready := [], comps := [], comp := none } }.pldmTo .idle)

/-- Code of an update state. -/
def pldmCode : Pldm → Nat
  | .idle => 0
  | .requested => 1
  | .tabled => 2
  | .receiving => 3
  | .received => 4
  | .verified => 5
  | .applied => 2

/-- GET_STATUS. -/
def execGetStatus (m : Mgmt) (s : State) : Host.Outcome State Fault Refusal := .next (s.message m fun s => s.respond [0, pldmCode s.cu.pldm])

/-- CANCEL_UPDATE_COMPONENT: the component being updated is given up. -/
def execCancelUpdateComponent (m : Mgmt) (s : State) : Host.Outcome State Fault Refusal :=
  .next (s.pldmIn m [.receiving, .received, .verified] fun s =>
    { s with cu := { s.cu with comp := none, update := [] } }.pldmTo .tabled)

/-- CANCEL_UPDATE: the update ends; nothing of it is activated (R546). -/
def execCancelUpdate (m : Mgmt) (s : State) : Host.Outcome State Fault Refusal :=
  .next (s.pldmIn m [.requested, .tabled, .receiving, .received, .verified, .applied] fun s => s.dropUpdate.respond [0])

/-! SPDM (R537). -/

/-- KEY_EX: a secured session is set up. -/
def execKeyEx (m : Mgmt) (s : State) : Host.Outcome State Fault Refusal :=
  .next (s.message m fun s => { s with cu := { s.cu with session := true } }.respond [0])

/-- The bytes of a plan without its secret (R535, R537). -/
def planBytes (p : Plan) : List Byte :=
  (p.coord :: (List.range 8).map (fun i => p.neighbour.getD i 0) ++ [p.limits.getD 0, p.bridge.getD 0]).foldl (fun l w => l ++ leBytes 8 w.toNat) []

/-- Extend a SHA-384 chain by a digest (R537). -/
def chainStep (h d : BitVec 384) : BitVec 384 := Config.sha384 (leBytes 48 h.toNat ++ leBytes 48 d.toNat)

/-- The measurement blocks 1 to 7 (R537). -/
def State.measurements (s : State) : List (List Nat) :=
  [Config.answer 259,
   match s.cu.fwRun with | some (d, svn) => [d.toNat, svn] | none => [0, 0],
   [(Config.sha384 (s.cu.em.keySet.foldl (· ++ ·) [])).toNat],
   [if s.fld ctCatStateState = 2 then s.cu.catRun.toNat else 0],
   [match s.cu.planRun with | some p => (Config.sha384 (planBytes p)).toNat | none => 0],
   [bitNat s.debugOpen, s.debugRights, match s.cu.token with | some t => t.2.2.toNat | none => 0],
   [(s.cat.applied.foldl chainStep 0).toNat]]

/-- GET_MEASUREMENTS. -/
def execGetMeasurements (m : Mgmt) (s : State) : Host.Outcome State Fault Refusal :=
  .next (s.message m fun s => s.respond (0 :: s.measurements.foldl (· ++ ·) []))

end Sys2Proof.Machine
end

