-- ==== Sys2Proof/Machine/View.lean ====
section
/-! DEFINITION. What an accessor sees of control space: the registers that R50 hides from a host port, the fields that are shown only for what it owns,
and a read on the bus (R14, R16, R28, R48 to R51, R280, R311, R452; the SE, SH and CT register sections). No row of the table is a read: these
definitions say what one returns and records. -/
namespace Sys2Proof.Machine
open Sys2Proof

/-- Does a BT register lie in view of port p (R50)? -/
def State.seesBt (s : State) (p o : Nat) : Bool :=
  decide (o = btLockReg) || decide (o = btHostwinReg p) || decide (o = btTenantRangeReg p)
    || (s.partsOf p).any fun n => decide (o = btPartReg n)

/-- Does port p see the register at an offset below BAR0's end (R50)? An offset of no block is not hidden (R48). -/
def State.seesReg (s : State) (p o : Nat) : Bool :=
  if o < 0x100000 then s.seesBt p o
  else if 0x300000 ≤ o ∧ o < 0x340000 then decide ((o - 0x300000) / 0x10000 = p)
  else if 0x603000 ≤ o ∧ o < 0x603020 then false
  else if 0x600100 ≤ o ∧ o < 0x600200 then s.portOwns p ((o - 0x600100) / 8 % 16)
  else if 0x800000 ≤ o ∧ o < 0x840000 then
    let t := (o - 0x800000) / 0x100
    decide (s.fld (btTenantRangeFirst p) ≤ t) && decide (t < s.fld (btTenantRangeFirst p) + s.fld (btTenantRangeCount p))
  else if 0x1000000 ≤ o ∧ o < 0x1800000 then
    match s.partOf ((o - 0x1000000) / 0x10000) with
    | some n => s.portOwns p n
    | none => false
  else if 0x2000000 ≤ o ∧ o < 0x2100000 then false
  else true

/-- Does port p own the partition of a logical cluster? -/
def State.portHasCluster (s : State) (p l : Nat) : Bool :=
  match s.partOf l with
  | some n => s.portOwns p n
  | none => false

/-- A field of a register value replaced. -/
def withFld (v : W64) (f : Fld) (x : Nat) : W64 := putBits v f.lo f.w x

/-- A register of stream engine i as port p reads it: slot, page and event state of owned partitions only, counts of their slots and commands, an
uncorrected address only where it is common or theirs (SE registers). -/
def State.viewSe (s : State) (p i o : Nat) (v : W64) : W64 :=
  let r := o - seBase i
  let mine (k : Nat) : Bool := s.portOwns p (s.fld (seSlotStatPart i k)) && decide (s.fld (seSlotStatState i k) ≠ 0)
  let open_ (k : Nat) : Bool := decide (s.fld (seSlotStatState i k) = slotOpen) || decide (s.fld (seSlotStatState i k) = slotClosing)
  if r = 0 then
    withFld v (seCfgSlots i) (sumNat (s.ctg.streams.map fun c => if s.portOwns p c.part then (c.slots.getD i []).length else 0))
  else if r = 8 then
    withFld (withFld v (seStatusOpen i) ((List.range 256).countP fun k => open_ k && mine k)) (seStatusQdepth i)
      ((s.seCmds i).countP fun c => s.portHasCluster p c.cluster)
  else if r = 0x10 then
    let a := s.fld (seEccLastAddr i)
    let seen := decide (a < 2048 * 2 ^ 20) || match s.regionOf a with
      | some g => decide (g.kind = 1) || decide (g.kind = 2) || decide (g.kind = 4) || s.portOwns p g.owner
      | none => false
    if seen then v else withFld v (seEccLastAddr i) 0
  else if 0x200 ≤ r ∧ r < 0x280 then (if s.portOwns p ((r - 0x200) / 8) then v else 0)
  else if 0x300 ≤ r ∧ r < 0x380 then (if s.portOwns p ((r - 0x300) / 8) then v else 0)
  else if 0x1000 ≤ r ∧ r < 0x1800 then (if s.portOwns p (s.fld (seSlotStatPart i ((r - 0x1000) / 8))) then v else 0)
  else v

/-- A register of the shelver as port p reads it (SH registers). -/
def State.viewSh (s : State) (p o : Nat) (v : W64) : W64 :=
  let mine (h : Nat) : Bool := s.portOwns p (s.vol h).part
  if o = shStatusReg then
    let v := if mine (s.fld shStatusPlacing) then v else withFld v shStatusPlacing 0x3FFF
    withFld v shStatusDemands (s.sh.demands.countP mine)
  else if o = shPoolShareReg then
    withFld v shPoolShareSections (s.ctg.sections.countP fun r => !r.resident && s.portOwns p r.part)
  else v

/-- A catalogue register as port p reads it (CT registers). -/
def State.viewCt (s : State) (p o : Nat) (v : W64) : W64 :=
  if o = ctCatStateReg then
    if s.portOwns p (s.fld ctCatStatePpart) then v
    else withFld (withFld (withFld v ctCatStatePstate 0) ctCatStatePreason 0) ctCatStatePpart 0
  else if o = ctCatDetailReg then
    if s.flag ctCatDetailPartValid && !s.portOwns p (s.fld ctCatDetailPart) then 0 else v
  else if 0x100100 ≤ o ∧ o < 0x100200 ∧ o % 16 = 8 then
    let k := (o - 0x100100) / 16
    if s.fld (ctPendActAction k) = 1 ∧ !s.portOwns p (s.fld (ctPendActPart k)) then 0 else v
  else v

/-- A record register as port p reads it (R452): its own RD and MIN_SEV, records of owned partitions and of module scope. -/
def State.viewIn (s : State) (p o : Nat) (v : W64) : W64 :=
  if o = inErrHeadReg then (v &&& 0xFFFFFFFF00000000) ||| (s.reg (instOff p inErrHeadReg) &&& 0xFFFFFFFF)
  else if o = inNotifyReg then s.reg (instOff p inNotifyReg)
  else if 0x601000 ≤ o ∧ o < 0x602000 then (if s.portSees p (s.reg (inErrRecordReg ((o - 0x601000) / 32 * 4))) then v else 0)
  else if 0x602000 ≤ o ∧ o < 0x602020 then (if s.portSees p (s.reg (inErrLastReg 0)) then v else 0)
  else v

/-- Is the register one of which every accessor has its own instance (R280, R311)? -/
def ownInstance (o : Nat) : Bool :=
  decide (o = ctAnnounceReg) || decide (o = shVolumeStateReg) || decide (o = shLoanCountReg) || decide (o = shMapQueryReg)

/-- What host port p reads of a register it sees (R50). -/
def State.viewPort (s : State) (p o : Nat) : W64 :=
  let v := s.readReg o
  if ownInstance o then s.reg (instOff p o)
  else if 0x100000 ≤ o ∧ o < 0x200000 then s.viewCt p o v
  else if 0x200000 ≤ o ∧ o < 0x300000 then s.viewSh p o v
  else if 0x500000 ≤ o ∧ o < 0x600000 then s.viewSe p ((o - 0x500000) / 0x10000) o v
  else if 0x600000 ≤ o ∧ o < 0x700000 then s.viewIn p o v
  else v

/-- What the custodian reads: the module-wide values, and its own instances. -/
def State.viewCust (s : State) (o : Nat) : W64 :=
  if ownInstance o || decide (o = inNotifyReg) then s.reg (instOff 4 o)
  else if o = inErrHeadReg then (s.readReg o &&& 0xFFFFFFFF00000000) ||| (s.reg (instOff 4 inErrHeadReg) &&& 0xFFFFFFFF)
  else s.readReg o

/-- Is an offset in the register window of a cluster that is UNAVAILABLE, and so unmapped (R28)? -/
def State.windowGone (s : State) (o : Nat) : Bool :=
  decide (0x1000000 ≤ o) && decide (o < 0x1800000) && !s.clAvailable ((o - 0x1000000) / 0x10000)

/-- The ring pair and register that an offset in a port's block names: ring bases, configuration, doorbell, head, cancel. -/
def ringReg (o : Nat) : Option (Nat × Nat) := if 0x1000 ≤ o ∧ o < 0x5000 then some ((o - 0x1000) / 0x40, (o - 0x1000) % 0x40) else none

/-- What a virtual function reads at an offset of its BAR0 (R324): HP_STATUS, and its ring pairs. -/
def State.viewVf (s : State) (p fn o : Nat) : W64 :=
  if !s.vfExists p fn then 0
  else if o = 0 then s.readReg (hpStatusReg p)
  else match ringReg o with
    | some (j, r) => match (s.fnRings p fn)[j]? with
      | some k => s.readReg (hpRingBaseReg p k + r)
      | none => 0
    | none => 0

/-- An aligned 64-bit read of control space by a host port or the custodian (R14, R16, R28, R48 to R51): the value, whether it is poisoned, and the state
with what the access recorded. Data of an unmapped address is poisoned and has no value of the spec's (log entry 5). -/
def State.busRead (s : State) (acc : Accessor) (o : Nat) : W64 × Bool × State :=
  match acc with
  | .custodian =>
    if 0x10000000 ≤ o ∨ s.windowGone o then (Config.freeWord s.free, true, (s.unmappedAccess acc o).draw 1) else (s.viewCust o, false, s)
  | .host p =>
    if 0x4000000 ≤ o then (0, false, s)
    else if !s.seesReg p o then (0, false, s.hiddenAccess acc o)
    else if s.windowGone o then (0, false, s.unmappedAccess acc o)
    else (s.viewPort p o, false, s)
  | .vf p fn => (s.viewVf p fn o, false, s)

end Sys2Proof.Machine
end

