-- ==== Sys2Proof/Machine/Writes.lean ====
section
/-! DEFINITION. Writes of registers (R12 to R15, R48, R50, R51): REGISTER_WRITE by accessor and register, IN_ERR_HEAD and RESUME (R448, R452, R455).
A write of a register that has a row of its own acts as that row. Log entries 69, 70. -/
namespace Sys2Proof.Machine
open Sys2Proof

/-- Every bit. -/
def allOf : W64 := BitVec.allOnes 64

/-- Is the accessor the control port (R50)? -/
def State.byControl (s : State) : Accessor → Bool
  | .host p => s.isControl p
  | _ => false

/-- Is the accessor the port that owns a partition (R50)? -/
def State.byOwner (s : State) (acc : Accessor) (n : Nat) : Bool :=
  match acc with
  | .host p => s.portOwns p n
  | _ => false

/-! IN (R448, R452, R455). -/

/-- IN_ERR_HEAD: an accessor writes RD of its own instance (R452). -/
def execInErrHead (acc : Accessor) (rd : BitVec 32) (s : State) : Host.Outcome State Fault Refusal :=
  .next (match acc with
    | .vf _ _ => s
    | _ => s.setReg (instOff (accNum acc) inErrHeadReg) (rd.setWidth 64))

/-- Is a RESUME of a partition heeded (R448)? Not while PSTATE is FAILED, nor with a FAILED cluster unless the catalogue accepts it. -/
def State.mayResume (s : State) (n : Nat) : Bool :=
  s.flag (inPartStateFatal n) && decide (s.fld ctCatStatePstate ≠ 5)
    && (s.ctg.acceptDegraded || !((List.range 128).any fun l => s.owns n l && decide (s.fld (clStatusMap l) = 2)))

/-- RESUME: a restart of a FATAL partition at the next boundary, by the port that owns it (R448, R455). -/
def execResume (acc : Accessor) (part : Fin 16) (s : State) : Host.Outcome State Fault Refusal :=
  .next (
    if s.byOwner acc part && s.mayResume part && decide (part.val ∉ s.ig.resume) then
      { s with ig := { s.ig with resume := part :: s.ig.resume } }
    else s)

/-! Ring pairs (R324, R328, R329). -/

/-- Is the accessor a PF? -/
def isPf : Accessor → Bool
  | .host _ => true
  | _ => false

/-- Is the accessor a VF? -/
def isVf : Accessor → Bool
  | .vf _ _ => true
  | _ => false

/-- Does a write of HP_RING_CFG leave the whole register unchanged: a PF names a tenant outside its port's range (R328), or a VF that the port does not
offer (R324; log entry 107)? -/
def State.cfgRefused (s : State) (acc : Accessor) (p k : Nat) (v : W64) : Bool :=
  let t := bitsOf v.toNat 48 10
  let first := s.fld (btTenantRangeFirst p)
  isPf acc && (!(decide (first ≤ t) && decide (t < first + s.fld (btTenantRangeCount p)))
    || (!(s.ringOn p k) && decide (s.fld (btHostwinVfs p) < bitsOf v.toNat 40 8)))

/-- The fields of HP_RING_CFG but EN (R328, R329, R360): sizes while EN is 0, by any accessor but a VF; FN, while EN is 0, LOCK and TENANT by the PF only;
LOCK is 1 while FN is not 0. -/
def State.ringFields (s : State) (acc : Accessor) (p k : Nat) (v : W64) : State :=
  let off := !(s.ringOn p k)
  let s := if isPf acc then
      let fn := if off then bitsOf v.toNat 40 8 else s.fld (hpRingCfgFn p k)
      ((s.setFld (hpRingCfgFn p k) fn).setFlag (hpRingCfgLock p k) (bitOf v.toNat 62 || decide (fn ≠ 0))).setFld (hpRingCfgTenant p k)
        (bitsOf v.toNat 48 10)
    else s
  if off && !isVf acc then (s.setFld (hpRingCfgCq p k) (bitsOf v.toNat 8 4)).setFld (hpRingCfgRq p k) (bitsOf v.toNat 0 4) else s

/-- A write of a register of ring pair k by its function, the PF or the custodian. -/
def State.ringWrite (s : State) (acc : Accessor) (p : Fin 4) (k : Fin 256) (r : Nat) (v : W64) : Host.Outcome State Fault Refusal :=
  match r with
  | 0x00 => .next (if s.ringOn p k then s else s.writeTyped (hpRingBaseReg p k) v allOf)
  | 0x08 => .next (if s.ringOn p k then s else s.writeTyped (hpCplBaseReg p k) v allOf)
  | 0x10 =>
    if s.cfgRefused acc p k v then .next s
    else
      let on := s.ringOn p k
      let s := s.ringFields acc p k v
      if bitOf v.toNat 63 then (if on then .next s else execRingEnable acc p k s)
      else if on then execRingDisable acc p k s else .next s
  | 0x18 => execHpDoorbell acc p k (v.setWidth 16) s
  | 0x20 => execHpCplHead acc p k (v.setWidth 16) s
  | 0x30 => execHpCancel acc p k (v.setWidth 32) s
  | _ => .next s

/-- A write in the BAR0 of a virtual function: its j-th ring pair from 0x1000 + 0x40 × j (R324). -/
def State.vfWrite (s : State) (p : Fin 4) (fn : Fin 256) (o : Nat) (v : W64) : Host.Outcome State Fault Refusal :=
  match ringReg o with
  | some (j, r) =>
    match (s.fnRings p fn)[j]? with
    | some k => if s.vfExists p fn then s.ringWrite (.vf p fn) p (Fin.ofNat 256 k) r v else .next s
    | none => .next s
  | none => .next s

/-- A write in a host port's block by the PF or the custodian; only the PF clears NEW of HP_EVENTS (R360). -/
def State.hpWrite (s : State) (acc : Accessor) (p : Fin 4) (o : Nat) (v : W64) : Host.Outcome State Fault Refusal :=
  match ringReg o with
  | some (k, r) => s.ringWrite acc p (Fin.ofNat 256 k) r v
  | none => .next (if isPf acc then s.writeTyped (hpBase p + o) v allOf else s)

/-! The other blocks (R50, R311, R322). -/

/-- A write in the survey block, by custodian firmware (R483, R484, R488, SV_SELECT). -/
def State.svWrite (s : State) (acc : Accessor) (o : Nat) (v : W64) : Host.Outcome State Fault Refusal :=
  if !byCustodian acc then .next s
  else if o = svSelectReg then .next (if 96 ≤ bitsOf v.toNat 0 7 then s else s.writeTyped o v allOf)
  else if o = svCtrlReg then
    let s := s.writeTyped o v allOf
    if bitOf v.toNat 2 then execSvStart acc s
    else .next (if s.pw.running.isNone then s.nextConv else s)
  else if o = svUrgentReg then
    if bitOf v.toNat 62 then execSvUrgent acc (BitVec.ofNat 7 (bitsOf v.toNat 55 7)) s else .next (s.writeTyped o v allOf)
  else .next (s.writeTyped o v allOf)

/-- A write in the power block (R495 to R500, R519). -/
def State.pwWrite (s : State) (acc : Accessor) (o : Nat) (v : W64) : Host.Outcome State Fault Refusal :=
  let r := o - 0x730000
  if r < 0x40 then execPwDomainFreq acc (Fin.ofNat 8 (r / 8)) (v.setWidth 11) s
  else if r < 0x80 then
    let s := if byCustodian acc then s.writeTyped o v (putBits 0 62 1 1) else s
    execPwDomainVolt acc (Fin.ofNat 8 ((r - 0x40) / 8)) (v.setWidth 10) s
  else if o = pwBudgetReg then
    let limit := bitsOf v.toNat 0 11
    let m := if s.byControl acc && decide (300 ≤ limit) && decide (limit ≤ 1650) then putBits 0 0 11 2047 else 0
    let m := if byCustodian acc then putBits 0 24 11 2047 else m
    .next (s.writeTyped o v m)
  else .next s

/-- A write in the integrity block (R438, R455). -/
def State.inWrite (s : State) (acc : Accessor) (o : Nat) (v : W64) : Host.Outcome State Fault Refusal :=
  let r := o - 0x600000
  if o = inErrHeadReg then execInErrHead acc (v.setWidth 32) s
  else if o = inNotifyReg then .next (s.setReg (instOff (accNum acc) inNotifyReg) (v &&& 7))
  else if 0x100 ≤ r ∧ r < 0x180 then
    .next (if s.byOwner acc ((r - 0x100) / 8) && decide (bitsOf v.toNat 0 2 ≠ 3) then s.writeTyped o v allOf else s)
  else if 0x180 ≤ r ∧ r < 0x200 then
    if bitOf v.toNat 62 then execResume acc (Fin.ofNat 16 ((r - 0x180) / 8)) s else .next s
  else if 0x3000 ≤ r ∧ r < 0x3020 then
    .next (if byCustodian acc && !(s.flag btLockLock) then s.setReg (inSealSecretReg ((r - 0x3000) / 8)) v else s)
  else .next s

/-- A write in a tenant's window by the PF of a port that has it; TN_REFILL_TICKS is one register, the control port's (R356, R360). -/
def State.tnWrite (s : State) (acc : Accessor) (o : Nat) (v : W64) : State :=
  if (o - 0x800000) % 0x100 = 0x10 then
    if s.byControl acc && decide (bitsOf v.toNat 0 16 ≠ 0) then s.writeTyped tnRefillTicksReg v allOf else s
  else s.writeTyped o v allOf

/-- A write of a register that the accessor sees, by block (R50). -/
def State.blockWrite (s : State) (acc : Accessor) (o : Nat) (v : W64) : Host.Outcome State Fault Refusal :=
  let cust := byCustodian acc
  let ctl := s.byControl acc
  if o < 0x100000 then .next (if cust then s.writeTyped o v allOf else s)
  else if o < 0x200000 then .next (if o = ctAnnounceReg then s.announceWrite acc v else s)
  else if o < 0x300000 then
    if o = shVolumeStateReg then execShVolumeStateQuery acc v s
    else if o = shLoanCountReg then execShLoanCountQuery acc v s
    else if o = shMapQueryReg then execShMapQuery acc v s
    else .next (if ctl || cust then s.writeTyped o v allOf else s)
  else if o < 0x340000 then s.hpWrite acc (Fin.ofNat 4 ((o - 0x300000) / 0x10000)) ((o - 0x300000) % 0x10000) v
  else if o < 0x500000 then .next (if cust then (s.writeTyped o v allOf).showNumbers else if ctl then s.writeTyped o v (putBits 0 62 2 3) else s)
  else if o < 0x600000 then
    let r := (o - 0x500000) % 0x10000
    .next (if r = 0x10 then (if ctl then s.writeTyped o v allOf else s)
      else if 0x300 ≤ r ∧ r < 0x380 then (if s.byOwner acc ((r - 0x300) / 8) then s.writeTyped o v allOf else s)
      else s)
  else if o < 0x700000 then s.inWrite acc o v
  else if o < 0x710000 then .next s
  else if o < 0x720000 then s.svWrite acc o v
  else if o < 0x730000 then .next (if cust && (decide (o ≠ thLimitsReg) || limitsOk v) then s.writeTyped o v allOf else s)
  else if o < 0x800000 then s.pwWrite acc o v
  else if o < 0x840000 then .next (s.tnWrite acc o v)
  else if o < 0x1000000 then .next s
  else if o < 0x1800000 then
    let l := (o - 0x1000000) / 0x10000
    .next (if s.clAvailable l then s.writeCluster l o v else s.unmappedAccess acc o)
  else if o = dbObsmuxReg then .next (if cust && bitOf s.debugRights 0 then s.writeTyped o v allOf else s)
  else .next s

/-- REGISTER_WRITE: a write of control space at an offset (R12 to R15, R48, R50, R51). Only an aligned 64-bit access is accepted (R14); a
hidden register is recorded, and so is an unmapped address (R16, R28). With the compute die off only the survey block answers, to the custodian. -/
def execRegisterWrite (acc : Accessor) (off width : Nat) (v : W64) (s : State) : Host.Outcome State Fault Refusal :=
  let survey := byCustodian acc && decide (0x710000 ≤ off) && decide (off < 0x720000)
  if width ≠ 8 ∨ off % 8 ≠ 0 ∨ !(s.dieRuns || survey) then .next s
  else match acc with
    | .custodian => if off < 0x10000000 then s.blockWrite acc off v else .next (s.unmappedAccess acc off)
    | .host p =>
      if 0x4000000 ≤ off then .next s
      else if s.seesReg p off then s.blockWrite acc off v
      else .next (s.hiddenAccess acc off)
    | .vf p fn => s.vfWrite p fn off v

end Sys2Proof.Machine
end

