-- ==== Sys2Proof/Machine/Pins.lean ====
section
/-! DEFINITION. Pins and connectors: host links and port resets (R327, R527, R528, R562), boundary scan and the DB block (R4, R539, R547, R558), SYNC_REF
(R417, R544, R545, R571) and the fabric reference (R561). Log entries 71, 72. -/
namespace Sys2Proof.Machine
open Sys2Proof

/-! Host links (R527). -/

/-- PERSTP_N_RELEASE: the fundamental reset of a host port is released; its link may train from the end of boot step 5 (R527). -/
def execPerstpNRelease (p : Fin 4) (s : State) : Host.Outcome State Fault Refusal := .next (s.modHport p fun h => { h with perst := false })

/-- HOST_LINK_UP: a port's link completes training (R527, HP_STATUS). -/
def execHostLinkUp (p : Fin 4) (speed : BitVec 3) (width : BitVec 4) (s : State) : Host.Outcome State Fault Refusal :=
  .next (
    let step := s.fld btBootStep
    if !s.dieRuns || (s.hport p).perst || decide (step < 6) || decide (15 < step) then s
    else
      let s := s.modHport p fun h => { h with link := true }
      ((s.setFld (hpStatusSpeed p) speed.toNat).setFld (hpStatusWidth p) width.toNat).setFlag (hpStatusFlit p) (decide (speed.toNat = 6)))

/-- A port's link goes down (HP_STATUS). -/
def State.hostLinkDown (s : State) (p : Nat) : State :=
  let s := s.modHport p fun h => { h with link := false }
  ((s.setFld (hpStatusSpeed p) 0).setFld (hpStatusWidth p) 0).setFlag (hpStatusFlit p) false

/-- PORT_RESET: a function level reset ends the requests of its function's ring pairs, any other reset those of every ring pair, as a
cancellation without a final entry; a NOTE record for the event (R327, R528, R562). -/
def execPortReset (p : Fin 4) (kind : PortResetKind) (s : State) : Host.Outcome State Fault Refusal :=
  .next (
    let all := List.range 256
    let stop (s : State) (l : List Nat) : State := (l.filter (s.ringOn p)).foldl (fun s k => s.stopRing p k) s
    let note (s : State) : State := s.post (recHost s p 1 1 0 0 (s.partsOf p).head?)
    if !s.dieRuns then (match kind with | .perst => s.modHport p fun h => { h with perst := true } | _ => s)
    else match kind with
      | .flrVf fn => if s.vfExists p fn then note (stop s (s.fnRings p fn)) else s
      | .flrPf => note (stop s all)
      | .hotReset | .linkDown | .refclkLoss => note ((stop s all).hostLinkDown p)
      | .perst => note (((stop s all).hostLinkDown p).modHport p fun h => { h with perst := true }))

/-! Boundary scan (R539, R541, R558). The chain follows J5 while DBG_PRSNT_N is low. Instructions: 0 none since Test-Logic-Reset, 1 BYPASS, 2 IDCODE,
3 SAMPLE/PRELOAD, 4 EXTEST, 5 CLAMP, 6 HIGHZ, 7 DBACC. -/

/-- Does access through a connector reach the chain (R539, R558)? -/
def State.chainOn (s : State) (j5 : Bool) : Bool := s.pw.standby && decide (j5 = s.cu.chainJ5)

/-- An instruction is in force in the chain; the pins follow it. -/
def State.scanInstr (s : State) (n : Nat) (drives : Bool) : State :=
  { s with cu := { s.cu with instrReg := n, tapReset := false, pinsDriven := drives } }

/-- An instruction that is always available. -/
def State.scanFree (s : State) (j5 : Bool) (n : Nat) : State := if s.chainOn j5 then s.scanInstr n false else s

/-- An instruction that needs the EXTEST right; without it, it acts as BYPASS (R539). -/
def State.scanDrive (s : State) (j5 : Bool) (n : Nat) : State :=
  if !(s.chainOn j5) then s
  else if bitOf s.debugRights 1 then s.scanInstr n true
  else s.scanInstr 1 false

/-- BYPASS. -/
def execBypass (j5 : Bool) (s : State) : Host.Outcome State Fault Refusal := .next (s.scanFree j5 1)
/-- IDCODE. -/
def execIdcode (j5 : Bool) (s : State) : Host.Outcome State Fault Refusal := .next (s.scanFree j5 2)
/-- SAMPLE/PRELOAD. -/
def execSamplePreload (j5 : Bool) (s : State) : Host.Outcome State Fault Refusal := .next (s.scanFree j5 3)
/-- EXTEST. -/
def execExtest (j5 : Bool) (s : State) : Host.Outcome State Fault Refusal := .next (s.scanDrive j5 4)
/-- CLAMP. -/
def execClamp (j5 : Bool) (s : State) : Host.Outcome State Fault Refusal := .next (s.scanDrive j5 5)
/-- HIGHZ. -/
def execHighz (j5 : Bool) (s : State) : Host.Outcome State Fault Refusal := .next (s.scanDrive j5 6)

/-- DBACC: a read or a write of the DB block (R539, R547); DB_OBSMUX takes a write only with the OBSMUX right. -/
def execDbacc (j5 : Bool) (a : DbAccess) (s : State) : Host.Outcome State Fault Refusal :=
  .next (
    if !(s.chainOn j5) then s
    else
      let s := s.scanInstr 7 false
      match a with
      | .read off =>
        { s with cu := { s.cu with dbData := if off % 8 = 0 ∧ off < 0x100000 then s.readReg (0x2000000 + off) else 0 } }
      | .write off v =>
        if 0x2000000 + off = dbObsmuxReg ∧ bitOf s.debugRights 0 then s.writeTyped dbObsmuxReg v allOf else s)

/-- Does observation pin k carry a signal (R539, R541, DB_OBSMUX)? A pin that is not driven is low. -/
def State.obsDriven (s : State) (k : Nat) : Bool :=
  s.flag dbObsmuxEn && bitOf (s.fld dbObsmuxPins) k && bitOf s.debugRights 0

/-- Level of observation pin k (DB_OBSMUX): low when it is not driven; of group 0 pin 0 carries the tick boundary and pin 1 the guard band. None where
the spec states no level: a clock, an error indication, a state code, another group's signals. -/
def State.obsLevel (s : State) (k : Nat) : Option Bool :=
  if !s.obsDriven k then some false
  else if s.fld dbObsmuxGroup ≠ 0 then none
  else match k with
    | 0 => some (decide (s.t = 0))
    | 1 => some (decide (s.tickNs - 1000 ≤ s.t))
    | _ => none

/-- DBG_PRSNT_N_CHANGE: the chain follows J5 while it is low; both TAPs go to Test-Logic-Reset (R558). SK-720-A has no J5 (R4, R557). -/
def execDbgPrsntNChange (low : Bool) (s : State) : Host.Outcome State Fault Refusal :=
  .next (
    if !Config.isAD then s
    else { s with cu := { s.cu with chainJ5 := low, tapReset := true, instrReg := 0, pinsDriven := false } })

/-! SYNC_REF (R544). -/

/-- REF_OK as FB_SYNC_STAT and BT_INPUTS show it. -/
def State.setRefOk (s : State) (b : Bool) : State := (s.setFlag fbSyncStatRefOk b).setFlag btInputsRefOk b

/-- REF_OK clears: a record at most once per second; a CARDOR or BRIDGE module that is LOCKED exits (R417, R544, R571). -/
def State.refLost (s : State) (sub detail : Nat) : State :=
  let s := { s with fb := { s.fb with refRun := 0 } }
  if !(s.flag fbSyncStatRefOk) then s
  else
    let s := s.setRefOk false
    let s := if s.secondPassed s.fb.refPosted then
        { s with fb := { s.fb with refPosted := some s.now } }.inputRecord 9 1 sub detail
      else s
    if (s.syncMode = 2 ∨ s.syncMode = 3) ∧ s.flag ctSyncModeLocked then s.unplannedExit 2 else s

/-- SYNC_REF_EDGE: a rising edge, this many ns after the one before; closer than 50 ns clears REF_OK at once (R544). -/
def execSyncRefEdge (sinceLast : Nat) (s : State) : Host.Outcome State Fault Refusal :=
  .next (
    if !s.dieRuns then s
    else
      let s := { s with fb := { s.fb with refEdges := s.fb.refEdges + 1, refMissing := false } }.setFlag btInputsRefMissing false
      if sinceLast < 50 then s.refLost 5 s.fb.refEdges else s)

/-- SYNC_REF_WINDOW: a 10 ms window ends; in range from 99,990 to 100,010 edges; 10 in a row set REF_OK (R544). -/
def execSyncRefWindow (s : State) : Host.Outcome State Fault Refusal :=
  .next (
    if !s.dieRuns then s
    else
      let n := s.fb.refEdges
      let s := { s with fb := { s.fb with refEdges := 0 } }.setFld btInputsRefCount n
      if 99990 ≤ n ∧ n ≤ 100010 then
        let run := Nat.min 10 (s.fb.refRun + 1)
        let s := { s with fb := { s.fb with refRun := run } }
        if run = 10 ∧ !s.fb.refMissing then s.setRefOk true else s
      else s.refLost 5 n)

/-- SYNC_REF_MISSING: no rising edge for 500 ns (R544). -/
def execSyncRefMissing (s : State) : Host.Outcome State Fault Refusal :=
  .next (
    if !s.dieRuns then s
    else ({ s with fb := { s.fb with refMissing := true } }.setFlag btInputsRefMissing true).refLost 6 0)

/-! The fabric reference (R561). -/

/-- A fabric port loses its reference: it becomes DOWN (R394, R561, R571). One that is OFF, DISABLED or QUARANTINED stays so. -/
def State.portLost (s : State) (p : Nat) : State :=
  let st := s.fbState p
  if st = portUp then
    s.goDown p
  else if st = portTraining ∨ st = portIdent then (s.setPort p portDown).modFport p fun f => { f with retraining := false }
  else s

/-- FABRIC_REF_MISSING: the reference is absent or off for 10 µs: every port becomes DOWN, one NOTE record (R561). -/
def execFabricRefMissing (s : State) : Host.Outcome State Fault Refusal :=
  .next (
    if !s.dieRuns then s
    else if s.fb.fabRefLost then { s with fb := { s.fb with fabRefBack := false } }
    else
      let s := { s with fb := { s.fb with fabRefLost := true, fabRefBack := false } }
      ((List.range 8).foldl State.portLost s).inputRecord 9 1 11 0)

/-- FABRIC_REF_RESTORE: the reference has been good for 10 ms; the module changes back at the next boundary (R561). -/
def execFabricRefRestore (s : State) : Host.Outcome State Fault Refusal :=
  .next (if s.fb.fabRefLost then { s with fb := { s.fb with fabRefBack := true } } else s)

end Sys2Proof.Machine
end

