-- ==== Sys2Proof/Machine/Scrub.lean ====
section
/-! DEFINITION. Scrub of HBM, and what it reports to the shelver and to calibration (R206, R208, R272, R461). Log entries 27, 34. -/
namespace Sys2Proof.Machine
open Sys2Proof

/-- Words of a stack: 36 GiB of 64 bytes (R205). -/
def stackWords : Nat := 0x24000000

/-- The tile of a master area that holds an address (R235). -/
def State.masterTile (s : State) (a : Nat) : Option (Nat × Nat) :=
  (s.ctg.sections.find? fun x => decide (x.masterAddr ≤ a) && decide (a < x.masterAddr + x.tiles * tileBytes)).map fun x =>
    (x.sec, (a - x.masterAddr) / tileBytes)

/-- The volume and shard whose library copy holds an address (R248). -/
def State.libraryShard (s : State) (a : Nat) : Option (Nat × Nat) :=
  s.sh.vol.findSome? fun e =>
    match e.2.libFrames.findIdx? fun f => decide (f = a / 2 ^ 20) with
    | none => none
    | some j =>
      let o := j * 2 ^ 20 + a % 2 ^ 20
      (e.2.verified.find? fun i => decide (e.2.shardOff i ≤ o) && decide (o < e.2.shardOff i + (e.2.shards.getD i (0, 0)).1 + 64)).map fun i =>
        (e.1, i)

/-- A word found poisoned is reported (R208): a master copy or the library to the shelver, which restores it (R272); a calibration record to
calibration, which restores it (R461). -/
def State.reportWord (s : State) (a : Nat) : State :=
  if 0x30000000 ≤ a ∧ a < 0x30000000 + 0x3000 * 83232 then
    let n := (a - 0x30000000) / 0x3000
    (s.restoreRecord n).post (s.recCal n 3 (bitNat !(s.hasSnapshot n)))
  else match s.masterTile a with
    | some (sec, t) => s.wantRestore sec t
    | none => match s.libraryShard a with
      | some (h, i) => s.mendShard h i
      | none => s

/-- SCRUB: controller s reads the word at its scrub position, corrects or poisons it, and moves on (R206, R208). -/
def execScrub (i : Fin 16) (found : Option Upset) (s : State) : Host.Outcome State Fault Refusal :=
  .next (
    let pos := s.fld (seScrubPos i)
    let a := hbmAddr i (64 * pos)
    let u := match found with
      | some u => some u
      | none => tabFind s.mem.upset (a / 64)
    let part := match s.regionOf a with
      | some r => if 5 ≤ r.kind ∧ r.kind ≤ 8 then some r.owner else none
      | none => none
    let s := s.clearUpsets [a / 64]
    let s := match u with
      | none => s
      | some .corrected => s.hbmCorrected 5 a 0 part
      | some .uncorrectable => (s.hbmLost 5 a 0 part).reportWord a
    if pos + 1 = stackWords then (s.setFld (seScrubPos i) 0).incSat (seScrubPasses i) 1 else s.setFld (seScrubPos i) (pos + 1))

end Sys2Proof.Machine
end

