-- ==== Sys2Proof/Machine/Dispatch.lean ====
section
/-! DEFINITION. The dispatch of commands: one arm per constructor, each one direct call of a meaning. -/
namespace Sys2Proof.Machine
open Sys2Proof

/-- The effect of a command on everything but the queue. -/
def exec (i : Instr) (s : State) : Host.Outcome State Fault Refusal :=
  match i with
  | .tickBoundary => Sys2Proof.Machine.execTickBoundary s
  | .guardBand => Sys2Proof.Machine.execGuardBand s
  | .ld c dst base off agree => Sys2Proof.Machine.execLd c dst base off agree s
  | .st c src base off agree => Sys2Proof.Machine.execSt c src base off agree s
  | .cld c dst base off agree => Sys2Proof.Machine.execCld c dst base off agree s
  | .cst c src base off agree => Sys2Proof.Machine.execCst c src base off agree s
  | .blk c dir dst src len agree => Sys2Proof.Machine.execBlk c dir dst src len agree s
  | .ctl c rd base off agree => Sys2Proof.Machine.execCtl c rd base off agree s
  | .ctlw c rs base off agree => Sys2Proof.Machine.execCtlw c rs base off agree s
  | .scalarArithmetic c op rd ra b => Sys2Proof.Machine.execScalarArithmetic c op rd ra b s
  | .branch c op => Sys2Proof.Machine.execBranch c op s
  | .vectorArithmetic c op lane sat vd va vb => Sys2Proof.Machine.execVectorArithmetic c op lane sat vd va vb s
  | .vseal c gs gp vx a => Sys2Proof.Machine.execVseal c gs gp vx a s
  | .saddm c gd ga gb => Sys2Proof.Machine.execSaddm c gd ga gb s
  | .schk c gd ga gb gm => Sys2Proof.Machine.execSchk c gd ga gb gm s
  | .xphase c d => Sys2Proof.Machine.execXphase c d s
  | .xissue c j vec fmt res acc => Sys2Proof.Machine.execXissue c j vec fmt res acc s
  | .xsync c j => Sys2Proof.Machine.execXsync c j s
  | .xstat c rd j => Sys2Proof.Machine.execXstat c rd j s
  | .qpush c rd q src len tag => Sys2Proof.Machine.execQpush c rd q src len tag s
  | .qpop c rd q => Sys2Proof.Machine.execQpop c rd q s
  | .tsig c k n => Sys2Proof.Machine.execTsig c k n s
  | .twait c k n d => Sys2Proof.Machine.execTwait c k n d s
  | .tokenDeadline c => Sys2Proof.Machine.execTokenDeadline c s
  | .msend c e => Sys2Proof.Machine.execMsend c e s
  | .mcast c tree e => Sys2Proof.Machine.execMcast c tree e s
  | .gsend c e => Sys2Proof.Machine.execGsend c e s
  | .esub c rd desc => Sys2Proof.Machine.execEsub c rd desc s
  | .job c n => Sys2Proof.Machine.execJob c n s
  | .tmark c due => Sys2Proof.Machine.execTmark c due s
  | .tend c => Sys2Proof.Machine.execTend c s
  | .wait c => Sys2Proof.Machine.execWait c s
  | .csrr c rd csr => Sys2Proof.Machine.execCsrr c rd csr s
  | .csrw c csr rs => Sys2Proof.Machine.execCsrw c csr rs s
  | .productRelease x => Sys2Proof.Machine.execProductRelease x s
  | .reEvaluation x => Sys2Proof.Machine.execReEvaluation x s
  | .arbitration l engineOk => Sys2Proof.Machine.execArbitration l engineOk s
  | .calibrationStep x gap abandoned => Sys2Proof.Machine.execCalibrationStep x gap abandoned s
  | .slotOpen e addrAgree => Sys2Proof.Machine.execSlotOpen e addrAgree s
  | .transferLanding e => Sys2Proof.Machine.execTransferLanding e s
  | .spillSlot l => Sys2Proof.Machine.execSpillSlot l s
  | .returnsSlot l => Sys2Proof.Machine.execReturnsSlot l s
  | .qpushCopyComplete l q => Sys2Proof.Machine.execQpushCopyComplete l q s
  | .exactJobStart l => Sys2Proof.Machine.execExactJobStart l s
  | .exactJobComplete l faults => Sys2Proof.Machine.execExactJobComplete l faults s
  | .kvAppend stk => Sys2Proof.Machine.execKvAppend stk s
  | .attend stk => Sys2Proof.Machine.execAttend stk s
  | .gather stk => Sys2Proof.Machine.execGather stk s
  | .streamEngineFailure stk => Sys2Proof.Machine.execStreamEngineFailure stk s
  | .scrub stk found => Sys2Proof.Machine.execScrub stk found s
  | .hbmStackHot stk temp => Sys2Proof.Machine.execHbmStackHot stk temp s
  | .coreHardFailure c => Sys2Proof.Machine.execCoreHardFailure c s
  | .coreSubstitution c => Sys2Proof.Machine.execCoreSubstitution c s
  | .clusterFailure px py => Sys2Proof.Machine.execClusterFailure px py s
  | .placementDemand h => Sys2Proof.Machine.execPlacementDemand h s
  | .tileWriteComplete n passed => Sys2Proof.Machine.execTileWriteComplete n passed s
  | .shardVerify h shard received => Sys2Proof.Machine.execShardVerify h shard received s
  | .stagingTimeout h => Sys2Proof.Machine.execStagingTimeout h s
  | .twinWriteComplete x passed => Sys2Proof.Machine.execTwinWriteComplete x passed s
  | .driftReverify x pulsed reached => Sys2Proof.Machine.execDriftReverify x pulsed reached s
  | .masterRestore sec tile peer => Sys2Proof.Machine.execMasterRestore sec tile peer s
  | .adapterCopyComplete a received => Sys2Proof.Machine.execAdapterCopyComplete a received s
  | .shVolumeStateQuery acc v => Sys2Proof.Machine.execShVolumeStateQuery acc v s
  | .shLoanCountQuery acc v => Sys2Proof.Machine.execShLoanCountQuery acc v s
  | .shMapQuery acc v => Sys2Proof.Machine.execShMapQuery acc v s
  | .partialSwap acc part target => Sys2Proof.Machine.execPartialSwap acc part target s
  | .throttle acc arg target => Sys2Proof.Machine.execThrottle acc arg target s
  | .announceExit acc target => Sys2Proof.Machine.execAnnounceExit acc target s
  | .discard acc part => Sys2Proof.Machine.execDiscard acc part s
  | .partialCheckComplete => Sys2Proof.Machine.execPartialCheckComplete s
  | .hpDoorbell acc p k tail => Sys2Proof.Machine.execHpDoorbell acc p k tail s
  | .descriptorFetch p k d => Sys2Proof.Machine.execDescriptorFetch p k d s
  | .openRequest p => Sys2Proof.Machine.execOpenRequest p s
  | .append p => Sys2Proof.Machine.execAppend p s
  | .chunkReadComplete p k data => Sys2Proof.Machine.execChunkReadComplete p k data s
  | .generate p => Sys2Proof.Machine.execGenerate p s
  | .close p => Sys2Proof.Machine.execClose p s
  | .cancel p => Sys2Proof.Machine.execCancel p s
  | .volumeStage p => Sys2Proof.Machine.execVolumeStage p s
  | .volumePlace p => Sys2Proof.Machine.execVolumePlace p s
  | .volumeRelease p => Sys2Proof.Machine.execVolumeRelease p s
  | .adapterStage p => Sys2Proof.Machine.execAdapterStage p s
  | .adapterRelease p => Sys2Proof.Machine.execAdapterRelease p s
  | .catalogueStage src image => Sys2Proof.Machine.execCatalogueStage src image s
  | .outputRecordComplete svc n b j => Sys2Proof.Machine.execOutputRecordComplete svc n b j s
  | .hpCancel acc p k req => Sys2Proof.Machine.execHpCancel acc p k req s
  | .hpCplHead acc p k head => Sys2Proof.Machine.execHpCplHead acc p k head s
  | .ringEnable acc p k => Sys2Proof.Machine.execRingEnable acc p k s
  | .ringDisable acc p k => Sys2Proof.Machine.execRingDisable acc p k s
  | .portReset p kind => Sys2Proof.Machine.execPortReset p kind s
  | .flitReceive p f => Sys2Proof.Machine.execFlitReceive p f s
  | .nak p expect => Sys2Proof.Machine.execNak p expect s
  | .credit p cls vc n => Sys2Proof.Machine.execCredit p cls vc n s
  | .poolAdv p pool capacity withdraw => Sys2Proof.Machine.execPoolAdv p pool capacity withdraw s
  | .poolRet p pool cells => Sys2Proof.Machine.execPoolRet p pool cells s
  | .ident p m => Sys2Proof.Machine.execIdent p m s
  | .time p m => Sys2Proof.Machine.execTime p m s
  | .announce p module aseq action arg tgt => Sys2Proof.Machine.execAnnounce p module aseq action arg tgt s
  | .exit p module cause tgt => Sys2Proof.Machine.execExit p module cause tgt s
  | .ctick p module tick edges => Sys2Proof.Machine.execCtick p module tick edges s
  | .queuePacket p k => Sys2Proof.Machine.execQueuePacket p k s
  | .write p k => Sys2Proof.Machine.execWrite p k s
  | .readReq p k => Sys2Proof.Machine.execReadReq p k s
  | .readResp p k => Sys2Proof.Machine.execReadResp p k s
  | .shardReq p k => Sys2Proof.Machine.execShardReq p k s
  | .shardData p k => Sys2Proof.Machine.execShardData p k s
  | .shardNone p k => Sys2Proof.Machine.execShardNone p k s
  | .fabricSlotOpen p e => Sys2Proof.Machine.execFabricSlotOpen p e s
  | .replayTimeout p => Sys2Proof.Machine.execReplayTimeout p s
  | .trainingComplete p => Sys2Proof.Machine.execTrainingComplete p s
  | .retrainTimeout p => Sys2Proof.Machine.execRetrainTimeout p s
  | .identTimeout p => Sys2Proof.Machine.execIdentTimeout p s
  | .identResend p => Sys2Proof.Machine.execIdentResend p s
  | .timeSend p lt => Sys2Proof.Machine.execTimeSend p lt s
  | .ctickSend p edges => Sys2Proof.Machine.execCtickSend p edges s
  | .creditReturnTimer p => Sys2Proof.Machine.execCreditReturnTimer p s
  | .linkDown p => Sys2Proof.Machine.execLinkDown p s
  | .holdoverExpiry => Sys2Proof.Machine.execHoldoverExpiry s
  | .portDisable acc p disable => Sys2Proof.Machine.execPortDisable acc p disable s
  | .syncRefWindow => Sys2Proof.Machine.execSyncRefWindow s
  | .syncRefMissing => Sys2Proof.Machine.execSyncRefMissing s
  | .fabricRefMissing => Sys2Proof.Machine.execFabricRefMissing s
  | .fabricRefRestore => Sys2Proof.Machine.execFabricRefRestore s
  | .recordMirror => Sys2Proof.Machine.execRecordMirror s
  | .inErrHead acc rd => Sys2Proof.Machine.execInErrHead acc rd s
  | .resume acc part => Sys2Proof.Machine.execResume acc part s
  | .monitorMeasurement x sumSq => Sys2Proof.Machine.execMonitorMeasurement x sumSq s
  | .recalibration n theta codes refs q vxb indexOk => Sys2Proof.Machine.execRecalibration n theta codes refs q vxb indexOk s
  | .trimRecompute px py => Sys2Proof.Machine.execTrimRecompute px py s
  | .calibrationSnapshot => Sys2Proof.Machine.execCalibrationSnapshot s
  | .laneEyeMeasurement lane height width => Sys2Proof.Machine.execLaneEyeMeasurement lane height width s
  | .sensorSample counts => Sys2Proof.Machine.execSensorSample counts s
  | .fastClear => Sys2Proof.Machine.execFastClear s
  | .thermCapRise => Sys2Proof.Machine.execThermCapRise s
  | .critTimeout => Sys2Proof.Machine.execCritTimeout s
  | .surveyConversion code => Sys2Proof.Machine.execSurveyConversion code s
  | .svStart acc => Sys2Proof.Machine.execSvStart acc s
  | .svUrgent acc ch => Sys2Proof.Machine.execSvUrgent acc ch s
  | .overcurrentWatcher stage => Sys2Proof.Machine.execOvercurrentWatcher stage s
  | .budgetAverage meas => Sys2Proof.Machine.execBudgetAverage meas s
  | .pwDomainFreq acc d target => Sys2Proof.Machine.execPwDomainFreq acc d target s
  | .pwDomainVolt acc d target => Sys2Proof.Machine.execPwDomainVolt acc d target s
  | .regulatorRampDone d => Sys2Proof.Machine.execRegulatorRampDone d s
  | .stageTrip stage cause => Sys2Proof.Machine.execStageTrip stage cause s
  | .stageLockout stage millivolt => Sys2Proof.Machine.execStageLockout stage millivolt s
  | .clPstate acc l v => Sys2Proof.Machine.execClPstate acc l v s
  | .throtNChange low => Sys2Proof.Machine.execThrotNChange low s
  | .throtStuck => Sys2Proof.Machine.execThrotStuck s
  | .modRstAssert => Sys2Proof.Machine.execModRstAssert s
  | .modRstRelease => Sys2Proof.Machine.execModRstRelease s
  | .modRstHeld => Sys2Proof.Machine.execModRstHeld s
  | .powerOn => Sys2Proof.Machine.execPowerOn s
  | .bootStep ok => Sys2Proof.Machine.execBootStep ok s
  | .resetStart full => Sys2Proof.Machine.execResetStart full s
  | .getBoot m => Sys2Proof.Machine.execGetBoot m s
  | .setPlan m p => Sys2Proof.Machine.execSetPlan m p s
  | .readLog m first count => Sys2Proof.Machine.execReadLog m first count s
  | .getEvents m => Sys2Proof.Machine.execGetEvents m s
  | .setAlert m sev => Sys2Proof.Machine.execSetAlert m sev s
  | .setTime m seconds => Sys2Proof.Machine.execSetTime m seconds s
  | .getDebugNonce m => Sys2Proof.Machine.execGetDebugNonce m s
  | .setDebugToken m t => Sys2Proof.Machine.execSetDebugToken m t s
  | .revokeDebug m => Sys2Proof.Machine.execRevokeDebug m s
  | .resetModule m => Sys2Proof.Machine.execResetModule m s
  | .resetFull m => Sys2Proof.Machine.execResetFull m s
  | .debugTokenExpiry => Sys2Proof.Machine.execDebugTokenExpiry s
  | .mctpControl m command arg => Sys2Proof.Machine.execMctpControl m command arg s
  | .getTid m => Sys2Proof.Machine.execGetTid m s
  | .getPldmVersion m => Sys2Proof.Machine.execGetPldmVersion m s
  | .getPldmTypes m => Sys2Proof.Machine.execGetPldmTypes m s
  | .getPldmCommands m type => Sys2Proof.Machine.execGetPldmCommands m type s
  | .pdrRepository m => Sys2Proof.Machine.execPdrRepository m s
  | .getSensorReading m sensor => Sys2Proof.Machine.execGetSensorReading m sensor s
  | .getStateSensorReadings m sensor => Sys2Proof.Machine.execGetStateSensorReadings m sensor s
  | .requestUpdate m => Sys2Proof.Machine.execRequestUpdate m s
  | .passComponentTable m comps => Sys2Proof.Machine.execPassComponentTable m comps s
  | .updateComponent m comp size => Sys2Proof.Machine.execUpdateComponent m comp size s
  | .requestFirmwareData m data => Sys2Proof.Machine.execRequestFirmwareData m data s
  | .transferComplete m ok => Sys2Proof.Machine.execTransferComplete m ok s
  | .verifyComplete => Sys2Proof.Machine.execVerifyComplete s
  | .applyComplete => Sys2Proof.Machine.execApplyComplete s
  | .activateFirmware m => Sys2Proof.Machine.execActivateFirmware m s
  | .getStatus m => Sys2Proof.Machine.execGetStatus m s
  | .cancelUpdateComponent m => Sys2Proof.Machine.execCancelUpdateComponent m s
  | .cancelUpdate m => Sys2Proof.Machine.execCancelUpdate m s
  | .getMeasurements m => Sys2Proof.Machine.execGetMeasurements m s
  | .dbacc j5 a => Sys2Proof.Machine.execDbacc j5 a s
  | .extest j5 => Sys2Proof.Machine.execExtest j5 s
  | .clamp j5 => Sys2Proof.Machine.execClamp j5 s
  | .highz j5 => Sys2Proof.Machine.execHighz j5 s
  | .bypass j5 => Sys2Proof.Machine.execBypass j5 s
  | .idcode j5 => Sys2Proof.Machine.execIdcode j5 s
  | .samplePreload j5 => Sys2Proof.Machine.execSamplePreload j5 s
  | .dbgPrsntNChange low => Sys2Proof.Machine.execDbgPrsntNChange low s
  | .registerWrite acc off width v => Sys2Proof.Machine.execRegisterWrite acc off width v s
  | .stackFailure stk => Sys2Proof.Machine.execStackFailure stk s
  | .standbySupplyLoss => Sys2Proof.Machine.execStandbySupplyLoss s
  | .perstpNRelease p => Sys2Proof.Machine.execPerstpNRelease p s
  | .hostLinkUp p speed width => Sys2Proof.Machine.execHostLinkUp p speed width s
  | .syncRefEdge sinceLast => Sys2Proof.Machine.execSyncRefEdge sinceLast s
  | .throtUnstableClear => Sys2Proof.Machine.execThrotUnstableClear s
  | .keyEx m => Sys2Proof.Machine.execKeyEx m s
  | .manifestReadComplete h manifest => Sys2Proof.Machine.execManifestReadComplete h manifest s
  | .readbackComplete n matched => Sys2Proof.Machine.execReadbackComplete n matched s
  | .stagingBufferVerified c => Sys2Proof.Machine.execStagingBufferVerified c s
  | .reverifyOverdue x hours => Sys2Proof.Machine.execReverifyOverdue x hours s
  | .monitorOverdue x => Sys2Proof.Machine.execMonitorOverdue x s

end Sys2Proof.Machine
end

