-- ==== Sys2Proof/Machine/Step.lean ====
section
/-! DEFINITION. One step of the block: the command at the front of the queue, or, with none waiting, one nanosecond. -/
namespace Sys2Proof.Machine
open Sys2Proof

/-- With no command waiting, one nanosecond passes, within the tick (log entry 24). -/
def State.idleStep (s : State) : State :=
  if s.t + 1 ≤ s.tickNs then { s with t := s.t + 1, now := s.now + 1 } else s

/-- The command at the front of `pending` runs on the state with the rest of the queue. -/
def step (s : State) : Host.Outcome State Fault Refusal :=
  match s.pending with
  | [] => .next s.idleStep
  | c :: rest => exec c { s with pending := rest }

/-- The state with the command a word spells at the front of its queue; unchanged where the word spells none. -/
def State.withFetchWord (s : State) (nbits w : Nat) : State :=
  match decodeTableWord nbits w with
  | none => s
  | some c => { s with pending := c :: s.pending }

end Sys2Proof.Machine
end

