-- ==== Sys2Proof/Safety.lean ====
section
/-! DEFINITION. The terms in which claims about the module are stated: memory in its canonical form, the queue of commands, what a
run of commands must not do, a core that is ready to issue, and what a command leaves as it was. -/
namespace Sys2Proof.Machine
open Sys2Proof

/-- Memory is in canonical form: bytes and poison marks strictly rising by address with no entry at its default; check values and
upsets strictly rising. -/
def Memory.wf (m : Mem) : Bool := tabWf 0 m.bytes && tabWf false m.poison && tabRising 0 m.check && tabRising 0 m.upset

/-- The invariant every command keeps: memory is canonical. -/
def State.Inv (s : State) : Prop := Memory.wf s.mem = true

/-- Does no fatal severity hold: no MODULE_FATAL in force or to come, no partition that took PARTITION_FATAL in the tick (R448, R449)? -/
def State.unharmed (s : State) : Bool := !s.ig.moduleFatal && !s.ig.fatalNow && s.ig.partFatal.isEmpty

/-- A safe run of commands answers a next state for every one of them, canonical and unharmed throughout. -/
def SafeRun : State → List Instr → Prop
  | s, [] => s.Inv ∧ s.unharmed = true
  | s, c :: r => s.Inv ∧ s.unharmed = true ∧ ∃ t, exec c s = .next t ∧ SafeRun t r

/-- Core c issues its next instruction: it is executing, the address lies in its image, its instruction memory holds no bit error
in the word, and none of its crossbars is due to turn to its next product (R73, R114, R429, R573). -/
def State.ready (s : State) (c : Nat) : Prop :=
  (s.cs c).run = .executing ∧ (s.cs c).ia < (s.cs c).imgLen / 4 ∧ tabFind s.core.imemUpset (512 * c + 4 * (s.cs c).ia / 64) = none
    ∧ ∀ j : Fin 16, s.dueXb (coreXb c j) = s

/-- The state in which an instruction of core c acts: the address has moved on. -/
def State.fetched (s : State) (c : Nat) : State := s.modCore c fun k => { k with ia := k.ia + 1 }

/-- Core c's state after an instruction that does f to it: the address has moved on and f acts; a core whose address has left its image
issues nothing further in the tick and has its latch set (R573). -/
def State.moved (s : State) (c : Nat) (f : CoreSt → CoreSt) : CoreSt := (f { s.cs c with ia := (s.cs c).ia + 1 }).onward

/-- A core's state after a hard point reached n ns early: its slack is the least of the tick so far (R123, R126). -/
def CoreSt.slackTo (k : CoreSt) (n : Nat) : CoreSt :=
  { k with slack := some (match k.slack with | none => n | some x => Nat.min x n) }

/-- Everything outside the cores' registers, memories and states is as it was. -/
def sameButCores (s t : State) : Prop := { t with core := s.core } = s

/-- The cores' memories are as they were: data scratch with its poison marks, instruction memories and staging buffers. -/
def sameCoreMems (s t : State) : Prop :=
  t.core.scratch = s.core.scratch ∧ t.core.scratchPoison = s.core.scratchPoison ∧ t.core.imem = s.core.imem
    ∧ t.core.ibuf = s.core.ibuf

/-- Every register of every core is as it was, with its poison bit, but one of core c. -/
def sameRegsBut (s t : State) (c : Nat) (d : RegRef) : Prop :=
  (∀ c' r, ¬ (c' = c ∧ d = .g r) → t.gpr c' r = s.gpr c' r ∧ t.gprP c' r = s.gprP c' r)
    ∧ (∀ c' v, ¬ (c' = c ∧ d = .v v) → t.vr c' v = s.vr c' v ∧ t.vrP c' v = s.vrP c' v)

/-- Every register of every core is as it was, with its poison bit. -/
def sameRegs (s t : State) : Prop :=
  (∀ c r, t.gpr c r = s.gpr c r ∧ t.gprP c r = s.gprP c r) ∧ (∀ c v, t.vr c v = s.vr c v ∧ t.vrP c v = s.vrP c v)

/-- Of the cores' states only core c's has changed, and that to k. -/
def coreMoves (s t : State) (c : Nat) (k : CoreSt) : Prop := t.cs c = k ∧ ∀ c', c' ≠ c → t.cs c' = s.cs c'

/-- Only core c's state has changed, and that to k. -/
def onlyCore (s t : State) (c : Nat) (k : CoreSt) : Prop := coreMoves s t c k ∧ sameRegs s t ∧ sameCoreMems s t ∧ sameButCores s t

/-- Register d of core c holds the number v with poison bit p; g0 reads 0 whatever was written to it (R98). -/
def holds (t : State) (c : Nat) (d : RegRef) (v : Nat) (p : Bool) : Prop :=
  match d with
  | .g r => if r = 0 then t.gpr c r = 0 else t.gpr c r = BitVec.ofNat 64 v ∧ t.gprP c r = p
  | .v r => t.vr c r = BitVec.ofNat 256 v ∧ t.vrP c r = p

/-- A register-to-register instruction of core c: its result is in d, the address has moved on, all else is as it was. -/
def onlyResult (s t : State) (c : Nat) (d : RegRef) (v : Nat) (p : Bool) : Prop :=
  holds t c d v p ∧ sameRegsBut s t c d ∧ sameCoreMems s t ∧ coreMoves s t c (s.moved c id) ∧ sameButCores s t

/-- No bit error waits in the words of a range of cluster memory (R143). -/
def State.memClean (s : State) (a n : Nat) : Prop := ∀ w ∈ wordsOf a n, tabFind s.mem.upset w = none

/-- No bit error waits in the words of a range of a core's data scratch (R429). -/
def State.scratchClean (s : State) (c a n : Nat) : Prop := ∀ w ∈ wordsOf (65536 * c + a) n, tabFind s.core.scratchUpset w = none

/-- Every byte of data scratch outside n bytes from address a of core c's is as it was, and so are the instruction memories and staging
buffers. -/
def sameScratchBut (s t : State) (c a n : Nat) : Prop :=
  (∀ c' i : Nat, i < 65536 → ¬ (c' = c ∧ a ≤ i ∧ i < a + n) → t.scratch c' i 1 = s.scratch c' i 1)
    ∧ t.core.imem = s.core.imem ∧ t.core.ibuf = s.core.ibuf

/-- Every byte of memory outside n bytes from address a is as it was. -/
def sameMemoryBut (s t : State) (a n : Nat) : Prop := ∀ i, i < a ∨ a + n ≤ i → t.byte i = s.byte i

/-- Every register of control space is as it was. -/
def sameControlSpace (s t : State) : Prop := ∀ o, t.reg o = s.reg o

/-- Every register of control space but one is as it was. -/
def sameControlSpaceBut (s t : State) (o : Nat) : Prop := ∀ o', o' ≠ o → t.reg o' = s.reg o'

/-- A record of a severity, a kind and a job has been queued: WR has counted on, and the record's first word stands in its ring entry, or in
IN_ERR_LAST when that entry still held an unmirrored record (R443, R450). -/
def recordQueued (s t : State) (sev kind job : Nat) : Prop :=
  let n := s.fld inErrHeadWr
  let o := if s.entryHeld (n % 128) then inErrLastReg 0 else inErrRecordReg (4 * (n % 128))
  t.fld inErrHeadWr = (n + 1) % 2 ^ 32 ∧ bitsOf (t.reg o).toNat 29 3 = sev ∧ bitsOf (t.reg o).toNat 12 7 = kind
    ∧ bitsOf (t.reg o).toNat 0 12 = job

/-- The shelver has no work waiting: no substitution, replacement, twin or placement. -/
def State.noWork (s : State) : Prop := s.sh.subst = [] ∧ s.sh.replace = [] ∧ s.sh.twinWanted = [] ∧ s.sh.placing = []

/-- The command c at the head of stream engine i's queue is one of the current tick that a working engine performs, for an open slot of its
partition p, with a layer of the stream plan r (R215, R222, R223). -/
def State.streamHead (s : State) (i : Fin 16) (c : SeCmd) (rest : List SeCmd) (p : Nat) (r : StreamRec) : Prop :=
  s.seCmds i = c :: rest ∧ c.tick = s.tick ∧ tabGet false s.se.failed i = false ∧ c.bad = false ∧ c.late = false ∧ c.reservedZero = true
    ∧ s.partOf c.cluster = some p ∧ s.streamOf p = some r ∧ c.layer < r.layers ∧ c.slot < 256
    ∧ s.fld (seSlotStatPart i c.slot) = p ∧ s.fld (seSlotStatState i c.slot) = slotOpen

/-- The packet k, arriving last flit first accepted, is for this module, on an UP port of a module that is no bridge, and its check value holds
(R381, R382). -/
def State.delivers (s : State) (p : Fin 8) (k : Packet) : Prop :=
  s.fbUp p = true ∧ s.syncMode ≠ 3 ∧ k.dest = s.ownNumber p ∧ crc32c k.data = k.check

/-- Nothing but the custodian's last response has changed. -/
def sameButResponse (s t : State) : Prop := { t with cu := { t.cu with resp := s.cu.resp } } = s

end Sys2Proof.Machine
end

