-- ==== Sys2Proof/WellFormed.lean ====
section
/-! DEFINITION. Well-formed commands: every operand lies within the width or the range the spec gives it. An operand typed
Nat in `Syntax` because the model computes with it as a number is bounded here. `exec` is total: a command that is not well
formed is still given an effect, from the operands as they stand. -/
namespace Sys2Proof

/-- Is n a w-bit value? -/
def fits (w n : Nat) : Bool := decide (n < 2 ^ w)

/-- Is x a w-bit two's complement value? -/
def fitsSigned (w : Nat) (x : Int) : Bool := decide (-((2 ^ (w - 1) : Nat) : Int) ≤ x) && decide (x < ((2 ^ (w - 1) : Nat) : Int))

/-- Field widths of the packet header and its 1 to 4,096 data bytes, a poison bit for each 56 bytes (R378, R382). -/
def Packet.wf (k : Packet) : Bool :=
  fits 2 k.cls && fits 4 k.op && fits 4 k.dstPart && fits 12 k.dest && fits 12 k.src && fits 12 k.job && fits 15 k.pool
    && fits 16 k.tag && fits 16 k.tick && fits 40 k.offset && decide (1 ≤ k.data.length) && decide (k.data.length ≤ 4096)
    && decide (k.poison.length = (k.data.length + 55) / 56)

/-- Is it a packet of class c and operation o (R378)? -/
def Packet.isOp (k : Packet) (c o : Nat) : Bool := k.wf && decide (k.cls = c) && decide (k.op = o)

/-- Field widths of the flit header, at most 616 payload bytes with a POISON bit for each unit (R366). -/
def Flit.wf (f : Flit) : Bool :=
  fits 16 f.seq && fits 16 f.ack && fits 2 f.type && fits 2 f.cls && fits 1 f.vc && decide (f.payload.length ≤ 616)
    && decide (f.poison.length = (f.payload.length + 55) / 56)

/-- Field widths of IDENT (R377). -/
def Ident.wf (m : Ident) : Bool :=
  fits 12 m.module && fits 3 m.port && fits 2 m.sync && fits 16 m.domain && fits 8 m.kind && fits 8 m.amode && fits 16 m.tickUs
    && fits 8 m.x && fits 8 m.y && fits 8 m.z

/-- Field widths of TIME (R398). -/
def TimeMsg.wf (m : TimeMsg) : Bool :=
  fits 8 m.n && fits 8 m.nLast && fits 6 m.depth && fits 8 m.pri && fits 12 m.root && fits 64 m.tick && fitsSigned 16 m.cum
    && fits 16 m.tickUs

/-- Operation kinds of the scalar class that a conditional branch may use: comparisons (R100). -/
def ScalarOp.isCompare : ScalarOp → Bool
  | .eq | .ne | .lt | .ltu | .ge | .geu => true
  | .add | .sub | .mul | .and | .or | .xor | .shl | .shr | .sar => false

/-- A branch uses a comparison, and an instruction address lies in the 32 KiB instruction memory (R98, R100). -/
def BranchOp.wf : BranchOp → Bool
  | .cond c _ _ target => c.isCompare && fits 15 target
  | .jump target => fits 15 target
  | .jumpReg _ => true
  | .call _ target => fits 15 target
  | .callReg _ _ => true

/-- May the lane types meet: a conversion goes to another lane type (R102). -/
def VecOp.wf (lane : Lane) : VecOp → Bool
  | .cvt dst => decide (dst ≠ lane)
  | .add | .sub | .mul | .max | .min | .mac | .redSum | .redMax => true

/-- The time of a hard point or a deadline: ns of a tick of at most 1,000 µs (R123, R281). -/
def timeOk (t : Nat) : Bool := decide (t ≤ 1000000)

/-- An accessor reaches control space through a function of its port: a VF is numbered from 1 (R324, R325). -/
def Accessor.wf : Accessor → Bool
  | .custodian => true
  | .host _ => true
  | .vf _ fn => decide (fn.val ≠ 0)

/-- Is the operand of every field of the command within its range? -/
def Instr.wellFormed : Instr → Bool
  | .blk _ _ _ _ len _ => decide (len ≤ 8388608)
  | .branch _ op => op.wf
  | .vectorArithmetic _ op lane _ _ _ _ => op.wf lane
  | .qpush _ _ _ _ len _ => fits 16 len
  | .twait _ _ _ d => timeOk d
  | .tmark _ due => timeOk due
  | .exactJobComplete _ faults => faults.all fun f => fits 12 f.row && fits 12 f.col
  | .hbmStackHot _ temp => fitsSigned 16 temp
  | .credit _ _ _ n => fits 16 n
  | .poolAdv _ pool capacity _ => fits 15 pool && fits 32 capacity
  | .poolRet _ pool cells => fits 15 pool && fits 32 cells
  | .flitReceive _ f => f.wf
  | .ident _ m => m.wf
  | .time _ m => m.wf
  | .announce _ module aseq action arg tgt => fits 12 module && fits 32 aseq && fits 8 action && fits 16 arg && fits 64 tgt
  | .exit _ module cause tgt => fits 12 module && fits 8 cause && fits 64 tgt
  | .ctick _ module tick edges => fits 12 module && fits 32 tick && fits 16 edges
  | .queuePacket _ k => k.isOp 1 0
  | .write _ k => k.isOp 2 1
  | .readReq _ k => k.isOp 2 2
  | .readResp _ k => k.isOp 2 3
  | .shardReq _ k => k.isOp 3 1
  | .shardData _ k => k.isOp 3 2
  | .shardNone _ k => k.isOp 3 3
  | .ctickSend _ edges => fits 16 edges
  | .recalibration _ _ codes refs q _ _ => decide (codes.length = 528) && decide (refs.length = 8) && fits 8 q
  | .sensorSample counts => decide (counts.length = 304)
  | .readLog _ _ count => fits 16 count
  | .setAlert _ sev => fits 8 sev
  | .mctpControl _ command arg => fits 8 command && fits 8 arg
  | .getPldmCommands _ type => fits 8 type
  | .getSensorReading _ sensor => fits 16 sensor
  | .getStateSensorReadings _ sensor => fits 16 sensor
  | .updateComponent _ _ size => fits 32 size
  | .shVolumeStateQuery acc _ => acc.wf
  | .shLoanCountQuery acc _ => acc.wf
  | .shMapQuery acc _ => acc.wf
  | .partialSwap acc _ _ => acc.wf
  | .throttle acc _ _ => acc.wf
  | .announceExit acc _ => acc.wf
  | .discard acc _ => acc.wf
  | .hpDoorbell acc _ _ _ => acc.wf
  | .hpCancel acc _ _ _ => acc.wf
  | .hpCplHead acc _ _ _ => acc.wf
  | .ringEnable acc _ _ => acc.wf
  | .ringDisable acc _ _ => acc.wf
  | .portDisable acc _ _ => acc.wf
  | .inErrHead acc _ => acc.wf
  | .resume acc _ => acc.wf
  | .svStart acc => acc.wf
  | .svUrgent acc _ => acc.wf
  | .pwDomainFreq acc _ _ => acc.wf
  | .pwDomainVolt acc _ _ => acc.wf
  | .clPstate acc _ _ => acc.wf
  | .registerWrite acc off width _ => acc.wf && (decide (width = 4) || decide (width = 8)) && decide (off % width = 0) && fits 40 off
  | .tickBoundary | .guardBand | .ld .. | .st .. | .cld .. | .cst .. | .ctl .. | .ctlw .. | .scalarArithmetic ..
  | .vseal .. | .saddm .. | .schk .. | .xphase .. | .xissue .. | .xsync .. | .xstat .. | .qpop .. | .tsig ..
  | .tokenDeadline .. | .msend .. | .mcast .. | .gsend .. | .esub .. | .job .. | .tend .. | .wait .. | .csrr ..
  | .csrw .. | .productRelease .. | .reEvaluation .. | .arbitration .. | .calibrationStep .. | .slotOpen ..
  | .transferLanding .. | .spillSlot .. | .returnsSlot .. | .qpushCopyComplete .. | .exactJobStart .. | .kvAppend ..
  | .attend .. | .gather .. | .streamEngineFailure .. | .scrub .. | .coreHardFailure .. | .coreSubstitution ..
  | .clusterFailure .. | .placementDemand .. | .tileWriteComplete .. | .shardVerify .. | .stagingTimeout ..
  | .twinWriteComplete .. | .driftReverify .. | .masterRestore .. | .adapterCopyComplete .. | .partialCheckComplete
  | .descriptorFetch .. | .openRequest .. | .append .. | .chunkReadComplete .. | .generate .. | .close .. | .cancel ..
  | .volumeStage .. | .volumePlace .. | .volumeRelease .. | .adapterStage .. | .adapterRelease .. | .catalogueStage ..
  | .outputRecordComplete .. | .portReset .. | .nak .. | .fabricSlotOpen .. | .replayTimeout .. | .trainingComplete ..
  | .retrainTimeout .. | .identTimeout .. | .identResend .. | .timeSend .. | .creditReturnTimer .. | .linkDown ..
  | .holdoverExpiry | .syncRefWindow | .syncRefMissing | .fabricRefMissing | .fabricRefRestore | .recordMirror
  | .monitorMeasurement .. | .trimRecompute .. | .calibrationSnapshot | .laneEyeMeasurement .. | .fastClear
  | .thermCapRise | .critTimeout | .surveyConversion .. | .overcurrentWatcher .. | .budgetAverage ..
  | .regulatorRampDone .. | .stageTrip .. | .stageLockout .. | .throtNChange .. | .throtStuck | .modRstAssert
  | .modRstRelease | .modRstHeld | .powerOn | .bootStep .. | .resetStart .. | .getBoot .. | .setPlan .. | .getEvents ..
  | .setTime .. | .getDebugNonce .. | .setDebugToken .. | .revokeDebug .. | .resetModule .. | .resetFull ..
  | .debugTokenExpiry | .getTid .. | .getPldmVersion .. | .getPldmTypes .. | .pdrRepository .. | .requestUpdate ..
  | .passComponentTable .. | .requestFirmwareData .. | .transferComplete .. | .verifyComplete | .applyComplete
  | .activateFirmware .. | .getStatus .. | .cancelUpdateComponent .. | .cancelUpdate .. | .getMeasurements ..
  | .dbacc .. | .extest .. | .clamp .. | .highz .. | .bypass .. | .idcode .. | .samplePreload .. | .dbgPrsntNChange ..
  | .stackFailure .. | .standbySupplyLoss | .perstpNRelease .. | .hostLinkUp .. | .syncRefEdge .. | .throtUnstableClear
  | .keyEx .. | .manifestReadComplete .. | .readbackComplete .. | .stagingBufferVerified .. | .reverifyOverdue ..
  | .monitorOverdue .. => true

end Sys2Proof
end

