-- ==== Sys2Proof/Certificates/Slice0/Obligations.lean ====
section
/-! DEFINITION. The statements about the model, for the provers: each formalises what the rules its docstring names say. A statement
says of every command it names where the command runs and what state it leaves. -/
open Sys2Proof Sys2Proof.Machine

/-! The step, reset and the invariant. -/

/-- One step takes the command at the front of the queue and runs it on the state with the queue's rest. On an empty queue one nanosecond
passes within the tick and nothing else changes (the model's choice, log entry 24). -/
def Obligations.StepRunsFrontCommand : Prop :=
  (∀ (s : State) (c : Instr) (rest : List Instr), s.pending = c :: rest → step s = exec c { s with pending := rest })
    ∧ (∀ s : State, s.pending = [] → s.t < s.tickNs → step s = .next { s with t := s.t + 1, now := s.now + 1 })
    ∧ (∀ s : State, s.pending = [] → s.tickNs ≤ s.t → step s = .next s)

/-- Right after reset every register of control space holds the reset value of its heading, so the tick is 64 µs long and both
saturations of every exact engine are on; memory lists nothing and is canonical (that an unlisted byte reads 0 is the model's choice, log
entry 2), no core executes, no command waits (R12). -/
def Obligations.ResetHoldsHeadingValues : Prop :=
  (∀ o, State.reset.reg o = resetValue o) ∧ State.reset.mem.bytes = [] ∧ State.reset.Inv
    ∧ (∀ c, (State.reset.cs c).run = .off) ∧ State.reset.pending = []
    ∧ State.reset.fld ctTickLenUs = 64 ∧ (∀ l : ClusterId, State.reset.reg (xeModeReg l) = 3)

/-- The invariant: from any state whose memory is in canonical form, a step that answers a next state leaves memory in canonical form,
whatever the command (R43, R11). -/
def Obligations.EveryStepKeepsMemoryCanonical : Prop :=
  ∀ s t : State, s.Inv → step s = .next t → t.Inv

/-- No command adds to the queue of commands, takes from it or reorders it. -/
def Obligations.CommandsLeaveTheQueue : Prop :=
  ∀ (c : Instr) (s t : State), exec c s = .next t → t.pending = s.pending

/-! The core: scalar, vector, memory and control instructions. -/

/-- Scalar arithmetic wraps modulo 2^64, compares are signed and unsigned over 64 bits, shifts below 64 places shift; the result carries
its operands' poison; nothing else changes. What a shift by 64 or more places writes the spec leaves open (log entry 9) (R98, R100,
R109). -/
def Obligations.ScalarResultWrapsAndKeepsRest : Prop :=
  ∀ (s : State) (c : CoreId) (op : ScalarOp) (rd ra : GReg) (b : Src), s.ready c →
    ∃ t, exec (.scalarArithmetic c op rd ra b) s = .next t
      ∧ onlyResult s t c (.g rd) (scalarVal op (s.gpr c ra) (s.srcVal c b).1).toNat (s.gprP c ra || (s.srcVal c b).2)
      ∧ (∀ x y : W64,
          (scalarVal .add x y).toNat = (x.toNat + y.toNat) % 2 ^ 64
          ∧ (scalarVal .sub x y).toNat = (x.toNat + 2 ^ 64 - y.toNat) % 2 ^ 64
          ∧ (scalarVal .mul x y).toNat = (x.toNat * y.toNat) % 2 ^ 64
          ∧ (scalarVal .lt x y = 1 ↔ x.toInt < y.toInt) ∧ (scalarVal .ltu x y = 1 ↔ x.toNat < y.toNat)
          ∧ (scalarVal .ge x y = 1 ↔ y.toInt ≤ x.toInt) ∧ (scalarVal .geu x y = 1 ↔ y.toNat ≤ x.toNat)
          ∧ (scalarVal .eq x y = 1 ↔ x = y) ∧ (scalarVal .ne x y = 1 ↔ x ≠ y)
          ∧ (y.toNat < 64 → (scalarVal .shl x y).toNat = x.toNat * 2 ^ y.toNat % 2 ^ 64
              ∧ (scalarVal .shr x y).toNat = x.toNat / 2 ^ y.toNat ∧ (scalarVal .sar x y).toInt = x.toInt / (2 : Int) ^ y.toNat))

/-- A branch moves the address of the core's next instruction, a call also writes the return address; a condition or a target in a
poisoned register sets the poison latch and the core goes on. No other register, no memory and no control register changes (R100, R111,
R573). -/
def Obligations.BranchMovesTheCore : Prop :=
  ∀ (s : State) (c : CoreId), s.ready c →
    (∀ (p : ScalarOp) (a b : GReg) (target : Nat), s.gprP c a = false → s.gprP c b = false →
      ∃ t, exec (.branch c (.cond p a b target)) s = .next t
        ∧ onlyCore s t c (s.moved c fun k => if scalarVal p (s.gpr c a) (s.gpr c b) = 0 then k else { k with ia := target }))
    ∧ (∀ (p : ScalarOp) (a b : GReg) (target : Nat), s.gprP c a = true ∨ s.gprP c b = true →
      ∃ t, exec (.branch c (.cond p a b target)) s = .next t ∧ onlyCore s t c (s.moved c fun k => { k with latch := true }))
    ∧ (∀ (r : GReg), ∃ t, exec (.branch c (.jumpReg r)) s = .next t
        ∧ onlyCore s t c (s.moved c fun k => if s.gprP c r then { k with latch := true } else { k with ia := (s.gpr c r).toNat }))
    ∧ (∀ (target : Nat), ∃ t, exec (.branch c (.jump target)) s = .next t ∧ onlyCore s t c (s.moved c fun k => { k with ia := target }))
    ∧ (∀ (link : GReg) (target : Nat), ∃ t, exec (.branch c (.call link target)) s = .next t
        ∧ holds t c (.g link) ((s.cs c).ia + 1) false ∧ coreMoves s t c (s.moved c fun k => { k with ia := target })
        ∧ sameRegsBut s t c (.g link) ∧ sameCoreMems s t ∧ sameButCores s t)
    ∧ (∀ (link r : GReg), s.gprP c r = false → ∃ t, exec (.branch c (.callReg link r)) s = .next t
        ∧ holds t c (.g link) ((s.cs c).ia + 1) false ∧ coreMoves s t c (s.moved c fun k => { k with ia := (s.gpr c r).toNat })
        ∧ sameRegsBut s t c (.g link) ∧ sameCoreMems s t ∧ sameButCores s t)
    ∧ (∀ (link r : GReg), s.gprP c r = true → ∃ t, exec (.branch c (.callReg link r)) s = .next t
        ∧ onlyCore s t c (s.moved c fun k => { k with latch := true }))

/-- A vector instruction writes its destination, with the poison of the sources it reads, sets SAT where a saturating lane clamped, and
changes nothing else (R102, R109). -/
def Obligations.VectorWritesItsDestination : Prop :=
  ∀ (s : State) (c : CoreId) (op : VecOp) (lane : Lane) (sat : Bool) (vd va vb : VReg), s.ready c →
    let r := vectorVal op lane sat (s.vr c vd) (s.vr c va) (s.vr c vb)
    ∃ t, exec (.vectorArithmetic c op lane sat vd va vb) s = .next t
      ∧ t.vr c vd = r.1 ∧ t.vrP c vd = (s.vrP c va || ((vecReads op).1 && s.vrP c vb) || ((vecReads op).2 && s.vrP c vd))
      ∧ coreMoves s t c (s.moved c fun k => { k with sat := k.sat || r.2 })
      ∧ sameRegsBut s t c (.v vd) ∧ sameCoreMems s t ∧ sameButCores s t

/-- Integer lanes wrap to the lane type, or in a saturating variant take the nearest value of the lane type; a saturating operation reports
SAT exactly when a lane did not fit (stated of the add), a wrapping one never (R102). -/
def Obligations.IntegerLanesWrapOrSaturate : Prop :=
  ∀ (lane : Lane) (d a b : Vec256) (j : Nat), laneIsFp lane = false → j < laneCount lane →
    let w := laneBits lane
    let x := signed w (laneAt lane a j)
    let y := signed w (laneAt lane b j)
    let out (op : VecOp) (sat : Bool) : Int := signed w (laneAt lane (vectorVal op lane sat d a b).1 j)
    out .add false = wrapSigned w (x + y) ∧ out .sub false = wrapSigned w (x - y) ∧ out .mul false = wrapSigned w (x * y)
    ∧ out .add true = satSigned w (x + y) ∧ out .sub true = satSigned w (x - y) ∧ out .mul true = satSigned w (x * y)
    ∧ out .mac true = satSigned w (signed w (laneAt lane d j) + x * y)
    ∧ ((vectorVal .add lane true d a b).2 = true ↔
        ∃ i, i < laneCount lane ∧ satSigned w (signed w (laneAt lane a i) + signed w (laneAt lane b i))
          ≠ signed w (laneAt lane a i) + signed w (laneAt lane b i))
    ∧ (vectorVal .add lane false d a b).2 = false

/-- A load reads its bytes, least significant first, from data scratch or from the cluster's memory, and takes the poison mark of the
words it touches; nothing else changes. That the size of a load is that of its register is the model's reading (log entry 3) (R11, R98,
R99, R109). -/
def Obligations.LoadsReadTheirMemory : Prop :=
  ∀ (s : State) (c : CoreId) (dst : RegRef) (base : GReg) (off : W64) (a : Nat), s.ready c → s.gprP c base = false →
    effAddr (s.gpr c base) off = a →
    (a + regSize dst ≤ 65536 → s.scratchClean c a (regSize dst) →
      ∃ t, exec (.ld c dst base off true) s = .next t
        ∧ onlyResult s t c dst (leNat (s.scratch c a (regSize dst))) (s.scratchP c a (regSize dst)))
    ∧ (a + regSize dst ≤ 0x800000 → s.memClean (clMem (c.val / 32) + a) (regSize dst) →
      ∃ t, exec (.cld c dst base off true) s = .next t
        ∧ onlyResult s t c dst (leNat (s.bytes (clMem (c.val / 32) + a) (regSize dst)))
            (s.anyPoison (clMem (c.val / 32) + a) (regSize dst)))

/-- A store writes its register's bytes, least significant first, at base + offset; every other byte keeps its value; the words it
touches carry the poison mark when the register is poisoned or the core's latch is set; registers, control space and the other memories
are as they were. A store aimed at the cell pool is not performed: it sets the latch, no memory and no register changes, and the core
goes on. The size of a store is that of its register (log entry 3) (R99, R109, R111, R145). -/
def Obligations.StoresWriteTheirMemory : Prop :=
  ∀ (s : State) (c : CoreId) (src : RegRef) (base : GReg) (off : W64), s.ready c → s.gprP c base = false →
    ∀ a : Nat, effAddr (s.gpr c base) off = a →
    (a + regSize src ≤ 65536 →
      ∃ t, exec (.st c src base off true) s = .next t
        ∧ t.scratch c a (regSize src) = s.regBytes c src ∧ sameScratchBut s t c a (regSize src)
        ∧ (s.regP c src = true ∨ (s.cs c).latch = true → t.scratchP c a (regSize src) = true)
        ∧ sameRegs s t ∧ coreMoves s t c (s.moved c id) ∧ sameButCores s t)
    ∧ (a + regSize src ≤ 0x800000 → s.aimsPool (c.val / 32) a (regSize src) = false →
      ∃ t, exec (.cst c src base off true) s = .next t
        ∧ t.bytes (clMem (c.val / 32) + a) (regSize src) = s.regBytes c src
        ∧ sameMemoryBut s t (clMem (c.val / 32) + a) (regSize src)
        ∧ (s.regP c src = true ∨ (s.cs c).latch = true → t.anyPoison (clMem (c.val / 32) + a) (regSize src) = true)
        ∧ sameRegs s t ∧ sameCoreMems s t ∧ coreMoves s t c (s.moved c id) ∧ sameControlSpace s t)
    ∧ (a + regSize src ≤ 0x800000 → s.aimsPool (c.val / 32) a (regSize src) = true →
      ∃ t, exec (.cst c src base off true) s = .next t ∧ t.mem = s.mem ∧ coreMoves s t c (s.moved c fun k => { k with latch := true })
        ∧ sameRegs s t ∧ sameCoreMems s t)

/-- BLK copies len bytes between cluster memory and data scratch and changes no other byte, register or control register; the words it
writes carry the poison mark when a word it read did or the latch is set. With a poisoned address register, an end outside its memory or a
destination in the cell pool it moves nothing: it sets the latch and the core goes on (R99, R101, R109, R111, R145). -/
def Obligations.BlockMoveCopiesBytes : Prop :=
  ∀ (s : State) (c : CoreId) (dst src : GReg) (len : Nat), s.ready c →
    let m := clMem (c.val / 32)
    let a := (s.gpr c src).toNat
    let b := (s.gpr c dst).toNat
    let moves (t : State) : Prop := coreMoves s t c (s.moved c id)
    let refused (dir : BlkDir) : Prop := ∃ t, exec (.blk c dir dst src len true) s = .next t ∧ t.mem = s.mem
      ∧ coreMoves s t c (s.moved c fun k => { k with latch := true }) ∧ sameRegs s t ∧ sameCoreMems s t
    (s.gprP c src = false → s.gprP c dst = false →
      (a + len ≤ 0x800000 → b + len ≤ 65536 → s.memClean (m + a) len →
        ∃ t, exec (.blk c .toScratch dst src len true) s = .next t
          ∧ t.scratch c b len = s.bytes (m + a) len ∧ sameScratchBut s t c b len
          ∧ (0 < len → s.anyPoison (m + a) len = true ∨ (s.cs c).latch = true → t.scratchP c b len = true)
          ∧ sameRegs s t ∧ moves t ∧ sameButCores s t)
      ∧ (a + len ≤ 65536 → b + len ≤ 0x800000 → s.scratchClean c a len → s.aimsPool (c.val / 32) b len = false →
        ∃ t, exec (.blk c .toCluster dst src len true) s = .next t
          ∧ t.bytes (m + b) len = s.scratch c a len ∧ sameMemoryBut s t (m + b) len
          ∧ (0 < len → s.scratchP c a len = true ∨ (s.cs c).latch = true → t.anyPoison (m + b) len = true)
          ∧ sameRegs s t ∧ sameCoreMems s t ∧ moves t ∧ sameControlSpace s t)
      ∧ (0x800000 < a + len ∨ 65536 < b + len → refused .toScratch)
      ∧ (65536 < a + len ∨ 0x800000 < b + len ∨ s.aimsPool (c.val / 32) b len = true → refused .toCluster))
    ∧ (s.gprP c src = true ∨ s.gprP c dst = true → ∀ dir, refused dir)

/-- CTL reads a register of the cluster's own window; CTLW writes it bit by bit as the access types say: an RW bit takes the value, a 1
clears a W1C bit, an RWT bit reads back at once and stays in force until the boundary, every other bit keeps its value; no other register
changes. CL_PSTATE is another statement (R12, R13, R15, R99, R101). -/
def Obligations.ControlAccessFollowsAccessTypes : Prop :=
  ∀ (s : State) (c : CoreId) (r base : GReg) (off : W64) (a : Nat), s.ready c → s.gprP c base = false →
    effAddr (s.gpr c base) off = a → a + 8 ≤ 0x10000 → a % 8 = 0 →
    (∃ t, exec (.ctl c r base off true) s = .next t
      ∧ onlyResult s t c (.g r) (s.readReg (clBase (c.val / 32) + a)).toNat false)
    ∧ (∀ d, clBase (c.val / 32) + a ≠ clPstateReg (c.val / 32) → regAt (clBase (c.val / 32) + a) = some d →
      d.rwl = 0 → d.rw &&& d.w1c = 0 → d.rw &&& d.rwt = 0 → d.w1c &&& d.rwt = 0 →
      ∃ t, exec (.ctlw c r base off true) s = .next t
        ∧ (∀ i, i < 64 → (t.reg (clBase (c.val / 32) + a)).getLsbD i =
            (if d.rw.testBit i then (s.gpr c r).getLsbD i
             else if d.w1c.testBit i then (s.reg (clBase (c.val / 32) + a)).getLsbD i && !(s.gpr c r).getLsbD i
             else (s.reg (clBase (c.val / 32) + a)).getLsbD i))
        ∧ (∀ i, i < 64 → d.rwt.testBit i = true → d.wo.testBit i = false → clBase (c.val / 32) + a ≠ ctTickNowReg →
            (t.readReg (clBase (c.val / 32) + a)).getLsbD i = (s.gpr c r).getLsbD i)
        ∧ sameControlSpaceBut s t (clBase (c.val / 32) + a) ∧ sameRegs s t ∧ sameCoreMems s t ∧ t.mem = s.mem
        ∧ coreMoves s t c (s.moved c id))

/-- The seal instructions: VSEAL accumulates lane by lane with the powers of the tick's key modulo 2^61 − 1 and leaves the running seal
and power in its registers; SADDM adds modulo 2^61 − 1; SCHK answers 1 for equal seals and 0 for unequal ones, and for unequal ones that
are not poisoned sets the poison latch and counts a mismatch. Which register is written last is the model's choice (log entry 15) (R437, R439). -/
def Obligations.SealInstructionsCompute : Prop :=
  ∀ (s : State) (c : CoreId), s.ready c →
    (∀ (gs gp : GReg) (vx : VReg) (a : BitVec 2),
      let r := vsealVal (s.keyAgo a.toNat) (s.gpr c gs).toNat (s.gpr c gp).toNat (s.vr c vx)
      let p := s.vrP c vx || s.gprP c gp || s.gprP c gs
      ∃ t, exec (.vseal c gs gp vx a) s = .next t
        ∧ holds t c (.g gp) r.2 p ∧ (gs ≠ gp → holds t c (.g gs) r.1 p)
        ∧ (∀ c' r, ¬ (c' = c.val ∧ (r = gs ∨ r = gp)) → t.gpr c' r = s.gpr c' r ∧ t.gprP c' r = s.gprP c' r)
        ∧ (∀ c' v, t.vr c' v = s.vr c' v ∧ t.vrP c' v = s.vrP c' v)
        ∧ coreMoves s t c (s.moved c fun k => { k with ktick := (s.tick - a.toNat) % 65536 }) ∧ sameCoreMems s t ∧ sameButCores s t)
    ∧ (∀ gd ga gb : GReg, ∃ t, exec (.saddm c gd ga gb) s = .next t
        ∧ onlyResult s t c (.g gd) (((s.gpr c ga).toNat + (s.gpr c gb).toNat) % (2 ^ 61 - 1)) (s.gprP c ga || s.gprP c gb))
    ∧ (∀ gd ga gb gm : GReg,
        let p := s.gprP c ga || s.gprP c gb || s.gprP c gm
        s.gpr c ga = s.gpr c gb ∨ p = true →
        ∃ t, exec (.schk c gd ga gb gm) s = .next t
          ∧ onlyResult s t c (.g gd) (if s.gpr c ga = s.gpr c gb then 1 else 0) p)
    ∧ (∀ gd ga gb gm : GReg, s.gpr c ga ≠ s.gpr c gb → s.gprP c ga = false → s.gprP c gb = false → s.gprP c gm = false →
        ∃ t, exec (.schk c gd ga gb gm) s = .next t ∧ holds t c (.g gd) 0 false
          ∧ coreMoves s t c (s.moved c fun k => { k with latch := true }) ∧ sameRegsBut s t c (.g gd) ∧ sameCoreMems s t ∧ t.mem = s.mem
          ∧ t.fld inSealStatMismatches = min (s.fld inSealStatMismatches + 1) (2 ^ inSealStatMismatches.w - 1))

/-- Seals of shards add up: the seal of an element-wise sum of two lane vectors, from the same power, is the sum modulo 2^61 − 1 of the
seals of the two, where no lane of the sum leaves the INT32 range (R437, R439). -/
def Obligations.SealsOfShardsAddUp : Prop :=
  ∀ (k g1 g2 p : Nat) (x y z : Vec256),
    (∀ j, j < 8 → signed 32 (laneAt .i32 z j) = signed 32 (laneAt .i32 x j) + signed 32 (laneAt .i32 y j)) →
    (vsealVal k ((g1 + g2) % sealP) p z).1 = ((vsealVal k g1 p x).1 + (vsealVal k g2 p y).1) % sealP
      ∧ (vsealVal k ((g1 + g2) % sealP) p z).2 = (vsealVal k g1 p x).2

/-- The plain state instructions: XPHASE sets D, CSRR reads a core-visible register, XSTAT returns LAST_N, SUSPECT and TWINNED at bits
52:48, 5 and 4, CSRW clears SAT by a 1 in CS_FLAGS and is otherwise ignored, JOB sets CS_JOB and clears the latch when the job changes,
XSYNC holds the core while the crossbar has anything in conversion, queued, unreleased or held. Nothing else changes. Numbers of the
core-visible registers: log entry 14 (R103, R106, R111, R118, R136). -/
def Obligations.CoreStateInstructions : Prop :=
  ∀ (s : State) (c : CoreId), s.ready c →
    (∀ d : BitVec 2, ∃ t, exec (.xphase c d) s = .next t ∧ onlyCore s t c (s.moved c fun k => { k with phase := d }))
    ∧ (∀ (rd : GReg) (csr : BitVec 12), ∃ t, exec (.csrr c rd csr) s = .next t
      ∧ onlyResult s t c (.g rd) (s.csrVal c csr.toNat) false)
    ∧ (∀ (rd : GReg) (j : Fin 16), ∃ t, exec (.xstat c rd j) s = .next t
      ∧ onlyResult s t c (.g rd) (s.fld (xbUsageLastN (c.val / 32) (16 * (c.val % 32) + j)) * 2 ^ 48
          + s.fld (xbStatSuspect (c.val / 32) (16 * (c.val % 32) + j)) * 2 ^ 5
          + s.fld (xbStatTwinned (c.val / 32) (16 * (c.val % 32) + j)) * 2 ^ 4) false)
    ∧ (∀ (csr : BitVec 12) (rs : GReg), ∃ t, exec (.csrw c csr rs) s = .next t
      ∧ onlyCore s t c (s.moved c fun k => { k with sat := k.sat && !(decide (csr = 8) && (s.gpr c rs).getLsbD 1) }))
    ∧ (∀ n : BitVec 12, ∃ t, exec (.job c n) s = .next t
      ∧ onlyCore s t c (s.moved c fun k => { k with
          job := n
          latch := k.latch && decide (k.job = n)
          entered := if n.toNat ∈ k.entered then k.entered else k.entered ++ [n.toNat] }))
    ∧ (∀ j : Fin 16, ∃ t, exec (.xsync c j) s = .next t
      ∧ onlyCore s t c (s.moved c fun k =>
          if (s.xrun (coreXb c j)).conv = none ∧ (s.xrun (coreXb c j)).queued = none ∧ (s.xrun (coreXb c j)).out = none
              ∧ ¬ ((s.xrun (coreXb c j)).held ≠ none ∧ (s.xrun (coreXb c j)).heldLast = true)
          then k else { k with run := .waiting (.xsync (coreXb c j)) }))

/-- Without a job nothing is issued: a transfer, a queue operation, an array issue or an engine submission while CS_JOB is 0 is not
performed; the core's latch is set, no register or memory changes, and the core goes on (R118). -/
def Obligations.NoJobNoOperation : Prop :=
  ∀ (s : State) (c : CoreId) (i : Instr), s.ready c → (s.cs c).job = 0 →
    ((∃ e, i = .msend c e) ∨ (∃ e, i = .gsend c e) ∨ (∃ tr e, i = .mcast c tr e) ∨ (∃ rd q, i = .qpop c rd q)
      ∨ (∃ rd q src len tag, i = .qpush c rd q src len tag) ∨ (∃ j v f r a, i = .xissue c j v f r a)
      ∨ (∃ rd d, i = .esub c rd d)) →
    ∃ t, exec i s = .next t ∧ coreMoves s t c (s.moved c fun k => { k with latch := true })
      ∧ sameRegs s t ∧ sameCoreMems s t ∧ t.mem = s.mem ∧ t.cl = s.cl ∧ t.xb = s.xb

/-! The core: array, queue, token, transfer and timing instructions. -/

/-- XISSUE: on an idle crossbar the product starts at the time of the issue, with its vector latched from data scratch, B reserved
periods (slices times D) and one more product counted; behind a product in conversion it is queued; behind a queued one it stalls the
core. No register and no memory changes (R72, R73, R104). -/
def Obligations.ArrayIssueStartsQueuesOrStalls : Prop :=
  ∀ (s : State) (c : CoreId) (j : Fin 16) (vec : GReg) (fmt : InFmt) (res : GReg) (acc : Bool),
    s.ready c → (s.cs c).job ≠ 0 → s.gprP c vec = false → s.gprP c res = false →
    (s.gpr c vec).toNat + vecBytes fmt ≤ 65536 → (s.gpr c res).toNat + 4 * weightCols (s.slotPrec (coreXb c j)) ≤ 65536 →
    s.scratchClean c (s.gpr c vec).toNat (vecBytes fmt) →
    let x := coreXb c j
    let isNew (p : Product) : Prop :=
      p.core = c ∧ p.job = (s.cs c).job.toNat ∧ p.fmt = fmt ∧ p.vecAddr = (s.gpr c vec).toNat ∧ p.res = (s.gpr c res).toNat
        ∧ p.acc = acc ∧ p.t0 = s.t ∧ p.reserved = sliceCount fmt * ((s.cs c).phase.toNat + 1)
    ∃ t, exec (.xissue c j vec fmt res acc) s = .next t
      ∧ t.fld (xbUsageProducts (xbCluster x) (xbSlot x)) = (s.fld (xbUsageProducts (xbCluster x) (xbSlot x)) + 1) % 2 ^ 32
      ∧ sameRegs s t ∧ t.mem = s.mem ∧ t.core.scratch = s.core.scratch
      ∧ ((s.xrun x).conv = none →
          ∃ p, (t.xrun x).conv = some p ∧ isNew p ∧ p.vec = s.scratch c (s.gpr c vec).toNat (vecBytes fmt)
            ∧ coreMoves s t c (s.moved c id))
      ∧ ((s.xrun x).conv ≠ none → (s.xrun x).queued = none →
          ∃ p, t.xrun x = { s.xrun x with queued := some p } ∧ isNew p ∧ coreMoves s t c (s.moved c id))
      ∧ ((s.xrun x).conv ≠ none → (s.xrun x).queued ≠ none →
          ∃ p, t.xrun x = { s.xrun x with stalled := some p } ∧ isNew p
            ∧ coreMoves s t c (s.moved c fun k => { k with run := .waiting (.xissue x) }))

/-- QPOP returns the oldest notice of a queue of the core's cluster and removes it, or a word of all zeros when there is none; it never
waits (R107). -/
def Obligations.PopReturnsTheOldestNotice : Prop :=
  ∀ (s : State) (c : CoreId) (rd : GReg) (q : Fin 512), s.ready c → (s.cs c).job ≠ 0 →
    ((s.queue (c.val / 32) q).notices = [] →
      ∃ t, exec (.qpop c rd q) s = .next t ∧ onlyResult s t c (.g rd) 0 false)
    ∧ (∀ w rest, (s.queue (c.val / 32) q).notices = w :: rest →
      ∃ t, exec (.qpop c rd q) s = .next t ∧ holds t c (.g rd) w.toNat false
        ∧ (t.queue (c.val / 32) q).notices = rest ∧ (∀ l' q', ¬ (l' = c.val / 32 ∧ q' = q.val) → q' < 512 → t.queue l' q' = s.queue l' q')
        ∧ coreMoves s t c (s.moved c id) ∧ sameRegsBut s t c (.g rd) ∧ sameCoreMems s t ∧ t.mem = s.mem ∧ sameControlSpace s t)

/-- QPUSH never waits: a length of 0 or above 4,096 answers 0 and sets the latch; a queue not in use or without room answers 0 and
nothing else changes; otherwise the packet's cells are taken from the head of the free list, where they read without a poison mark, the
packet is arriving with the queue's next SEQ and the source's bytes as they stand, and the answer has bit 63 set (when the source is read:
log entry 93) (R108, R147, R151, R152, R156). -/
def Obligations.PushIsAcceptedOrRefused : Prop :=
  ∀ (s : State) (c : CoreId) (rd : GReg) (q : Fin 512) (src : GReg) (len : Nat) (tag : BitVec 16),
    s.ready c → (s.cs c).job ≠ 0 → s.gprP c src = false →
    let l := c.val / 32
    ((len = 0 ∨ 4096 < len) →
      ∃ t, exec (.qpush c rd q src len tag) s = .next t ∧ holds t c (.g rd) 0 false ∧ sameRegsBut s t c (.g rd) ∧ t.cl = s.cl
        ∧ coreMoves s t c (s.moved c fun k => { k with latch := true }) ∧ t.mem = s.mem)
    ∧ (len ≠ 0 → len ≤ 4096 → (s.gpr c src).toNat + len ≤ 65536 →
      (s.flag (qmQcfgEn l q) = false ∨ s.noRoom l q (cellsOf len) false = true) →
      ∃ t, exec (.qpush c rd q src len tag) s = .next t ∧ onlyResult s t c (.g rd) 0 false)
    ∧ (len ≠ 0 → len ≤ 4096 → (s.gpr c src).toNat + len ≤ 65536 → s.flag (qmQcfgEn l q) = true →
      s.noRoom l q (cellsOf len) false = false → s.scratchClean c (s.gpr c src).toNat len →
      ∃ t, exec (.qpush c rd q src len tag) s = .next t ∧ holds t c (.g rd) (2 ^ 63) false ∧ sameRegsBut s t c (.g rd)
        ∧ (t.pool l).free = (s.pool l).free.drop (cellsOf len)
        ∧ (∀ x ∈ (s.pool l).free.take (cellsOf len), tabGet false t.mem.poison (s.cellAddr l x / 64) = false)
        ∧ (∃ a, (t.queue l q).arriving = some a ∧ a.pkt.cells = (s.pool l).free.take (cellsOf len)
            ∧ a.pkt.seq = s.fld (qmQstatNextSeq l q) ∧ a.pkt.len = len ∧ a.pkt.tag = tag.toNat ∧ a.push = true
            ∧ a.data = s.scratch c (s.gpr c src).toNat len)
        ∧ coreMoves s t c (s.moved c id) ∧ t.mem.bytes = s.mem.bytes)

/-- The end of the copy of an accepted QPUSH ends the arrival: the packet is the queue's last, and its FULL or TAIL notice, with its
declared length, first cell and SEQ, is the queue's last notice (R152, R154, R155). -/
def Obligations.PushCopyPostsItsNotice : Prop :=
  ∀ (s : State) (l : ClusterId) (q : Fin 512) (a : QArrival), (s.queue l q).arriving = some a → a.push = true →
    a.pkt.len ≤ a.data.length →
    ∃ (t : State) (w : W64) (p : QPacket), exec (.qpushCopyComplete l q) s = .next t
      ∧ (t.queue l q).arriving = none
      ∧ (t.queue l q).pkts = (s.queue l q).pkts ++ [p] ∧ p.seq = a.pkt.seq ∧ p.cells = a.pkt.cells ∧ p.len = a.pkt.len
      ∧ (t.queue l q).notices.getLast? = some w
      ∧ bitsOf w.toNat 63 1 = 1 ∧ (bitsOf w.toNat 60 3 = 1 ∨ bitsOf w.toNat 60 3 = 3)
      ∧ bitsOf w.toNat 45 13 = a.pkt.len % 2 ^ 13 ∧ bitsOf w.toNat 30 15 = a.pkt.cells.getD 0 0 % 2 ^ 15
      ∧ bitsOf w.toNat 0 14 = a.pkt.seq % 2 ^ 14

/-- TSIG adds n to a token counter of the core's own cluster; COUNT saturates at 0xFFFF; POISON and every other register stay (R119). -/
def Obligations.SignalAddsAndSaturates : Prop :=
  ∀ (s : State) (c : CoreId) (k : Fin 256) (n : BitVec 16), s.ready c →
    ∃ t, exec (.tsig c k n) s = .next t
      ∧ t.fld (clTokenCount (c.val / 32) k) = min (s.fld (clTokenCount (c.val / 32) k) + n.toNat) 0xFFFF
      ∧ t.flag (clTokenPoison (c.val / 32) k) = s.flag (clTokenPoison (c.val / 32) k)
      ∧ sameControlSpaceBut s t (clTokenCount (c.val / 32) k).off ∧ sameRegs s t ∧ sameCoreMems s t ∧ t.mem = s.mem

/-- A signal that arrives as poisoned data or as a stand-in adds to COUNT as usual and also sets the counter's POISON flag (R121). -/
def Obligations.PoisonedSignalSetsPoison : Prop :=
  ∀ (s : State) (l : ClusterId) (k : Fin 256) (n : Nat),
    (s.signal l k n true).fld (clTokenCount l k) = min (s.fld (clTokenCount l k) + n) 0xFFFF
      ∧ (s.signal l k n true).flag (clTokenPoison l k) = true
      ∧ (s.signal l k n false).fld (clTokenCount l k) = min (s.fld (clTokenCount l k) + n) 0xFFFF
      ∧ (s.signal l k n false).flag (clTokenPoison l k) = s.flag (clTokenPoison l k)

/-- TWAIT goes on at once when the count has been reached, setting the latch if the counter's POISON is set; otherwise it waits, and when
CS_TTIME passes its deadline it completes there with a TOKEN_DEADLINE overrun of its job and its latch set, and the core goes on (R120,
R126). -/
def Obligations.TokenWaitCompletesOrExpires : Prop :=
  ∀ (s : State) (c : CoreId) (k : Fin 256) (n : BitVec 16) (d : Nat),
    (s.ready c → s.t ≤ d → n.toNat ≤ s.fld (clTokenCount (c.val / 32) k) →
      ∃ t, exec (.twait c k n d) s = .next t
        ∧ onlyCore s t c (s.moved c fun x => { x with latch := x.latch || s.flag (clTokenPoison (c.val / 32) k) }))
    ∧ (s.ready c → s.t ≤ d → s.fld (clTokenCount (c.val / 32) k) < n.toNat →
      ∃ t, exec (.twait c k n d) s = .next t ∧ onlyCore s t c (s.moved c fun x => { x with run := .waiting (.twait k n.toNat d) }))
    ∧ (∀ m, (s.cs c).run = .waiting (.twait k m d) → d + 1000 ≤ s.tickNs →
      ∃ t r, exec (.tokenDeadline c) s = .next t ∧ (t.cs c).run = (CoreSt.onward { s.cs c with run := .executing }).run
        ∧ (t.cs c).ia = (s.cs c).ia ∧ (t.cs c).latch = true ∧ t.t = max s.t d ∧ sameRegs s t ∧ sameCoreMems s t ∧ t.mem = s.mem
        ∧ t.cl.overruns = (c.val, 2, (s.cs c).job.toNat) :: r)

/-- MSEND, GSEND and MCAST post the readiness of the entry's transfer and move no data themselves: an entry of the core's cluster, job
and kind that has neither opened nor passed its start is noted as posted with the core's latch, and the core's slack to the start is kept
(R123, R132, R133, R134). -/
def Obligations.TransferInstructionsPostReadiness : Prop :=
  ∀ (s : State) (c : CoreId) (r : SlotRec), s.ready c → (s.cs c).job ≠ 0 → s.slotRec r.entry = some r →
    slotPoster r = some (c.val / 32) → r.job = (s.cs c).job.toNat → s.owns r.part (c.val / 32) = true →
    r.entry ∉ s.cl.opened → s.t ≤ r.start →
    ∀ i : Instr, (i = .msend c r.entry ∧ r.kind = 1) ∨ (i = .gsend c r.entry ∧ (r.kind = 2 ∨ r.kind = 3))
      ∨ (∃ tr m, i = .mcast c tr r.entry ∧ r.kind = 4 ∧ r.tree = tr.val
          ∧ s.ctg.mcasts.find? (fun m => decide (m.tree = tr.val)) = some m ∧ m.lead = c.val / 32) →
    ∃ t, exec i s = .next t
      ∧ onlyCore s t c (s.moved c fun k => { k.slackTo (r.start - s.t) with posted := k.posted ++ [(r.entry, k.latch)] })

/-- An MCAST executed in a cluster that is not the lead of its tree moves nothing, sets the core's poison latch and posts a CONTAINED
record against the job (R135). -/
def Obligations.MulticastOffTheLeadIsRefused : Prop :=
  ∀ (s : State) (c : CoreId) (tr : Fin 4) (e : Nat), s.ready c → (s.cs c).job ≠ 0 →
    (∀ m, s.ctg.mcasts.find? (fun m => decide (m.tree = tr.val)) = some m → m.lead ≠ c.val / 32) →
    ∃ t, exec (.mcast c tr e) s = .next t ∧ (t.cs c).latch = true ∧ (t.cs c).posted = (s.cs c).posted
      ∧ t.cl.xfers = s.cl.xfers ∧ t.mem = s.mem ∧ sameRegs s t ∧ sameCoreMems s t ∧ recordQueued s t 3 8 (s.cs c).job.toNat

/-- ESUB puts a valid descriptor at the end of the engine's queue of at most 16 jobs and answers with bit 63 set; the engine starts the
job at the head, and when it completes without residue faults the engine is free and one more job is counted (R169, R170, R171, R174). -/
def Obligations.EngineTakesJobsInOrder : Prop :=
  (∀ (s : State) (c : CoreId) (rd desc : GReg), s.ready c → (s.cs c).job ≠ 0 → s.gprP c desc = false →
    (s.gpr c desc).toNat + 64 ≤ 65536 → s.scratchClean c (s.gpr c desc).toNat 64 → s.scratchP c (s.gpr c desc).toNat 64 = false →
    let l := c.val / 32
    let ws := (List.range 8).map fun i => BitVec.ofNat 64 (numAt (s.scratch c (s.gpr c desc).toNat 64) (8 * i) 8)
    (s.xe l).failed = false → s.fld (xeModeState l) ≠ 3 → descValid ws = true → s.segmentsOk l (descOf ws) = true →
    s.destBad l (s.jobRows l (descOf ws)) = false → (s.xe l).queue.length < 16 →
    ∃ t, exec (.esub c rd desc) s = .next t ∧ holds t c (.g rd) (2 ^ 63) false
      ∧ (t.xe l).queue = (s.xe l).queue ++ [{ words := ws, job := (s.cs c).job.toNat, core := c, poisonAll := (s.cs c).latch }]
      ∧ (t.xe l).running = (s.xe l).running ∧ t.fld (xeModeQdepth l) = ((s.xe l).queue.length + 1) % 2 ^ (xeModeQdepth l).w
      ∧ sameRegsBut s t c (.g rd) ∧ sameCoreMems s t ∧ coreMoves s t c (s.moved c id) ∧ t.mem = s.mem)
  ∧ (∀ (s : State) (l : ClusterId) (j : XeJob) (rest : List XeJob), (s.xe l).running = none → (s.xe l).queue = j :: rest →
    (s.xe l).failed = false →
    ∃ t, exec (.exactJobStart l) s = .next t ∧ (t.xe l).running = some j ∧ (t.xe l).queue = rest ∧ t.mem = s.mem ∧ t.core = s.core)
  ∧ (∀ (s : State) (l : ClusterId) (j : XeJob), (s.xe l).running = some j → (s.xe l).failed = false → (s.xe l).persist.length < 3 →
    ∃ t, exec (.exactJobComplete l []) s = .next t ∧ (t.xe l).running = none ∧ (t.xe l).queue = (s.xe l).queue
      ∧ t.fld (xeJobsDone l) = (s.fld (xeJobsDone l) + 1) % 2 ^ (xeJobsDone l).w)

/-- The hard points: a TMARK reached early holds the core until its time, one reached at its time lets it go on; TEND and WAIT end the
core's work, at once where no product is unreleased and no posted transfer is still in the cluster (log entry 97); each keeps the core's
slack. Nothing else changes (R123, R124, R126, R502). -/
def Obligations.HardPointsHoldTheCore : Prop :=
  ∀ (s : State) (c : CoreId), s.ready c →
    (∀ due, s.t ≤ due → ∃ t, exec (.tmark c due) s = .next t
      ∧ onlyCore s t c (s.moved c fun k =>
          if s.t < due then { k.slackTo (due - s.t) with run := .waiting (.tmark due) } else k.slackTo 0))
    ∧ (s.t + 1000 ≤ s.tickNs → ∃ t, exec (.tend c) s = .next t
      ∧ onlyCore s t c (s.moved c fun k => { k.slackTo (s.tickNs - 1000 - s.t) with
          run := if s.productsOut c || s.transfersOut c then .waiting .tend else .ended }))
    ∧ (s.t + 1000 ≤ s.tickNs → ∃ t, exec (.wait c) s = .next t
      ∧ onlyCore s t c (s.moved c fun k => { k.slackTo (s.tickNs - 1000 - s.t) with
          waited := true
          run := if s.productsOut c || s.transfersOut c then .waiting .powerWait else .parked }))

/-! The crossbars. -/

/-- Phases never overdrive a converter: every phase of every vector has an activity A from 1 to 384 and a range code (A + 23) / 24 from 1
to 16; with levels of at most 15 the charge of a column is at most 15 × A, which is at most 360 × the range code, and the ideal code of
that charge is never clamped (R66). -/
def Obligations.PhasesStayInConverterRange : Prop :=
  ∀ (f : InFmt) (v : List Byte) (p : Phase), p ∈ vecPhases f v →
    1 ≤ p.act ∧ p.act ≤ 384 ∧ rangeCode p.act = (p.act + 23) / 24 ∧ 1 ≤ rangeCode p.act ∧ rangeCode p.act ≤ 16
      ∧ ∀ (level : Nat → Nat → Nat) (c : Nat), (∀ r, level r c ≤ 15) →
        (columnCharge level f v p c).natAbs ≤ 15 * p.act ∧ 15 * p.act ≤ 360 * rangeCode p.act
          ∧ idealCode (columnCharge level f v p c) (rangeCode p.act) = divRNE (columnCharge level f v p c * 7) (40 * rangeCode p.act)

/-- A vector of zeros gives no phase, and a product of such a vector gives exactly 0 in every result (R63, R79). -/
def Obligations.ZeroVectorGivesExactZeros : Prop :=
  ∀ (s : State) (x : Nat) (p : Product), p.kind = .normal → p.verdict = none →
    (∀ r, r < 512 → element p.fmt p.vec r = 0) →
    vecPhases p.fmt p.vec = [] ∧ s.productOut x p = List.replicate (weightCols p.prec) 0

/-- A code of −64 in any column of a group fails that group's check, whatever Δ is, and is counted in UNDERRANGE with the codes of its
period; a disabled group is not checked (R83, R88). -/
def Obligations.UnderrangeFailsTheGroup : Prop :=
  ∀ (codes vals : List Int) (quality idxOff : Nat) (p : Phase) (g c : Nat),
    (c = idxCol g ∨ c = refCol g ∨ (64 * g ≤ c ∧ c < 64 * g + 64)) → codes.getD c 0 = -64 →
    1 ≤ underrange codes g ∧ (bitOf idxOff g = false → groupFails codes vals quality idxOff p g = true)
      ∧ (bitOf idxOff g = true → groupFails codes vals quality idxOff p g = false)
      ∧ ∀ (s : State) (x : XbId), g < 8 →
        min (s.fld (xbCheckUnderrange (xbCluster x) (xbSlot x)) + 1) (2 ^ (xbCheckUnderrange (xbCluster x) (xbSlot x)).w - 1)
          ≤ (s.countUnderrange x codes).fld (xbCheckUnderrange (xbCluster x) (xbSlot x))

/-- PRODUCT_RELEASE of a product whose checks pass and which no verdict holds: at 16 + 66 × max(N, B) ns after its start its results stand
in data scratch as INT32 words, saturated, its crossbar's LAST_N is N, and no byte of memory has changed (R72, R77, R78, R105). -/
def Obligations.ReleaseWritesTheResults : Prop :=
  ∀ (s : State) (x : XbId) (p : Product), (s.xrun x).conv = some p → (s.xrun x).out = none → (s.xrun x).failing = none →
    p.kind = .normal → p.hold = false → p.acc = false → p.redo = [] → p.settled = [] → p.earliest = 0 → p.verdict = none →
    p.t0 + 6 + 66 * p.need + 1000 ≤ s.tickNs → s.firstFail x p 0 (p.periods.map Prod.fst) = none →
    ∃ t, exec (.productRelease x) s = .next t
      ∧ t.t = max s.t (p.t0 + 66 * max p.need p.reserved + 16)
      ∧ (∀ k, k < weightCols p.prec → leNat (t.scratch p.core (p.res + 4 * k) 4) = pattern 32 ((s.productOut x p).getD k 0))
      ∧ t.fld (xbUsageLastN (xbCluster x) (xbSlot x)) = p.need % 2 ^ (xbUsageLastN (xbCluster x) (xbSlot x)).w
      ∧ (t.xrun x).out = none ∧ t.mem = s.mem

/-- RE_EVALUATION that ends before the guard band: when every group passes on the second conversion the error was a transient: it is
counted and the product goes on with the new codes; when a group fails again, the arbitration latch is free and the engine's queue has
room, the product's crossbar joins the queue with that period and group (R85, R431, R436). -/
def Obligations.ReEvaluationSettlesTheCheck : Prop :=
  ∀ (s : State) (x : XbId) (p : Product) (k : Nat) (ph : Phase), (s.xrun x).conv = some p → (s.xrun x).failing = some k →
    (vecPhases p.fmt p.vec)[k]? = some ph → p.t0 + 6 + 66 * (p.need + redoCount p) + 1000 < s.tickNs →
    let codes := s.prodCodes x p ph s.free
    let fails := s.failGroups x ph codes (s.prodValues x codes)
    (fails = [] → ∃ t, exec (.reEvaluation x) s = .next t
      ∧ (t.xrun x).conv = some { p with redo := (k, s.free) :: p.redo } ∧ (t.xrun x).failing = none
      ∧ t.fld (xbCheckTransients (xbCluster x) (xbSlot x))
          = min (s.fld (xbCheckTransients (xbCluster x) (xbSlot x)) + 1) (2 ^ (xbCheckTransients (xbCluster x) (xbSlot x)).w - 1)
      ∧ t.core = s.core ∧ t.mem = s.mem)
    ∧ (∀ g rest, fails = g :: rest → (s.xrun x).dispute = none → (s.xe (xbCluster x)).arb.length < 8 →
      ∃ t d, exec (.reEvaluation x) s = .next t ∧ (t.xrun x).dispute = some d ∧ d.period = k ∧ d.group = g ∧ d.policy = s.policyOf x
        ∧ (t.xrun x).failing = none ∧ (t.xe (xbCluster x)).arb = (s.xe (xbCluster x)).arb ++ [x.val] ∧ t.core = s.core ∧ t.mem = s.mem)

/-- ARBITRATION of the request at the head of the engine's queue, once its data is in ARB_BUF, ends the dispute: the arbitration latch is
free, the engine turns to the next request, ARB_BUF may be filled again, and the verdict acts from the next boundary. The verdict is that of
R432 over the differences of the second conversion from the exact charges of the group block, and is counted; with poisoned data or an
engine whose integer path cannot be trusted there is none (code 6). No byte of memory changes (R195, R197, R198, R200, R432, R433). -/
def Obligations.ArbitrationEndsTheDispute : Prop :=
  ∀ (s : State) (l : ClusterId) (engineOk : Bool) (x : Nat) (rest : List Nat) (d : Dispute) (ph : Phase),
    (s.xe l).arb = x :: rest → xbCluster x = l → s.guarded = false → (s.xe l).failed = false → tabGet false s.cl.arbData l = true →
    (s.xrun x).dispute = some d → (vecPhases d.prod.fmt d.prod.vec)[d.period]? = some ph →
    let a := clMem l + s.fld (xeArbCfgArbBuf l)
    let none_ := s.anyPoison a blockBytes || !engineOk
    let h := rangeCode ph.act
    let e := verdictDiffs (s.prodValues x (s.prodCodes x d.prod ph d.base))
      (exactCharge d.prod.prec d.group (s.bytes a blockBytes) d.prod.fmt d.prod.vec ph) h d.group
    let v := if none_ then 6 else verdictOf (s.fld (xbStatQuality l (xbSlot x))) ph.act h e.1 e.2
    s.memClean a blockBytes → (s.anyPoison a blockBytes = true ∨ engineOk = true ∨ (s.xe l).persist.length < 2) →
    ∃ t, exec (.arbitration l engineOk) s = .next t ∧ (t.xrun x).dispute = none ∧ (t.xe l).arb = rest
      ∧ tabGet false t.cl.arbData l = false ∧ t.xb.effects = s.xb.effects ++ [(x, v, d.group)]
      ∧ t.fld (xeArbStatDataWrong l) = min (s.fld (xeArbStatDataWrong l) + bitNat (decide (v = 1 ∨ v = 3))) (2 ^ (xeArbStatDataWrong l).w - 1)
      ∧ t.fld (xeArbStatIndexWrong l) = min (s.fld (xeArbStatIndexWrong l) + bitNat (decide (v = 2 ∨ v = 3))) (2 ^ (xeArbStatIndexWrong l).w - 1)
      ∧ t.mem = s.mem

/-! The tick. -/

/-- TICK_BOUNDARY and GUARD_BAND while the die runs: the boundary leaves the module at time 0 of a tick whose guard band is still to
come, with no RWT write waiting and every core's registers cleared and unpoisoned, its job 0, its declared phases 4, its SAT clear and its
posts gone; the guard band is over no sooner than 250 ns before the tick's end, its notifications fired, and comes once: a second one changes
nothing. While the die does not run, neither does anything. The order of the boundary's rows is the model's (log entry 80) (R15, R114,
R283, R452). -/
def Obligations.TickTurnsAtTheBoundary : Prop :=
  ∀ s : State,
    (s.dieRuns = true →
      (∃ t, exec .tickBoundary s = .next t ∧ t.t = 0 ∧ t.guarded = false ∧ t.rwt = []
        ∧ (∀ c r, t.gpr c r = 0 ∧ t.gprP c r = false) ∧ (∀ c v, t.vr c v = 0 ∧ t.vrP c v = false)
        ∧ ∀ c : CoreId, (t.cs c).job = 0 ∧ (t.cs c).phase = 3 ∧ (t.cs c).sat = false ∧ (t.cs c).posted = [] ∧ (t.cs c).entered = [])
      ∧ (s.guarded = false →
        ∃ t, exec .guardBand s = .next t ∧ t.guarded = true ∧ s.tickNs - 250 ≤ t.t ∧ t.ig.notify = [])
      ∧ (s.guarded = true → exec .guardBand s = .next s))
    ∧ (s.dieRuns = false → exec .tickBoundary s = .next s ∧ exec .guardBand s = .next s)

/-! Scheduled transfers and queues. -/

/-- A posted MESH transfer starts when its slot opens, at its START, with the bytes of its source; when its last word lands its bytes
stand in the destination, no other byte has changed and its counter has one more signal, with POISON set where the data is poisoned or a
stand-in; an entry opens once (R119, R121, R125, R131, R132). -/
def Obligations.SlotsMoveTheirBytes : Prop :=
  ∀ (s : State) (e : Nat) (r : SlotRec), s.slotRec e = some r → r.dstQueue = false → r.src < 128 → r.dst < 128 → r.token < 256 →
    (r.kind = 1 → s.guarded = false → s.idle = false → r.entry ∉ s.cl.opened → s.fld ctCatStateState = 2 → s.isPosted r.entry = true →
      s.clRuns r.src = true → s.memClean (clMem r.src + r.srcAddr) r.bytes →
      ∃ t x, exec (.slotOpen e true) s = .next t ∧ t.t = max s.t r.start ∧ r.entry ∈ t.cl.opened ∧ t.cl.xfers = s.cl.xfers ++ [x]
        ∧ x.entry = e ∧ x.lands = true ∧ x.standIn = false ∧ x.data = s.bytes (clMem r.src + r.srcAddr) r.bytes
        ∧ x.poison = (if s.postLatched r then allBits r.bytes true else s.byteMarks (clMem r.src + r.srcAddr) r.bytes) ∧ t.mem = s.mem)
    ∧ (r.entry ∈ s.cl.opened → ∀ a, exec (.slotOpen e a) s = .next s)
    ∧ (∀ x rest, r.kind = 1 → takeFirst (fun x => decide (x.entry = e)) s.cl.xfers = some (x, rest) → x.lands = true →
      s.clAvailable r.dst = true → s.clRuns r.dst = true → s.aimsPool r.dst r.dstAddr x.data.length = false →
      (x.poison.any id = true ∨ crc32c x.data = x.check) →
      ∃ t, exec (.transferLanding e) s = .next t ∧ t.cl.xfers = rest
        ∧ t.bytes (clMem r.dst + r.dstAddr) x.data.length = x.data
        ∧ sameMemoryBut s t (clMem r.dst + r.dstAddr) x.data.length
        ∧ t.fld (clTokenCount r.dst r.token) = min (s.fld (clTokenCount r.dst r.token) + 1) 0xFFFF
        ∧ t.flag (clTokenPoison r.dst r.token) = (s.flag (clTokenPoison r.dst r.token) || x.standIn || x.poison.any id))

/-- A SPILL slot of the catalogue opens once in the tick, at its start, and moves packets of the staging area, in order and as far as its
bytes go, to the ends of their queues' bins; a RETURNS slot with room for it brings the one spilled packet of a queue with room back into
cells at the queue's tail, with its SEQ, and posts a RECALLED notice (where a packet stands in the bin: log entry 89) (R154, R155, R163,
R299). -/
def Obligations.SpilledPacketsGoAndReturn : Prop :=
  ∀ (s : State) (l : ClusterId) (r : SlotRec), s.slotOpens r = true → s.clRuns l = true →
    (s.queueSlot 5 l = some r →
      let go := fitSpill r.bytes (s.pool l).staging
      ∃ t, exec (.spillSlot l) s = .next t ∧ t.t = max s.t r.start ∧ r.entry ∈ t.cl.opened
        ∧ (t.pool l).staging = (s.pool l).staging.drop go.length ∧ (t.pool l).free = (s.pool l).free
        ∧ ∀ q : Fin 512,
          (t.queue l q).bin.map (fun p => (p.seq, p.tag, p.len))
            = ((s.queue l q).bin ++ go.filter fun p => decide (p.q = q.val)).map (fun p => (p.seq, p.tag, p.len))
          ∧ (t.queue l q).pkts = (s.queue l q).pkts ∧ (t.queue l q).notices = (s.queue l q).notices)
    ∧ (s.queueSlot 6 l = some r → ∀ (q : Fin 512) (p : QSpill), (s.queue l q).bin = [p] → (∀ q' : Fin 512, q' ≠ q → (s.queue l q').bin = []) →
      cellsOf p.len ≤ (s.pool l).free.length → queueCells (s.queue l q) + cellsOf p.len ≤ s.fld (qmQcfgMaxCells l q) →
      64 * cellsOf p.len ≤ r.bytes → (s.queue l q).arriving = none →
      ∃ (t : State) (k : QPacket) (w : W64), exec (.returnsSlot l) s = .next t ∧ (t.queue l q).bin = []
        ∧ (t.queue l q).pkts = (s.queue l q).pkts ++ [k] ∧ k.seq = p.seq ∧ k.len = p.len
        ∧ k.cells = (s.pool l).free.take (cellsOf p.len) ∧ (t.pool l).free = (s.pool l).free.drop (cellsOf p.len)
        ∧ (t.queue l q).notices.getLast? = some w ∧ bitsOf w.toNat 60 3 = 5 ∧ bitsOf w.toNat 0 14 = p.seq % 2 ^ 14)
    ∧ (∀ r', s.queueSlot 5 l = some r' → r'.entry ∈ s.cl.opened → exec (.spillSlot l) s = .next s)
    ∧ (∀ r', s.queueSlot 6 l = some r' → r'.entry ∈ s.cl.opened → exec (.returnsSlot l) s = .next s)

/-! The stream engines and the stacks. -/

/-- Stream-engine commands are performed from the head of the engine's queue, which they leave: KV_APPEND to a layer whose pages are held
raises its WRITTEN by COUNT, and the keys and values of a single position stand at its addresses; ATTEND gives 2 × HQ × DHEAD bytes of
result under its RETURN; GATHER gives at least the 64 bytes of its header. A result for a slot is one, a result for a credit pool comes in
packets (R147, R218, R222, R223, R224, R228). -/
def Obligations.StreamCommandsRunFromTheHead : Prop :=
  ∀ (s : State) (i : Fin 16) (c : SeCmd) (rest : List SeCmd) (p : Nat) (r : StreamRec),
    let results (t : State) (l : List SeResult) : Prop := t.se.results = s.se.results ++ l ∧ t.seCmds i = rest
      ∧ (∀ x ∈ l, x.eng = i.val ∧ x.ret = c.ret ∧ x.tick = s.tick) ∧ (c.ret < 2 ^ 15 → l.length = 1)
    (s.streamHead i c rest p r → c.kind = 1 → c.length = 2 * c.count * keyBytes r → s.written i c.slot c.layer = c.first →
      (∀ j, j < c.count → (s.keyAddr i c.slot r c.layer (c.first + j)).isSome = true) →
      ∃ t, exec (.kvAppend i) s = .next t ∧ t.seCmds i = rest ∧ t.written i c.slot c.layer = c.first + c.count
        ∧ t.se.results = s.se.results ∧ t.core = s.core ∧ t.cl = s.cl
        ∧ ∀ a, c.count = 1 → 1 ≤ keyBytes r → keyBytes r ≤ 32768 → c.payload.length = 2 * keyBytes r →
          s.keyAddr i c.slot r c.layer c.first = some a →
          t.bytes a (keyBytes r) = c.payload.take (keyBytes r) ∧ t.bytes (a + 32768) (keyBytes r) = c.payload.drop (keyBytes r))
    ∧ (s.streamHead i c rest p r → c.kind = 2 → c.first = 0 → c.length = 2 * r.hq * r.dhead → c.count ≤ s.written i c.slot c.layer →
      ∃ t l, exec (.attend i) s = .next t ∧ results t l ∧ (l.flatMap SeResult.data).length = 2 * r.hq * r.dhead
        ∧ t.core = s.core ∧ t.cl = s.cl ∧ t.mem.bytes = s.mem.bytes)
    ∧ (s.seCmds i = c :: rest → c.kind = 3 → c.tick = s.tick → tabGet false s.se.failed i = false → c.late = false →
      c.reservedZero = true → c.length = 0 → c.count = 0 → c.first < 65536 → s.partOf c.cluster = some p → c.slot < 8192 →
      (s.aslot c.slot).st ≠ .unassigned → (s.aslot c.slot).part = p → c.slot % 16 = i →
      ∃ t l, exec (.gather i) s = .next t ∧ results t l ∧ 64 ≤ (l.flatMap SeResult.data).length
        ∧ t.core = s.core ∧ t.cl = s.cl ∧ t.mem.bytes = s.mem.bytes)

/-- SCRUB visits the words of a stack in turn: the error of the word it visits is gone, and a word outside the calibration area that it
cannot correct is poisoned with its bytes kept (a calibration record is restored, R461); a stack at 95.0 °C or above is limited until it
reads below 92.0 °C; the failure of a stack raises MODULE_FATAL; a stream engine that fails leaves its decode slots STOPPED or unassigned
(R204, R206, R208, R216). -/
def Obligations.StacksAreScrubbedAndGuarded : Prop :=
  ∀ (s : State) (i : Fin 16),
    (∀ u : Option Upset, let a := hbmAddr i (64 * s.fld (seScrubPos i))
      ∃ t, exec (.scrub i u) s = .next t ∧ tabFind t.mem.upset (a / 64) = none
        ∧ t.fld (seScrubPos i) = (if s.fld (seScrubPos i) + 1 = stackWords then 0 else (s.fld (seScrubPos i) + 1) % 2 ^ (seScrubPos i).w)
        ∧ (¬ (0x30000000 ≤ a ∧ a < 0x30000000 + 0x3000 * 83232) →
          t.mem.bytes = s.mem.bytes ∧ (u = some .uncorrectable → t.anyPoison (a / 64 * 64) 64 = true)))
    ∧ (∀ temp : Int, temp < 420 →
      ∃ t, exec (.hbmStackHot i temp) s = .next t ∧ tabGet 0 t.se.temp i = temp ∧ t.mem = s.mem
        ∧ tabGet false t.se.limited i =
            (if tabGet false s.se.limited i then decide (368 ≤ temp) else decide (380 ≤ temp)))
    ∧ (∃ t, exec (.stackFailure i) s = .next t ∧ t.ig.fatalNow = true ∧ t.mem = s.mem)
    ∧ (tabGet false s.se.failed i = false → ∃ t, exec (.streamEngineFailure i) s = .next t ∧ tabGet false t.se.failed i = true
      ∧ (∀ k, k < 256 → t.fld (seSlotStatState i k) = 0 ∨ t.fld (seSlotStatState i k) = slotStopped))
    ∧ (tabGet false s.se.failed i = true → exec (.streamEngineFailure i) s = .next s)

/-! Repair. -/

/-- A core that fails hard stops, its CL_REMAP state is FAILED, and a substitution is pending where its cluster has a spare that no running
substitution has claimed; without one the cluster is UNAVAILABLE. A cluster that fails is FAILED in MAP, its engine has failed and its 32
cores are off. CORE_SUBSTITUTION of a suspect or failed core with a spare free takes the lowest spare for it; u is the state in which the
shelver then starts its writes (R27, R29, R30, R31, R122). -/
def Obligations.FailedCoresAndClustersAreReplaced : Prop :=
  ∀ s : State,
    (∀ c : CoreId, (s.cs c).run ≠ .failed →
      ∃ t, exec (.coreHardFailure c) s = .next t ∧ (t.cs c).run = .failed ∧ t.fld (clRemapState (c.val / 32) (c.val % 32)) = 3
        ∧ (s.spareLeft c = true → t.flag (clStatusSubstPend (c.val / 32)) = true)
        ∧ (s.spareLeft c = false → t.fld (clStatusMap (c.val / 32)) = 1) ∧ t.mem = s.mem)
    ∧ (∀ (px : Fin 17) (py : Fin 8) (x : Fin 16), 6 ≤ s.fld btBootStep → s.fld (clStatusMap (16 * py + x)) = 0 →
      s.fld (clStatusPx (16 * py + x)) = px → s.fld (clStatusPy (16 * py + x)) = py →
      (∀ x' : Fin 16, x' < x → s.fld (clStatusMap (16 * py + x')) ≠ 0 ∨ s.fld (clStatusPx (16 * py + x')) ≠ px) →
      ∃ t, exec (.clusterFailure px py) s = .next t ∧ t.fld (clStatusMap (16 * py + x)) = 2
        ∧ (∀ k : Fin 32, (t.cs (32 * (16 * py + x) + k)).run = .off) ∧ (t.xe (16 * py + x)).failed = true ∧ t.mem = s.mem)
    ∧ (∀ (c : CoreId) (pc : Nat),
      (s.fld (clRemapState (c.val / 32) (c.val % 32)) = 1 ∨ s.fld (clRemapState (c.val / 32) (c.val % 32)) = 3) →
      0 < s.fld (clStatusSpares (c.val / 32)) → tabFind s.sh.subst c = none → s.fld (clStatusMap (c.val / 32)) = 0 →
      (List.range 34).find? (s.isSpare (c.val / 32) (if s.noReserve c then 18 else 16)) = some pc →
      ∃ u : State, exec (.coreSubstitution c) s = .next u.startWork ∧ tabFind u.sh.subst c = some pc
        ∧ u.flag (clStatusSubstPend (c.val / 32)) = true ∧ u.core = s.core ∧ u.mem = s.mem)

/-! The shelver: writing, verifying, restoring, placing, staging, queries. Where a command lets the shelver start more work, u is the state
in which it does. -/

/-- The end of a crossbar's programming, read-back or re-verification: a write that passes is noted passed and its tile counted for its
placement; one that fails weeds the crossbar for WRITE_FAIL; a matching read-back counts its tile; a twin that passes is noted; a held
crossbar whose re-verify read runs is no longer stale or overdue, one that did not reach its levels is weeded for DRIFT; a crossbar due for
re-verification asks for a twin, is overdue at 22 hours and stale at 24. Where the command lets the shelver start more work, the
statement is about the state in which it does (log entries 34 to 37) (R257, R260, R271, R275). -/
def Obligations.CrossbarWorkIsJudged : Prop :=
  ∀ (s : State) (n : PxbId) (x : XbId),
    ((s.phys n).st = .writing → (s.phys n).passed = false → (s.phys n).writeFor = .placement →
      (s.vol (s.phys n).handle).st = .placing → (s.phys n).tile ∈ (s.vol (s.phys n).handle).begun →
      ∃ u : State, exec (.tileWriteComplete n true) s = .next u.startWork ∧ (u.phys n).passed = true
        ∧ (u.vol (s.phys n).handle).done = (s.vol (s.phys n).handle).done ++ [((s.phys n).tile, n.val)] ∧ u.mem = s.mem)
    ∧ ((s.phys n).st = .writing → (s.phys n).passed = false → (s.phys n).cause = none →
      ∃ u : State, exec (.tileWriteComplete n false) s = .next u.startWork ∧ (u.phys n).cause = some .writeFail
        ∧ (u.phys n).st = .weeded ∧ u.mem = s.mem)
    ∧ ((s.phys n).reading = true → (s.phys n).st ≠ .held → (s.vol (s.phys n).handle).st = .placing →
      (s.phys n).tile ∈ (s.vol (s.phys n).handle).begun →
      ∃ u : State, exec (.readbackComplete n true) s = .next u.startWork ∧ (u.phys n).reading = false
        ∧ (u.vol (s.phys n).handle).done = (s.vol (s.phys n).handle).done ++ [((s.phys n).tile, n.val)])
    ∧ (∀ m, s.writeOf x .twin = some m → (s.phys m).passed = false →
      ∃ u : State, exec (.twinWriteComplete x true) s = .next u.startWork ∧ (u.phys m).passed = true ∧ u.sh = s.sh)
    ∧ (∀ pulsed, (s.phys (s.mappedXb x)).st = .held → (s.phys (s.mappedXb x)).reading = true → (s.phys (s.mappedXb x)).cause = none →
      (∃ u : State, exec (.driftReverify x pulsed true) s = .next u.startWork ∧ (u.phys (s.mappedXb x)).stale = false
        ∧ (u.phys (s.mappedXb x)).checked = true ∧ (u.phys (s.mappedXb x)).reading = false
        ∧ (u.phys (s.mappedXb x)).overdue = false ∧ (u.phys (s.mappedXb x)).reverified = some s.tick
        ∧ (u.phys (s.mappedXb x)).writes = (s.phys (s.mappedXb x)).writes + bitNat pulsed)
      ∧ (∃ u : State, exec (.driftReverify x pulsed false) s = .next u.startWork ∧ (u.phys (s.mappedXb x)).cause = some .drift))
    ∧ (∀ h, h < 22 → (s.phys (s.servingXb x)).st = .serving → tabFind s.xb.twin x = none → s.noReserve (xbCore x) = false →
      tabFind s.sh.twinWanted x = none →
      (∃ u : State, exec (.reverifyOverdue x h) s = .next u.startWork ∧ tabFind u.sh.twinWanted x = some 5 ∧ u.xb = s.xb)
      ∧ (∃ u : State, exec (.reverifyOverdue x 22) s = .next u.startWork ∧ tabFind u.sh.twinWanted x = some 3
        ∧ (u.phys (s.servingXb x)).overdue = true ∧ (u.phys (s.servingXb x)).stale = (s.phys (s.servingXb x)).stale)
      ∧ (∃ u : State, exec (.reverifyOverdue x 24) s = .next u.startWork ∧ (u.phys (s.servingXb x)).stale = true))

/-- A demand at the head of the queue takes the section chosen for it and becomes a placement; a poisoned master tile is restored from
the first source whose check value is that of the tile, and is no longer to restore; the readback of the serving crossbar, taken through a
twin, comes first (how the sources are read: log entries 34, 36 and 104) (R252, R253, R255, R272). -/
def Obligations.DemandsTakeSectionsAndMastersHeal : Prop :=
  ∀ s : State,
    (∀ (h : Nat) (rest : List Nat) (r : SectionRec), s.sh.demands = h :: rest → h ∉ rest → s.chooseSection h = some r →
      ∃ t, exec (.placementDemand h) s = .next t ∧ (t.sect r.sec).vol = some h ∧ (t.vol h).sec = some r.sec
        ∧ t.sh.demands = rest ∧ t.sh.placing = s.sh.placing ++ [h] ∧ t.mem = s.mem ∧ t.xb = s.xb)
    ∧ (∀ (sec tile : Nat) (peer : Option (List Byte)) (r : SectionRec) (s' : State) (d : List Byte),
      (sec, tile) ∈ s.sh.restore → s.secRec sec = some r → s.restoreImage r tile peer = (s', some d) → d.length = tileBytes →
      r.masterAddr % 64 = 0 →
      some (crc32c d) = tabFind s.sh.tileCheck (65536 * sec + tile)
      ∧ (imageGood (tabFind s.sh.tileCheck (65536 * sec + tile)) (s.readbackImage r tile) = true → s' = s ∧ s.readbackImage r tile = some d)
      ∧ ∃ u : State, exec (.masterRestore sec tile peer) s = .next u.startWork ∧ u.bytes (r.tileAddr tile) tileBytes = d
        ∧ sameMemoryBut s' u (r.tileAddr tile) tileBytes ∧ u.anyPoison (r.tileAddr tile) tileBytes = false
        ∧ u.sh.restore = s'.sh.restore.filter fun e => decide (e ≠ (sec, tile)))

/-- Staging: a manifest that passes every step makes the volume STAGING with the manifest's identity, one that cannot be read ends the
staging; a shard that verifies is kept in the volume's LIBRARY frames (its place is stated for the first frame); at its fourth failure, or at the timeout, the volume is
UNAVAILABLE with SHARD_CORRUPT or TIMEOUT; an adapter version that verifies is noted passed, one that cannot be read frees its slot
(which frames: log entry 34; log entries 38 to 40; what SHA-384 and ECDSA answer is left open, log entry 7) (R245, R248, R249, R250,
R267, R574). -/
def Obligations.StagingKeepsOnlyVerifiedData : Prop :=
  ∀ (s : State) (h : Nat),
    (∀ b : List Byte, let m := manifestOf (bytesAt b 0 (s.vol h).manifestLen)
      h < 16384 → (s.vol h).st = .absent → (s.vol h).stager ≠ none → (s.vol h).place = false → s.stageReason (s.vol h).part m = 0 →
      ∃ t, exec (.manifestReadComplete h (some b)) s = .next t ∧ (t.vol h).st = .staging ∧ (t.vol h).id = m.id
        ∧ (t.vol h).version = m.version ∧ (t.vol h).shape = m.shape ∧ (t.vol h).tiles = m.tiles ∧ (t.vol h).shards = m.shards
        ∧ (∀ h', h' ≠ h → t.vol h' = s.vol h') ∧ t.mem = s.mem)
    ∧ ((s.vol h).st = .absent → (s.vol h).stager ≠ none →
      ∃ t, exec (.manifestReadComplete h none) s = .next t ∧ tabFind t.sh.vol h = none)
    ∧ (∀ (i : Nat) (b : List Byte), (s.vol h).awaits i = true → (s.vol h).fromHost i = true → shardOk (s.vol h) i b = true →
      ∃ u : State, exec (.shardVerify h i (some b)) s = .next u.startWork ∧ (u.vol h).verified = (s.vol h).verified ++ [i]
        ∧ (∀ f rest, (s.vol h).libFrames = f :: rest → (s.vol h).shardOff i + (b.length + 63) ≤ 2 ^ 20 → b ≠ [] →
          u.bytes (f * 2 ^ 20 + (s.vol h).shardOff i) b.length = b
          ∧ sameMemoryBut s u (f * 2 ^ 20 + (s.vol h).shardOff i) (b.length + 63)))
    ∧ (∀ (i : Nat) (d : Dma), (s.vol h).awaits i = true → (s.vol h).fromHost i = true → (s.vol h).tries i = 3 →
      (∀ b, d = some b → shardOk (s.vol h) i b = false) →
      ∃ t, exec (.shardVerify h i d) s = .next t ∧ (t.vol h).st = .unavailable ∧ (t.vol h).reason = 1)
    ∧ ((s.vol h).complete = false → (s.vol h).st = .staging →
      ∃ t, exec (.stagingTimeout h) s = .next t ∧ (t.vol h).st = .unavailable ∧ (t.vol h).reason = 2)
    ∧ (∀ (a : Fin 8192), (s.aslot a).st = .writing → (s.aslot a).passed = false →
      (∀ b : List Byte, 128 ≤ b.length → s.adapterReason (s.aslot a) (b.length - 64) b = 0 →
        ∃ t, exec (.adapterCopyComplete a (some b)) s = .next t ∧ (t.aslot a).passed = true ∧ (t.aslot a).gen = (s.aslot a).gen)
      ∧ (∃ t, exec (.adapterCopyComplete a none) s = .next t ∧ (t.aslot a).st = .free ∧ (t.aslot a).part = (s.aslot a).part))

/-- The query registers: a query of a port or of the custodian is answered in that accessor's own instance of the register, with READY
set and the queried field kept; a volume that the accessor may not see, or that is absent, reads VISIBLE 0 and all zeros; no other
register changes (R50, R280). -/
def Obligations.QueriesAnswerInTheirOwnInstance : Prop :=
  ∀ (s : State) (acc : Accessor) (v : W64), (∀ p f, acc ≠ .vf p f) →
    let h := bitsOf v.toNat 0 14
    (∃ t, exec (.shVolumeStateQuery acc v) s = .next t
      ∧ bitsOf (t.reg (instOff (accNum acc) shVolumeStateReg)).toNat 63 1 = 1
      ∧ bitsOf (t.reg (instOff (accNum acc) shVolumeStateReg)).toNat 0 14 = h
      ∧ (((s.vol h).st = .absent ∨ s.accSees acc (s.vol h).part = false) →
          bitsOf (t.reg (instOff (accNum acc) shVolumeStateReg)).toNat 14 49 = 0)
      ∧ ((s.vol h).st ≠ .absent → s.accSees acc (s.vol h).part = true →
          bitsOf (t.reg (instOff (accNum acc) shVolumeStateReg)).toNat 62 1 = 1
          ∧ bitsOf (t.reg (instOff (accNum acc) shVolumeStateReg)).toNat 58 4 = volCode (s.vol h).st
          ∧ bitsOf (t.reg (instOff (accNum acc) shVolumeStateReg)).toNat 34 16 = (s.vol h).version % 65536)
      ∧ sameControlSpaceBut s t (instOff (accNum acc) shVolumeStateReg) ∧ t.mem = s.mem ∧ t.sh = s.sh)
    ∧ (∃ t, exec (.shLoanCountQuery acc v) s = .next t
      ∧ bitsOf (t.reg (instOff (accNum acc) shLoanCountReg)).toNat 63 1 = 1
      ∧ bitsOf (t.reg (instOff (accNum acc) shLoanCountReg)).toNat 0 15 = bitsOf v.toNat 0 15
      ∧ sameControlSpaceBut s t (instOff (accNum acc) shLoanCountReg) ∧ t.mem = s.mem ∧ t.sh = s.sh)
    ∧ (∃ t, exec (.shMapQuery acc v) s = .next t
      ∧ bitsOf (t.reg (instOff (accNum acc) shMapQueryReg)).toNat 63 1 = 1
      ∧ bitsOf (t.reg (instOff (accNum acc) shMapQueryReg)).toNat 0 16 = bitsOf v.toNat 0 16
      ∧ sameControlSpaceBut s t (instOff (accNum acc) shMapQueryReg) ∧ t.mem = s.mem ∧ t.sh = s.sh)

/-! Calibration. -/

/-- Calibration uses only gaps: the crossbar whose turn it is takes one step of 66 ns inside its gap, which is counted and, unless abandoned, counts
towards its monitor measurement; a busy crossbar has no IDLE step, a gap below 66 ns none at all, and none is taken where 2,048 other crossbars of the
row calibrate. 80 steps make a monitor measurement, which starts over; what it shows above 48 gives the crossbar a cause for weeding. A recalibration
leaves the list of those due, and one above 48 gives a cause; the trims of a cluster that is due are computed at its temperature; the snapshot takes
the changed records that no error has met (log entries 41 to 44) (R459, R463, R465, R466, R467, R468, R469, R472). -/
def Obligations.CalibrationUsesGapsAndMeasures : Prop :=
  ∀ (s : State) (x : XbId),
    (∀ (gap : GapKind) (a : Nat), s.stepAt x gap = some a → s.mayStep x a = true →
      (∃ t, exec (.calibrationStep x gap false) s = .next t ∧ (t.xrun x).monSteps = (s.xrun x).monSteps + 1 ∧ t.t = s.t + (a + 66 - s.now)
        ∧ (t.xrun x).conv = (s.xrun x).conv ∧ t.ca.skipUse + t.ca.phaseUse + t.ca.idleUse = s.ca.skipUse + s.ca.phaseUse + s.ca.idleUse + 1
        ∧ t.mem = s.mem ∧ t.core = s.core)
      ∧ (∃ t, exec (.calibrationStep x .idle true) s = .next t ∧ (t.xrun x).monSteps = (s.xrun x).monSteps))
    ∧ ((s.xrun x).conv ≠ none ∨ (s.xrun x).queued ≠ none → ∀ b, exec (.calibrationStep x .idle b) s = .next s)
    ∧ (∀ p g, g ≠ .idle → (s.xrun x).conv = some p →
      (∀ a, s.stepAt x g = some a → s.nowAt (gapOf p g).1 ≤ a ∧ a + 66 ≤ s.nowAt (gapOf p g).2)
      ∧ ((gapOf p g).2 < (gapOf p g).1 + 66 → ∀ b, exec (.calibrationStep x g b) s = .next s))
    ∧ (∀ gap a b, s.stepAt x gap = some a → 2048 ≤ s.rowSteps (s.servingXb x) a → exec (.calibrationStep x gap b) s = .next s)
    ∧ (∀ sq : Nat, 80 ≤ (s.xrun x).monSteps →
      ∃ u : State, exec (.monitorMeasurement x sq) s = .next u.startWork ∧ (u.xrun x).monSteps = 0
        ∧ (u.phys (s.servingXb x)).monUp = monitorQ sq
        ∧ (u.phys (s.servingXb x)).newQuality = max (s.phys (s.servingXb x)).qSet (monitorQ sq)
        ∧ (u.phys (s.servingXb x)).quality = (s.phys (s.servingXb x)).quality
        ∧ (48 < monitorQ sq → (u.phys (s.servingXb x)).cause ≠ none))
    ∧ ((s.phys (s.mappedXb x)).st = .serving → (s.phys (s.mappedXb x)).noRecal ≤ s.now → (s.phys (s.mappedXb x)).cause = none →
      (∀ e ∈ s.ca.due, e.1 ≠ s.mappedXb x) →
      ∃ u : State, exec (.monitorOverdue x) s = .next u.startWork ∧ u.ca.due = s.ca.due ++ [(s.mappedXb x, 2)]
        ∧ (u.phys (s.mappedXb x)).recal = true)
    ∧ (∀ (n : PxbId) (theta : Int) (codes : List (BitVec 32)) (refs : List (BitVec 5)) (q vxb : Nat) (ok : Bool),
      (s.xst n = .reserve ∧ s.reserveDue n theta = true)
        ∨ ((s.phys n).st = .held ∧ (s.phys n).recal = true ∧ (s.phys n).cause = none ∧ (s.phys n).checked = true) →
      ∃ u : State, exec (.recalibration n theta codes refs q vxb ok) s = .next u.startWork
        ∧ u.ca.due = s.ca.due.filter (fun e => decide (e.1 ≠ n.val)) ∧ (u.phys n).recal = false
        ∧ (48 < q → (u.phys n).cause ≠ none))
    ∧ (∀ (px : Fin 17) (py : Fin 8), let pc := 17 * py.val + px.val
      (pc ∈ s.trimQueue → (∀ c ∈ s.trimQueue, pc ≤ c) →
        (∀ i < 612, s.memClean (calAddr (612 * pc + i)) 12288 ∧ s.anyPoison (calAddr (612 * pc + i)) 12288 = false) →
        ∃ t, exec (.trimRecompute px py) s = .next t ∧ tabFind t.ca.theta pc = some (s.clusterTemp pc) ∧ t.mem = s.mem)
      ∧ (pc ∉ s.trimQueue → exec (.trimRecompute px py) s = .next s))
    ∧ ((∀ n ∈ s.ca.changed, s.memClean (calAddr n) 12288 ∧ s.anyPoison (calAddr n) 12288 = false) →
      ∃ t, exec .calibrationSnapshot s = .next t ∧ t.ca.changed = [] ∧ t.mem = s.mem
        ∧ ∀ n i, i < 12288 → tabGet 0 t.ca.snapshot (12288 * n + i) =
            if n ∈ s.ca.changed then s.byte (calAddr n + i) else tabGet 0 s.ca.snapshot (12288 * n + i))

/-! Announcements and catalogues. -/

/-- An announcement that passes its checks joins its list for its tick and stays behind those that were there, with READY and RESULT 1 in the
announcer's own instance of CT_ANNOUNCE, which keeps TARGET; an accepted swap makes the partial ANNOUNCED; one whose announcer may not make it answers
RESULT 3 and the lists stay; DISCARD frees the staged partial (when a request is performed: log entry 105) (R311, R312, R313, R314). -/
def Obligations.AnnouncementsJoinTheirLists : Prop :=
  ∀ (s : State) (acc : Accessor) (target : BitVec 32), (∀ p f, acc ≠ .vf p f) →
    let tgt := (s.tick + s.leadTo target) % s.tickWrap
    let o := instOff (accNum acc) 0x100038
    let result (t : State) (n : Nat) : Prop := bitsOf (t.reg o).toNat 60 4 = 8 + n
    let asked (t : State) (n : Nat) : Prop := result t n ∧ bitsOf (t.reg o).toNat 0 32 = target.toNat
    (∀ (part : Fin 16) (c : Cat), s.mayPart acc part = true → s.cat.staged = some c → s.stagedFor part = true →
      leadOk (s.leadTo target) = true → imageLead s.ctg c ≤ s.leadTo target → s.cat.local_.length < 16 →
      ∃ t a, exec (.partialSwap acc part target) s = .next t ∧ a ∈ t.cat.local_ ∧ t.cat.local_.length = s.cat.local_.length + 1
        ∧ (∀ b ∈ s.cat.local_, b ∈ t.cat.local_) ∧ a.tgt = tgt ∧ a.action = 1 ∧ a.part = part.val ∧ a.remote = false
        ∧ t.fld ctCatStatePstate = 3 ∧ t.cat.staged = some c ∧ asked t 1 ∧ t.mem = s.mem)
    ∧ (∀ arg : BitVec 16, s.mayDomain acc = true → leadOk (s.leadTo target) = true → s.cat.domain.length < 32 →
      (∃ t a, exec (.throttle acc arg target) s = .next t ∧ a ∈ t.cat.domain ∧ t.cat.domain.length = s.cat.domain.length + 1
        ∧ a.tgt = tgt ∧ a.action = 2 ∧ a.arg = arg.toNat ∧ a.remote = false ∧ asked t 1 ∧ t.mem = s.mem)
      ∧ (∃ t a, exec (.announceExit acc target) s = .next t ∧ a ∈ t.cat.domain ∧ t.cat.domain.length = s.cat.domain.length + 1
        ∧ a.tgt = tgt ∧ a.action = 3 ∧ a.remote = false ∧ asked t 1 ∧ t.mem = s.mem))
    ∧ (∀ arg : BitVec 16, s.mayDomain acc = false → ∀ c ∈ [Instr.throttle acc arg target, Instr.announceExit acc target],
      ∃ t, exec c s = .next t ∧ asked t 3 ∧ t.cat.local_ = s.cat.local_ ∧ t.cat.domain = s.cat.domain ∧ t.cat.staged = s.cat.staged
        ∧ sameControlSpaceBut s t o)
    ∧ (∀ part : Fin 16, s.mayPart acc part = false → ∃ t, exec (.partialSwap acc part target) s = .next t ∧ asked t 3
      ∧ t.cat.local_ = s.cat.local_ ∧ t.cat.staged = s.cat.staged ∧ sameControlSpaceBut s t o)
    ∧ (∀ part : Fin 16, s.mayPart acc part = true → s.stagedFor part = true →
      ∃ t, exec (.discard acc part) s = .next t ∧ t.cat.staged = none ∧ t.cat.incoming = [] ∧ t.cat.local_ = s.cat.local_
        ∧ t.fld ctCatStatePstate = 0 ∧ result t 1 ∧ t.mem = s.mem)

/-- A partial catalogue: CATALOGUE_STAGE, by a host port's descriptor or by custodian firmware, writes the image into the incoming area and its check
begins; an image that passes is STAGED, one that fails is REFUSED and the incoming area is free again; a core's staging buffer counts as verified
exactly if its code has the check value of its leaf entry and carries no poison (R315, R317). -/
def Obligations.PartialsAreCheckedBeforeStaging : Prop :=
  ∀ s : State,
    let taken (t : State) (img : List Byte) : Prop := t.fld ctCatStatePstate = 1 ∧ t.cat.incoming = img ∧ t.bytes 0x70000000 img.length = img
      ∧ sameMemoryBut s t 0x70000000 (img.length + 63)
    (∀ (p : Fin 4) (d : Desc) (rest : List Desc) (b : List Byte),
      takeFirst (fun d : Desc => decide (d.kind = 13)) (s.hport p).store = some (d, rest) → s.partialBusy = false →
      ∃ t, exec (.catalogueStage (.port p) (some b)) s = .next t ∧ (t.hport p).store = rest ∧ taken t (b.take (numAt d.body 8 4))
        ∧ t.cat.stager ≠ none)
    ∧ (∀ (part : Fin 16) (b : List Byte), s.partialBusy = false →
      ∃ t, exec (.catalogueStage (.custodian part) (some b)) s = .next t ∧ taken t (b.take 268435456) ∧ t.cat.stager = none
        ∧ t.fld ctCatStatePpart = part)
    ∧ (∀ c, s.fld ctCatStatePstate = 1 → s.checkPartial (s.fld ctCatStatePpart) s.cat.incoming = .ok c →
      ∃ t, exec .partialCheckComplete s = .next t ∧ t.cat.staged = some c ∧ t.cat.stager = none ∧ t.fld ctCatStatePstate = 2 ∧ t.mem = s.mem)
    ∧ (∀ e, s.fld ctCatStatePstate = 1 → s.checkPartial (s.fld ctCatStatePpart) s.cat.incoming = .error e →
      ∃ t, exec .partialCheckComplete s = .next t ∧ t.cat.staged = none ∧ t.cat.incoming = [] ∧ t.cat.stager = none
        ∧ t.fld ctCatStatePstate = 4 ∧ t.mem = s.mem)
    ∧ (∀ (c : CoreId) (b : LeafRec) (k : ClusterRec) (e : LeafCore), s.newLeaf (c.val / 32) = some b →
      s.ctg.clusterRec (c.val / 32) = some k → b.cores[c.val % 32]? = some e →
      sumNat ((b.cores.take (c.val % 32 + 1)).map fun x => x.len) ≤ tabGet 0 s.cat.imgSent (c.val / 32) →
      let a := clMem (c.val / 32) + k.swapAddr + 32768 * (c.val % 32)
      ∃ t, exec (.stagingBufferVerified c) s = .next t
        ∧ (t.cs c).bufVerified = (decide (crc32c (s.bytes a e.len) = e.check) && !s.anyPoison a e.len)
        ∧ t.mem = s.mem ∧ sameRegs s t)

/-! Serving: rings, requests, the library, outputs. -/

/-- The ring registers: a doorbell below the ring's size moves the tail, one beyond it puts the ring in error with code 1; the completion
head moves within what has been written; enabling a ready port's ring starts it empty, RUNNING; disabling it empties and stops it; a
reset of the port's PF stops every ring of the port; PERST takes the link down (R325, R326, R327, R330, R332, R337, R528). -/
def Obligations.RingsStartMoveAndStop : Prop :=
  ∀ (s : State) (acc : Accessor) (p : Fin 4) (k : Fin 256), s.mayRing acc p k = true →
    (∀ tail : BitVec 16, s.ringOn p k = true → tail.toNat < s.ringSize p k →
      ∃ t, exec (.hpDoorbell acc p k tail) s = .next t ∧ (t.ring p k).tail = tail.toNat ∧ sameControlSpace s t ∧ t.mem = s.mem)
    ∧ (∀ tail : BitVec 16, s.fld (hpRingStatState p k) = 1 → s.ringSize p k ≤ tail.toNat →
      ∃ t, exec (.hpDoorbell acc p k tail) s = .next t ∧ t.fld (hpRingStatState p k) = 2 ∧ t.fld (hpRingStatErr p k) = 1
        ∧ (t.ring p k).tail = (s.ring p k).tail)
    ∧ (∀ head : BitVec 16, s.ringOn p k = true → head.toNat < s.cplSize p k →
      (head.toNat + s.cplSize p k - s.fld (hpCplHeadHead p k) % s.cplSize p k) % s.cplSize p k ≤ s.cplUsed p k →
      ∃ t, exec (.hpCplHead acc p k head) s = .next t ∧ t.fld (hpCplHeadHead p k) = head.toNat ∧ t.sv.req = s.sv.req ∧ t.mem = s.mem)
    ∧ (s.ringOn p k = false → s.flag (hpStatusReady p) = true → s.fld (hpRingCfgRq p k) ≤ 10 → s.fld (hpRingCfgCq p k) ≤ 10 →
      ∃ t, exec (.ringEnable acc p k) s = .next t ∧ t.ring p k = {} ∧ t.fld (hpRingStatState p k) = 1 ∧ t.fld (hpRingStatHead p k) = 0
        ∧ t.fld (hpRingStatCplTail p k) = 0 ∧ t.fld (hpCplHeadHead p k) = 0 ∧ t.flag (hpRingCfgEn p k) = true)
    ∧ (s.ringOn p k = true →
      ∃ t, exec (.ringDisable acc p k) s = .next t ∧ t.ring p k = {} ∧ t.fld (hpRingStatState p k) = 0
        ∧ t.flag (hpRingCfgEn p k) = false ∧ t.mem = s.mem)
    ∧ (s.dieRuns = true →
      (∃ t, exec (.portReset p .flrPf) s = .next t ∧ ∀ j, j < 256 → t.fld (hpRingStatState p j) = 0)
      ∧ (∃ t, exec (.portReset p .perst) s = .next t ∧ (t.hport p).link = false ∧ (t.hport p).perst = true))

/-- A descriptor of the ring pair whose turn it is, with room for it, leaves the ring for the port when it passes its checks, an OPEN with a free entry of
the request table; another ring pair's is not fetched. OPEN makes a request of it; APPEND, GENERATE and CLOSE add a chunk, units and the end to the live
request they name; CANCEL, by descriptor or register, ends it with status 1, and an OPEN that has not yet taken effect is taken back; a chunk that has
been read stands in its input buffer and is ready (R330, R331, R334, R335, R336, R339, R344, R357). -/
def Obligations.DescriptorsActOnTheirRequests : Prop :=
  ∀ (s : State) (p : Fin 4) (d : Desc) (rest : List Desc) (n : Nat) (r : Request),
    let head (kind : Nat) : Prop := takeFirst (fun x : Desc => decide (x.kind = kind)) (s.hport p).store = some (d, rest)
    (∀ (k : Fin 256) (b : List Byte), s.fetchable p k = true → s.fetchTurn p k = true → s.fetchRoom p k (some (bytesAt b 0 64)) = true →
      s.fetchErr p k (some (bytesAt b 0 64)) = 0 →
      ∃ t x, exec (.descriptorFetch p k (some b)) s = .next t
        ∧ (t.hport p).store = (s.hport p).store ++ [x] ∧ { x with entry := 0, openIx := 0 } = descRead s k (bytesAt b 0 64)
        ∧ (x.kind = 1 → s.rq (4096 * p.val + x.entry) = none) ∧ (t.hport p).last = k
        ∧ (numAt (bytesAt b 0 64) 0 1 ≠ 2 → t.fld (hpRingStatHead p k) = (s.fld (hpRingStatHead p k) + 1) % s.ringSize p k % 2 ^ (hpRingStatHead p k).w)
        ∧ t.mem = s.mem)
    ∧ (∀ (k : Fin 256) b, s.fetchTurn p k = false → exec (.descriptorFetch p k b) s = .next s)
    ∧ (head 1 →
      ∃ t r', exec (.openRequest p) s = .next t ∧ (t.hport p).store = rest ∧ t.rq (4096 * p.val + d.entry) = some r' ∧ r'.req = d.req
        ∧ r'.openIx = d.openIx
        ∧ r'.tenant = d.tenant ∧ r'.part = d.part ∧ r'.volId = numAt d.body 4 8 ∧ r'.svc = numAt d.body 0 2 ∧ r'.user = d.user
        ∧ r'.chunks = [] ∧ r'.gens = [] ∧ r'.step = none ∧ t.mem = s.mem)
    ∧ (∀ v, head 2 → s.liveOf p d.ring d.req = some (n, r) → s.validService r.svc r.part = some v → v.input = true →
      ∃ t r' c, exec (.append p) s = .next t ∧ t.rq n = some r' ∧ r'.chunks = r.chunks ++ [c] ∧ c.buf = r.nextBuf
        ∧ c.len = numAt d.body 8 4 ∧ c.last = d.endInput ∧ c.ready = false ∧ (t.ring p d.ring).chunk = some d ∧ t.mem = s.mem)
    ∧ (∀ v, head 3 → s.liveOf p d.ring d.req = some (n, r) → s.validService r.svc r.part = some v → v.gen = true →
      ∃ t r' g, exec (.generate p) s = .next t ∧ t.rq n = some r' ∧ r'.gens = r.gens ++ [g] ∧ g.units = numAt d.body 0 4 ∧ t.mem = s.mem)
    ∧ (head 4 → s.liveOf p d.ring d.req = some (n, r) →
      ∃ t, exec (.close p) s = .next t ∧ t.rq n = some { r with closing := true } ∧ t.mem = s.mem)
    ∧ (head 5 → s.liveOf p d.ring d.req = some (n, r) → s.rq n = some r → r.ended = none →
      ∃ t r', exec (.cancel p) s = .next t ∧ t.rq n = some r' ∧ r'.ended = some s.endTick ∧ r'.status = 1)
    ∧ (∀ (acc : Accessor) (k : Fin 256) (req : BitVec 32), s.mayRing acc p k = true →
      (s.ring p k).ids.lookup req.toNat = some (.stream n) → s.rq n = some r → r.ended = none →
      ∃ t r', exec (.hpCancel acc p k req) s = .next t ∧ t.rq n = some r' ∧ r'.ended = some s.endTick ∧ r'.status = 1)
    ∧ (∀ (acc : Accessor) (k : Fin 256) (req : BitVec 32), s.mayRing acc p k = true →
      (∀ m, (s.ring p k).ids.lookup req.toNat ≠ some (.stream m)) → d ∈ (s.hport p).store → d.opens k req.toNat = true →
      ∃ t, exec (.hpCancel acc p k req) s = .next t ∧ (∀ x ∈ (t.hport p).store, x.opens k req.toNat = false) ∧ t.mem = s.mem)
    ∧ (∀ (k : Fin 256) (b : List Byte) (v : ServiceRec) (c : Chunk), (s.ring p k).chunk = some d → s.liveOf p k d.req = some (n, r) →
      s.serviceOf r.svc = some v → r.chunks.find? (fun c => decide (c.order = d.order)) = some c →
      let a := v.inputAddr + (2 * r.openIx + c.buf) * v.chunkMax
      let len := numAt d.body 8 4
      ∃ t, exec (.chunkReadComplete p k (some b)) s = .next t ∧ (t.ring p k).chunk = none ∧ t.bytes a len = bytesAt b 0 len
        ∧ t.rq n = some { r with chunks := r.chunks.map fun x => if x.order = d.order then { x with ready := true } else x })

/-- The staging kinds: VOLUME_STAGE takes a free handle for the tenant's partition, or waits beyond the directory when that is full; VOLUME_PLACE of a staged volume waits for its
placement; VOLUME_RELEASE of a shelved one begins its retirement; ADAPTER_STAGE takes a free slot with the next generation;
ADAPTER_RELEASE gives the current slot up. Which handle and slot are taken is the model's choice (log entries 38, 107) (R247, R252, R262, R266,
R267, R268, R269). -/
def Obligations.StagingDescriptorsDriveTheShelver : Prop :=
  ∀ (s : State) (p : Fin 4) (d : Desc) (rest : List Desc), s.fatalPart d.part = false →
    let head (kind : Nat) : Prop := takeFirst (fun x : Desc => decide (x.kind = kind)) (s.hport p).store = some (d, rest)
    (∀ h, head 8 → s.freeHandle = some h →
      ∃ t, exec (.volumeStage p) s = .next t ∧ (t.vol h).part = d.part ∧ (t.vol h).manifestLen = numAt d.body 8 4
        ∧ (t.vol h).stager ≠ none ∧ (t.vol h).st = .absent ∧ (∀ h', h' ≠ h → t.vol h' = s.vol h') ∧ (t.hport p).store = rest ∧ t.mem = s.mem)
    ∧ (head 8 → s.freeHandle = none →
      ∃ t h, exec (.volumeStage p) s = .next t ∧ 16384 ≤ h ∧ (t.vol h).stager ≠ none ∧ (t.vol h).part = d.part ∧ (t.hport p).store = rest
        ∧ t.mem = s.mem)
    ∧ (head 9 → (s.vol (numAt d.body 0 2)).st = .staged → (s.vol (numAt d.body 0 2)).part = d.part →
      ∃ t, exec (.volumePlace p) s = .next t ∧ (t.vol (numAt d.body 0 2)).watch.length = (s.vol (numAt d.body 0 2)).watch.length + 1
        ∧ (numAt d.body 0 2 ∈ t.sh.demands ∨ (s.vol (numAt d.body 0 2)).sec ≠ none) ∧ (t.hport p).store = rest ∧ t.mem = s.mem)
    ∧ (head 10 → (s.vol (numAt d.body 0 2)).st = .shelved → (s.vol (numAt d.body 0 2)).part = d.part →
      ∃ t, exec (.volumeRelease p) s = .next t ∧ (t.vol (numAt d.body 0 2)).st = .retiring ∧ (t.vol (numAt d.body 0 2)).pin = false
        ∧ (t.hport p).store = rest ∧ t.mem = s.mem)
    ∧ (∀ a, head 11 →
      (∀ e ∈ s.sh.aslot, ¬ (e.2.st = .writing ∧ e.2.part = d.part ∧ e.2.adapter = numAt d.body 12 4)) →
      ((s.aslotsOf d.part).find? fun a => decide ((s.aslot a).st = .free)
        && (s.findFrames d.part (a % 16) (Nat.max 1 (ceilDiv (numAt d.body 8 4 - 64) 65536))).isSome) = some a →
      ∃ t, exec (.adapterStage p) s = .next t ∧ (t.aslot a).st = .writing ∧ (t.aslot a).adapter = numAt d.body 12 4
        ∧ (t.aslot a).tenant = d.tenant ∧ (t.aslot a).gen ≠ 0
        ∧ (tabGet 0 s.sh.agen (2 ^ 32 * d.part + numAt d.body 12 4) < 65535 →
            (t.aslot a).gen = tabGet 0 s.sh.agen (2 ^ 32 * d.part + numAt d.body 12 4) + 1)
        ∧ (t.hport p).store = rest ∧ t.mem = s.mem)
    ∧ (∀ a x, head 12 →
      (s.sh.aslot.find? fun e => decide (e.2.st = .current) && decide (e.2.part = d.part) && decide (e.2.adapter = numAt d.body 12 4))
        = some (a, x) →
      ∃ t, exec (.adapterRelease p) s = .next t ∧ (t.aslot a).release = true ∧ (t.hport p).store = rest ∧ t.mem = s.mem)

/-- An output record whose write completes is charged to its tenant and delivered: UNITS × COST, UNITS more delivered, one more
completion entry on a ring that runs (R345, R346). -/
def Obligations.OutputRecordsAreChargedAndDelivered : Prop :=
  ∀ (s : State) (v : ServiceRec) (n b j k : Nat) (r : Request) (st : Step), s.serviceOf v.service = some v →
    s.admittedAt v.service n b = some (k, r, st) → r.muted = false → r.ended = none →
    let a := v.outAddr + ((n % 2) * v.batch * stepEntries v + b * stepEntries v + j) * 64
    let d := s.bytes a 64
    a % 64 = 0 → s.memClean a 64 → (s.hbmData a 64).2.1.any id = false → (s.hbmData a 64).1 = d → (s.hbmData a 64).2.2 = false →
    numAt d 2 2 = r.openIx → bitOf (numAt d 5 1) 1 = false →
    ∃ t r', exec (.outputRecordComplete v.service n b j) s = .next t ∧ t.rq k = some r' ∧ r'.delivered = r.delivered + numAt d 4 1
      ∧ t.fld (tnStatCharged r.tenant)
          = (s.fld (tnStatCharged r.tenant) + numAt d 4 1 * st.cost) % 2 ^ (tnStatCharged r.tenant).w
      ∧ t.sv.out.length = s.sv.out.length + bitNat (s.ringOn r.port r.ring) ∧ t.mem = s.mem

/-! The fabric. -/

/-- A link carries its flits in order: a data or control flit that is decoded in a framed codeword, has its LCRC and the expected SEQ is accepted, and its
lanes are aligned by its CW_COUNT; one out of order, not decoded or not framed makes one NAK and is not; a NAK or the replay time-out counts
a replay; credits and pool credits add up; the timer returns what is owed. What a codeword without the framing pattern is: log entry 108 (R365, R366, R369,
R370, R374, R375, R377). -/
def Obligations.LinksCarryFlitsInOrder : Prop :=
  ∀ (s : State) (p : Fin 8),
    (∀ f : Flit, s.linkRuns p = true → f.decoded = true → framed f.header = true → f.lcrcOk = true → (f.type = 1 ∨ f.type = 2) →
      (f.seq = (s.fport p).expect →
        ∃ t, exec (.flitReceive p f) s = .next t ∧ (t.fport p).expect = ((s.fport p).expect + 1) % 65536 ∧ (t.fport p).nakSent = false
          ∧ (t.fport p).cwSeen = some (cwCount f.header) ∧ t.mem = s.mem)
      ∧ (f.seq ≠ (s.fport p).expect → (s.fport p).nakSent = false →
        ∃ t, exec (.flitReceive p f) s = .next t ∧ (t.fport p).expect = (s.fport p).expect ∧ (t.fport p).nakSent = true ∧ t.mem = s.mem))
    ∧ (∀ f : Flit, s.linkRuns p = true → f.decoded = false → (s.fport p).nakSent = false →
      ∃ t, exec (.flitReceive p f) s = .next t ∧ (t.fport p).expect = (s.fport p).expect ∧ (t.fport p).nakSent = true
        ∧ t.fld (fbLinkStatUncorr p) = min (s.fld (fbLinkStatUncorr p) + 1) (2 ^ (fbLinkStatUncorr p).w - 1))
    ∧ (∀ f : Flit, s.linkRuns p = true → f.decoded = true → framed f.header = false → (s.fport p).nakSent = false →
      ∃ t, exec (.flitReceive p f) s = .next t ∧ (t.fport p).expect = (s.fport p).expect ∧ (t.fport p).nakSent = true
        ∧ (t.fport p).cwSeen = none ∧ t.mem = s.mem)
    ∧ (∀ e : BitVec 16, s.linkRuns p = true → e.toNat ∈ (s.fport p).replay → (s.fport p).replayAt = none →
      ∃ t, exec (.nak p e) s = .next t
        ∧ t.fld (fbLinkStatReplays p) = min (s.fld (fbLinkStatReplays p) + 1) (2 ^ (fbLinkStatReplays p).w - 1))
    ∧ (s.linkRuns p = true → (s.fport p).replay ≠ [] →
      ∃ t, exec (.replayTimeout p) s = .next t
        ∧ t.fld (fbLinkStatReplays p) = min (s.fld (fbLinkStatReplays p) + 1) (2 ^ (fbLinkStatReplays p).w - 1))
    ∧ (s.fbUp p = true → (s.fport p).egress = [] → (s.fport p).transit = [] →
      (∀ (cls : Fin 4) (vc : Fin 2) (n : Nat), ∃ t, exec (.credit p cls vc n) s = .next t
        ∧ tabGet 0 (t.fport p).credits (creditKey cls vc) = tabGet 0 (s.fport p).credits (creditKey cls vc) + n ∧ t.mem = s.mem)
      ∧ (∀ pool cap : Nat, (∃ t, exec (.poolAdv p pool cap false) s = .next t
          ∧ tabGet 0 (t.fport p).pools (pool % 2 ^ 15) = cap + 1 ∧ t.mem = s.mem)
        ∧ (∃ t, exec (.poolAdv p pool cap true) s = .next t ∧ tabGet 0 (t.fport p).pools (pool % 2 ^ 15) = 0))
      ∧ (∀ pool n : Nat, tabGet 0 (s.fport p).pools (pool % 2 ^ 15) ≠ 0 → ∃ t, exec (.poolRet p pool n) s = .next t
        ∧ tabGet 0 (t.fport p).pools (pool % 2 ^ 15) = tabGet 0 (s.fport p).pools (pool % 2 ^ 15) + n)
      ∧ (∃ t, exec (.creditReturnTimer p) s = .next t ∧ (t.fport p).owed = [] ∧ (∀ c ∈ s.poolsFor p, (t.credit c.pool).owed = 0)
        ∧ t.mem = s.mem))

/-- A port trains, identifies its neighbour and comes UP; a neighbour that is not the plan's quarantines it with MISMATCH, one of another sync mode
with code 4, none in time with MISSING, one where the plan has none with code 3; a link that goes down takes an UP port DOWN and forgets what was unacknowledged;
the loss of the fabric reference takes every UP port DOWN; DISABLE waits for the boundary (R363, R364, R371, R392, R393, R394, R424,
R561). -/
def Obligations.PortsTrainIdentifyAndFall : Prop :=
  ∀ (s : State) (p : Fin 8),
    (s.fb.fabRefLost = false → s.fbState p = portTraining →
      ∃ t, exec (.trainingComplete p) s = .next t ∧ t.fbState p = portIdent ∧ t.flag (fbSeenNeighbourValid p) = false ∧ t.mem = s.mem)
    ∧ (s.fb.fabRefLost = false → s.fbState p = portOff → s.fld (fbPlanNeighbourKind p) = 0 →
      ∃ t, exec (.trainingComplete p) s = .next t ∧ t.fbState p = portQuarantined ∧ t.fld (fbPortStateQreason p) = 3)
    ∧ (s.fbState p = portTraining → (s.fport p).retraining = true →
      ∃ t, exec (.retrainTimeout p) s = .next t ∧ t.fbState p = portDown ∧ (t.fport p).replay = [] ∧ (t.fport p).expect = 0)
    ∧ (s.fbState p = portIdent → s.flag (fbSeenNeighbourValid p) = false →
      ∃ t, exec (.identTimeout p) s = .next t ∧ t.fbState p = portQuarantined ∧ t.fld (fbPortStateQreason p) = 2)
    ∧ (∀ m : Ident, s.fbState p = portIdent →
      (s.identPlanned p m = true → s.expectsSync p m.sync = true → (s.fport p).rejoin = false → (s.fport p).egress = [] →
        (s.fport p).transit = [] →
        ∃ t, exec (.ident p m) s = .next t ∧ t.fbState p = portUp ∧ (t.fport p).owed = [] ∧ t.flag (fbSeenNeighbourValid p) = true)
      ∧ (s.identPlanned p m = false →
        ∃ t, exec (.ident p m) s = .next t ∧ t.fbState p = portQuarantined ∧ t.fld (fbPortStateQreason p) = 1)
      ∧ (s.identPlanned p m = true → s.expectsSync p m.sync = false →
        ∃ t, exec (.ident p m) s = .next t ∧ t.fbState p = portQuarantined ∧ t.fld (fbPortStateQreason p) = 4))
    ∧ (s.fbState p = portIdent ∨ s.fbState p = portUp ∨ s.fbState p = portQuarantined → (s.fport p).replay.length < 512 →
      ∃ t, exec (.identResend p) s = .next t ∧ (t.fport p).sent = (s.txHeader p, .ident (s.ownIdent p)) :: (s.fport p).sent
        ∧ (t.fport p).replay = (s.fport p).replay ++ [(s.fport p).next] ∧ sameControlSpace s t ∧ t.mem = s.mem)
    ∧ (s.fbState p = portUp →
      ∃ t, exec (.linkDown p) s = .next t ∧ t.fbState p = portDown ∧ (t.fport p).replay = [] ∧ (t.fport p).pools = [] ∧ t.mem = s.mem)
    ∧ (∀ b : Bool, ∃ t, exec (.portDisable .custodian p b) s = .next t ∧ (t.readReg (fbPortStateReg p)).getLsbD 62 = b
      ∧ sameControlSpace s t ∧ t.mem = s.mem)
    ∧ (s.dieRuns = true → s.fb.fabRefLost = false →
      ∃ t, exec .fabricRefMissing s = .next t ∧ t.fb.fabRefLost = true
        ∧ ∀ q : Fin 8, s.fbState q = portUp → t.fbState q = portDown)
    ∧ (s.fb.fabRefLost = true →
      ∃ t, exec .fabricRefRestore s = .next t ∧ t.fb.fabRefBack = true ∧ t.fb.fabRefLost = true ∧ sameControlSpace s t ∧ t.mem = s.mem)

/-- Packets for this module, from an UP port: a QUEUE_PACKET joins its credit pool; a WRITE or READ_RESP of the REMOTE region stands in
HBM, a WRITE of a cluster waits for its GATE_IN; a READ_REQ is answered with the region's bytes; SHARD_DATA gathers and SHARD_NONE fails
the attempt (the layout of their data is left open, log entry 32), SHARD_REQ for a shard not held is answered with SHARD_NONE and changes no volume
and no memory; a slot opens at its START (R249, R375, R382, R384). -/
def Obligations.PacketsAreDelivered : Prop :=
  ∀ (s : State) (p : Fin 8) (k : Packet),
    (s.delivers p k → ∀ c, (s.poolsFor p).find? (fun c => decide (c.pool = k.pool)) = some c →
      ∃ t q, exec (.queuePacket p k) s = .next t ∧ (t.credit k.pool).out = (s.credit k.pool).out + cellsOf k.data.length
        ∧ (t.credit k.pool).waiting = (s.credit k.pool).waiting ++ [q] ∧ q.data = k.data ∧ q.q = c.queue ∧ q.len = k.data.length
        ∧ t.mem = s.mem)
    ∧ (s.delivers p k → isHbm k.offset = true → isHbm (k.offset + k.data.length - 1) = true →
      s.inOwn k.dstPart [8] k.offset k.data.length = true → k.offset % 64 = 0 → k.tick = s.tick % 65536 →
      (∃ t, exec (.write p k) s = .next t ∧ t.bytes k.offset k.data.length = k.data ∧ sameMemoryBut s t k.offset (k.data.length + 63))
      ∧ (∃ t, exec (.readResp p k) s = .next t ∧ t.bytes k.offset k.data.length = k.data
        ∧ sameMemoryBut s t k.offset (k.data.length + 63)))
    ∧ (∀ l : ClusterId, s.delivers p k → clMem l ≤ k.offset → k.offset + k.data.length ≤ clMem l + clMemSize → k.data ≠ [] →
      s.clAvailable l = true → s.owns k.dstPart l = true → k.tick = s.tick % 65536 →
      ∃ t, exec (.write p k) s = .next t ∧ (t.fport p).held = (s.fport p).held ++ [{ k with cls := 2, op := 1 }] ∧ t.mem = s.mem)
    ∧ (∀ o vc e, let n := numAt k.data 6 2
      s.delivers p k → 8 ≤ k.data.length → 1 ≤ n → n ≤ 4096 → isHbm (k.offset + n - 1) = true → s.inOwn k.dstPart [8] k.offset n = true →
      k.tick = s.tick % 65536 → s.memClean k.offset n → k.src ≠ s.ownNumber p → s.route (s.ownNumber p) k.src = some (o, vc) →
      s.fbUp o = true → (s.fport o).open_ = none → e ∈ s.entriesOf o → s.fld (fbSlotTableJob o e) = k.job →
      s.fld (fbSlotTableClass o e) = 2 → s.flag (fbSlotTableInert o e) = false →
      ∃ t x, exec (.readReq p k) s = .next t ∧ (t.fport o).transit = (s.fport o).transit ++ [x] ∧ x.pkt.data = (s.hbmData k.offset n).1
        ∧ x.pkt.dest = k.src ∧ x.pkt.cls = 2 ∧ x.pkt.op = 3 ∧ x.vc = vc ∧ t.mem = s.mem)
    ∧ (s.delivers p k → ∃ t, exec (.shardReq p k) s = .next t ∧ t.core.gpr = s.core.gpr
      ∧ (let f := Config.shardFields k.data
        s.holdsShard f.1 f.2.1 f.2.2.1 = none → t.sh = s.sh ∧ t.mem = s.mem
          ∧ ∀ o vc, s.route (s.fld fbCoordModule) k.src = some (o, vc) → s.fbUp o = true → s.slotOwned o = true →
            ∃ x, (t.fport o).egress = (s.fport o).egress ++ [x] ∧ x.pkt.cls = 3 ∧ x.pkt.op = 3 ∧ x.pkt.dest = k.src))
    ∧ (∀ h, let f := Config.shardFields k.data
      s.delivers p k → s.shardWaits f.1 f.2.1 f.2.2.1 k.src = some h → tabFind (s.vol h).mending f.2.2.1 = none →
      (k.poison.any id = false → f.2.2.2.1 = ((tabFind (s.vol h).partials f.2.2.1).getD []).length →
        f.2.2.2.1 + f.2.2.2.2.length < ((s.vol h).shards.getD f.2.2.1 (0, 0)).1 + 64 →
        ∃ t, exec (.shardData p k) s = .next t
          ∧ tabFind (t.vol h).partials f.2.2.1 = some ((tabFind (s.vol h).partials f.2.2.1).getD [] ++ f.2.2.2.2) ∧ t.mem = s.mem)
      ∧ ((s.vol h).tries f.2.2.1 < 3 →
        ∃ t, exec (.shardNone p k) s = .next t ∧ (t.vol h).tries f.2.2.1 = (s.vol h).tries f.2.2.1 + 1 ∧ t.mem = s.mem))
    ∧ (∀ e : Fin 256, s.guarded = false → s.idle = false → s.flag (fbSlotTableValid p e) = true → s.fb.out = false →
      ∃ t, exec (.fabricSlotOpen p e) s = .next t ∧ (t.fport p).open_ = some e.val
        ∧ t.t = max s.t (s.fld (fbSlotTableStart p e)) ∧ t.mem = s.mem)

/-- Synchronisation: TIME exchanges are counted and remembered; a CTICK that agrees is noted, one that does not makes a locked module
exit with cause 2; announcements join the list, an EXIT not heard before is noted and counted; a root lost for the holdover's length ends
LOCKED; the SYNC_REF monitor counts edges and withdraws REF_OK out of its window (R398, R406, R407, R410, R411, R414, R416, R417, R544). -/
def Obligations.SynchronisationFollowsItsMessages : Prop :=
  ∀ (s : State) (p : Fin 8),
    (∀ m : TimeMsg, s.timePort p = true → s.fld (fbSeenNeighbourModule p) ∉ s.fb.exited →
      ∃ t, exec (.time p m) s = .next t ∧ t.fld (fbTimeExchanges p) = (s.fld (fbTimeExchanges p) + 1) % 65536
        ∧ (t.fport p).lastRx = some m ∧ t.tick = s.tick ∧ t.mem = s.mem)
    ∧ (∀ lt : Int, s.timePort p = true →
      ∃ t n, exec (.timeSend p lt) s = .next t ∧ (t.fport p).tx = ((n, lt) :: (s.fport p).tx).take 16 ∧ sameControlSpace s t)
    ∧ (∀ module tick edges : Nat, s.ctickPort p = true → s.fld (fbSeenNeighbourModule p) ∉ s.fb.exited →
      (tick = s.tick % 2 ^ 32 → edges = s.ctickEdges →
        ∃ t, exec (.ctick p module tick edges) s = .next t ∧ p.val ∈ t.fb.agreed ∧ t.fb.exitAt = s.fb.exitAt ∧ sameControlSpace s t)
      ∧ (¬ (tick = s.tick % 2 ^ 32 ∧ edges = s.ctickEdges) → s.flag ctSyncModeLocked = true → s.fb.exitAt = none →
        ∃ t, exec (.ctick p module tick edges) s = .next t ∧ t.fb.exitAt = some (s.nextTick, 2) ∧ t.mem = s.mem))
    ∧ (∀ edges : Nat, s.ctickPort p = true → (s.fport p).replay.length < 512 →
      ∃ t, exec (.ctickSend p edges) s = .next t
        ∧ (t.fport p).sent = (s.txHeader p, .ctick (s.fld fbCoordModule) (s.tick % 2 ^ 32) (edges % 2 ^ 16)) :: (s.fport p).sent ∧ sameControlSpace s t)
    ∧ (∀ module aseq action arg tgt : Nat, s.syncPort p = true → s.fb.seen.contains (module, aseq) = false → (action = 2 ∨ action = 3) →
      s.tickReached tgt = false → (s.tickDue tgt && decide (s.tickNs < s.t + 250)) = false → s.cat.domain.length < 64 →
      ∃ t a, exec (.announce p module aseq action arg tgt) s = .next t ∧ a ∈ t.cat.domain ∧ a.tgt = tgt ∧ a.action = action ∧ a.arg = arg
        ∧ a.module = module ∧ a.remote = true ∧ t.cat.domain.length = s.cat.domain.length + 1 ∧ (module, aseq) ∈ t.fb.seen)
    ∧ (∀ module cause tgt : Nat, s.exitPort p = true → module ∉ s.fb.exited →
      ∃ t, exec (.exit p module cause tgt) s = .next t ∧ module ∈ t.fb.exited
        ∧ t.fld fbSyncStatExitsSeen = min (s.fld fbSyncStatExitsSeen + 1) (2 ^ fbSyncStatExitsSeen.w - 1) ∧ t.mem = s.mem)
    ∧ (s.syncMode = 1 → s.fb.noParent = true →
      ∃ t, exec .holdoverExpiry s = .next t ∧ t.flag ctSyncModeLocked = false ∧ t.flag fbSyncStatHoldover = false)
    ∧ (s.dieRuns = true →
      (∃ t, exec .syncRefWindow s = .next t ∧ t.fb.refEdges = 0 ∧ t.fld btInputsRefCount = s.fb.refEdges % 2 ^ 32
        ∧ ((99990 ≤ s.fb.refEdges ∧ s.fb.refEdges ≤ 100010) → t.fb.refRun = min 10 (s.fb.refRun + 1))
        ∧ (¬ (99990 ≤ s.fb.refEdges ∧ s.fb.refEdges ≤ 100010) → t.fb.refRun = 0 ∧ t.flag fbSyncStatRefOk = false))
      ∧ (∃ t, exec .syncRefMissing s = .next t ∧ t.fb.refMissing = true ∧ t.flag fbSyncStatRefOk = false)
      ∧ (∀ n, 50 ≤ n → ∃ t, exec (.syncRefEdge n) s = .next t ∧ t.fb.refEdges = s.fb.refEdges + 1 ∧ t.fb.refMissing = false))

/-! Records and registers. -/

/-- The record queue: mirroring brings MIRROR up to WR and PENDING to 0 (all held records at once: log entry 62); a write of IN_ERR_HEAD
moves the accessor's own RD; the owner's RESUME of a partition that may resume is taken. A write that is not aligned and 64 bits wide
changes nothing; one that is, by the custodian to a register below 0x100000, takes each bit by its access type: RW, RWL before the lock,
W1C (R12, R14, R15, R448, R450, R452). -/
def Obligations.RecordsAndWritesFollowTheirRules : Prop :=
  ∀ s : State,
    (s.dieRuns = true → ∃ t, exec .recordMirror s = .next t ∧ t.fld inErrStatMirror = s.fld inErrHeadWr ∧ t.fld inErrStatPending = 0
      ∧ t.ig.lastHeld = false ∧ t.mem = s.mem)
    ∧ (∀ (acc : Accessor) (rd : BitVec 32), (∀ p f, acc ≠ .vf p f) →
      ∃ t, exec (.inErrHead acc rd) s = .next t ∧ t.reg (instOff (accNum acc) inErrHeadReg) = rd.setWidth 64
        ∧ sameControlSpaceBut s t (instOff (accNum acc) inErrHeadReg) ∧ t.mem = s.mem ∧ t.core = s.core)
    ∧ (∀ (p : Fin 4) (part : Fin 16), s.portOwns p part = true → s.mayResume part = true →
      ∃ t, exec (.resume (.host p) part) s = .next t ∧ part.val ∈ t.ig.resume ∧ sameControlSpace s t ∧ t.mem = s.mem)
    ∧ (∀ (acc : Accessor) (off width : Nat) (v : W64), width ≠ 8 ∨ off % 8 ≠ 0 → exec (.registerWrite acc off width v) s = .next s)
    ∧ (∀ (off : Nat) (v : W64) (d : RegDesc), s.dieRuns = true → off % 8 = 0 → off < 0x100000 → regAt off = some d → d.rwt = 0 →
      d.rw &&& d.w1c = 0 → d.rwl &&& d.w1c = 0 →
      ∃ t, exec (.registerWrite .custodian off 8 v) s = .next t
        ∧ (∀ i, i < 64 → (t.reg off).getLsbD i =
            (if d.rw.testBit i || (!s.flag btLockLock && d.rwl.testBit i) then v.getLsbD i
             else if d.w1c.testBit i then (s.reg off).getLsbD i && !v.getLsbD i else (s.reg off).getLsbD i))
        ∧ sameControlSpaceBut s t off ∧ t.mem = s.mem ∧ t.core = s.core)

/-! Heat and power. -/

/-- The thermal block: a sample reads every sensor's count; FAST clears and the thermal cap rises after their times below; the 2 s timer
of a critical shutdown trips a stage that is still on; THROT_N is followed, unless it is unstable, and its hold is recorded once; the eye
of a lane is measured, a low one is a strike, and below three strikes the lane is GOOD or WARN (R473, R475, R505, R506, R512, R514,
R543). -/
def Obligations.HeatIsSampledAndThrottled : Prop :=
  ∀ s : State,
    (∀ counts : List Nat, s.sampling = true →
      ∃ t, exec (.sensorSample counts) s = .next t
        ∧ ∀ n, n < 304 → t.fld (thSensorRaw n) = counts.getD n 0 % 2 ^ 13 ∧ t.flag (thSensorValid n) = true)
    ∧ (1000 ≤ s.pw.below → s.flag pwStatusFast = true →
      ∃ t, exec .fastClear s = .next t ∧ t.flag pwStatusFast = false ∧ t.pw.fastClear = true ∧ t.mem = s.mem)
    ∧ (10 ≤ s.pw.belowRise →
      ∃ t, exec .thermCapRise s = .next t ∧ t.fld pwStatusThermCap = min 1800 (s.fld pwStatusThermCap + 100) ∧ t.pw.belowRise = 0 ∧ t.mem = s.mem)
    ∧ (s.pw.crit ≠ none → s.flag (pwStageOn 0) = true →
      ∃ t, exec .critTimeout s = .next t ∧ (0, TripCause.critTimer) ∈ t.pw.latch ∧ t.flag (pwStageOn 0) = false
        ∧ t.flag (pwStageOn 1) = false ∧ t.pw.pwrOk = false)
    ∧ (∀ low : Bool, 5 ≤ s.fld btBootStep → s.cu.throtRaw ≠ low → s.flag btInputsThrotUnstable = false → s.cu.throtTimes = [] →
      ∃ t, exec (.throtNChange low) s = .next t ∧ t.cu.throtRaw = low ∧ t.flag btInputsThrot = low ∧ t.mem = s.mem)
    ∧ (s.flag btInputsThrot = true → s.cu.throtStuckDone = false →
      ∃ t, exec .throtStuck s = .next t ∧ t.cu.throtStuckDone = true ∧ sameControlSpace s t ∧ t.mem = s.mem)
    ∧ (s.flag btInputsThrotUnstable = true →
      ∃ t, exec .throtUnstableClear s = .next t ∧ t.flag btInputsThrotUnstable = false ∧ t.flag btInputsThrot = s.cu.throtRaw)
    ∧ (∀ (k : Fin 64) (h w : BitVec 8),
      let strikes := if h.toNat < 16 ∨ w.toNat ≤ 38 then min 3 (s.fld (caLaneStrikes k) + 1) else 0
      strikes ≠ 3 →
      ∃ t, exec (.laneEyeMeasurement k h w) s = .next t ∧ t.fld (caLaneEyeH k) = h.toNat ∧ t.fld (caLaneEyeW k) = w.toNat
        ∧ t.fld (caLaneMeas k) = (s.fld (caLaneMeas k) + 1) % 2 ^ (caLaneMeas k).w ∧ t.fld (caLaneStrikes k) = strikes
        ∧ t.fld (caLaneState k) = (if h.toNat < 30 ∨ w.toNat < 64 then 2 else 1) ∧ t.mem = s.mem)

/-- The survey and the supplies: a conversion's code goes to SV_RESULT and a start or an urgent request begins one; an average above the
budget lowers the cap by 100 MHz; a target frequency or voltage within its limits is taken, one below its limit is not; a ramp ends at
its target; a trip or an input out of range turns stages off; CL_PSTATE takes the requested state (R137, R483, R484, R489, R490, R491,
R497, R498, R500). -/
def Obligations.SuppliesFollowTheSurvey : Prop :=
  ∀ s : State,
    (∀ (code : BitVec 12) (c : Fin 96) (u : Bool) (w : Nat), s.pw.running = some (c.val, u, w) →
      ∃ t, exec (.surveyConversion code) s = .next t ∧ t.fld svResultCode = code.toNat ∧ t.fld svResultCh = c.val
        ∧ t.flag svResultValid = true ∧ t.flag svResultUrgent = u)
    ∧ (s.pw.running = none → s.flag svCtrlEn = true →
      (s.flag svCtrlCont = false → ∃ t, exec (.svStart .custodian) s = .next t ∧ t.pw.running = some (s.fld svSelectCh, false, 0)
        ∧ t.flag svCtrlBusy = true)
      ∧ (∀ ch : BitVec 7, ch.toNat < 96 → 2 ∉ s.pw.urgent →
        ∃ t, exec (.svUrgent .custodian ch) s = .next t ∧ t.pw.running = some (ch.toNat, true, 0))
      ∧ (∀ k : Fin 2, k.val ∉ s.pw.urgent →
        ∃ t, exec (.overcurrentWatcher k) s = .next t ∧ t.pw.running = some (6 + k.val, true, 0)))
    ∧ (∀ meas : Nat, s.fld pwBudgetLimit < meas →
      ∃ t, exec (.budgetAverage meas) s = .next t ∧ t.fld pwBudgetMeas = min meas 4095 ∧ t.fld pwBudgetCap = s.fld pwBudgetCap - 100)
    ∧ (∀ (d : Fin 8) (f : BitVec 11), (800 ≤ f.toNat / 25 * 25 → f.toNat / 25 * 25 ≤ 1800 →
        ∃ t, exec (.pwDomainFreq .custodian d f) s = .next t ∧ t.fld (pwDomainFreqTarget d) = f.toNat / 25 * 25 ∧ t.mem = s.mem)
      ∧ (f.toNat / 25 * 25 < 800 → exec (.pwDomainFreq .custodian d f) s = .next s))
    ∧ (∀ (d : Fin 8) (v : BitVec 10),
      (s.fld (pwDomainVoltVmin d) ≤ v.toNat → 600 ≤ v.toNat → v.toNat ≤ 850 → v.toNat % 5 = 0 →
        ∃ t, exec (.pwDomainVolt .custodian d v) s = .next t ∧ t.fld (pwDomainVoltTarget d) = v.toNat ∧ t.mem = s.mem)
      ∧ (v.toNat < s.fld (pwDomainVoltVmin d) →
        ∃ t, exec (.pwDomainVolt .custodian d v) s = .next t ∧ t.flag (pwDomainVoltRefused d) = true
          ∧ t.fld (pwDomainVoltTarget d) = s.fld (pwDomainVoltTarget d) ∧ t.mem = s.mem))
    ∧ (∀ d : Fin 8, ∃ t, exec (.regulatorRampDone d) s = .next t ∧ t.fld (pwDomainVoltCur d) = s.fld (pwDomainVoltTarget d)
      ∧ t.flag (pwDomainVoltVok d) = true ∧ t.mem = s.mem)
    ∧ (∀ (k : Fin 2) (c : TripCause), (∀ e ∈ s.pw.latch, e.1 ≠ k.val) →
      ∃ t, exec (.stageTrip k c) s = .next t ∧ (k.val, c) ∈ t.pw.latch ∧ t.flag (pwStageOn 0) = false ∧ t.flag (pwStageOn 1) = false
        ∧ t.pw.pwrOk = false)
    ∧ (∀ (k : Fin 2) (mv : Nat), s.flag (pwStageOn k) = true → inputOk true mv = false →
      ∃ t, exec (.stageLockout k mv) s = .next t ∧ t.flag (pwStageOn k) = false ∧ t.pw.pwrOk = false)
    ∧ (∀ (l : ClusterId) (v : W64), s.clAvailable l = true →
      ∃ t, exec (.clPstate .custodian l v) s = .next t ∧ t.fld (clPstateMode l) = bitsOf v.toNat 0 2
        ∧ tabFind t.pw.wake l = (if bitsOf v.toNat 0 2 = 0 then some ((tabFind s.pw.wake l).getD s.now) else none)
        ∧ sameControlSpaceBut s t (clPstateReg l) ∧ t.mem = s.mem)

/-! Start-up, the custodian, the pins. -/

/-- Resets and start-up: MOD_RST_N is noted and asks for a reset, power and a reset begin the boot with their kind and lose memory, a
reset keeps the cells; boot steps 6, 8 and 9 that succeed are followed by the next; the loss of the standby supply turns everything off;
a host link comes up after PERST; the boundary scan takes its instruction, its driving ones only with the right (log entries 62 to 65 and
71) (R286, R287, R520, R524, R527, R528, R529, R530, R539, R541, R542, R558). -/
def Obligations.ResetsBootAndPins : Prop :=
  ∀ s : State,
    (s.pw.standby = true → s.flag btInputsModRst = false → s.cu.modRstTimes = [] →
      ∃ t, exec .modRstAssert s = .next t ∧ t.flag btInputsModRst = true ∧ t.cu.resetDue ≠ none ∧ t.mem = s.mem)
    ∧ (s.flag btInputsModRst = true → s.cu.resetDue = none → s.fld btBootStep ≠ 17 →
      ∃ t, exec .modRstRelease s = .next t ∧ t.flag btInputsModRst = false ∧ t.fld btBootStep = s.fld btBootStep ∧ t.mem = s.mem)
    ∧ (s.flag btInputsModRst = true → s.cu.modRstHeldDone = false →
      ∃ t, exec .modRstHeld s = .next t ∧ t.cu.modRstHeldDone = true ∧ sameControlSpace s t ∧ t.mem = s.mem)
    ∧ (s.pw.standby = false →
      ∃ t, exec .powerOn s = .next t ∧ t.pw.standby = true ∧ t.fld btBootStep = 1 ∧ t.fld btBootResetKind = 0 ∧ t.mem.bytes = [])
    ∧ (s.pw.standby = true → s.flag btInputsModRst = false →
      (∃ t, exec (.resetStart true) s = .next t ∧ t.fld btBootStep = 1 ∧ t.fld btBootResetKind = 1 ∧ t.mem.bytes = []
        ∧ t.xb.cells = s.xb.cells)
      ∧ (∃ t, exec (.resetStart false) s = .next t ∧ t.fld btBootResetKind = 2 ∧ t.mem.bytes = [] ∧ t.xb.cells = s.xb.cells
        ∧ t.fld btBootStep = (if s.flag (pwStageOn 0) && s.flag (pwStageOn 1) then 4 else 1)))
    ∧ (s.pw.standby = true →
      (s.fld btBootStep = 6 → s.coolEnough = true → ∃ t, exec (.bootStep true) s = .next t ∧ t.fld btBootStep = 7 ∧ t.mem = s.mem)
      ∧ (s.fld btBootStep = 8 →
        ∃ t, exec (.bootStep true) s = .next t ∧ t.fld btBootStep = 9 ∧ t.fld ctCatStateState = 1 ∧ t.mem = s.mem)
      ∧ (s.fld btBootStep = 9 → ∃ t, exec (.bootStep true) s = .next t ∧ t.fld btBootStep = 10))
    ∧ (s.pw.standby = true → ∃ t, exec .standbySupplyLoss s = .next t ∧ t.pw.standby = false ∧ t.flag (pwStageOn 0) = false
      ∧ t.flag (pwStageOn 1) = false ∧ t.pw.pwrOk = false)
    ∧ (∀ p : Fin 4, ∃ t, exec (.perstpNRelease p) s = .next t ∧ (t.hport p).perst = false ∧ sameControlSpace s t ∧ t.mem = s.mem)
    ∧ (∀ (p : Fin 4) (sp : BitVec 3) (w : BitVec 4), s.dieRuns = true → (s.hport p).perst = false → 6 ≤ s.fld btBootStep →
      s.fld btBootStep ≤ 15 → ∃ t, exec (.hostLinkUp p sp w) s = .next t ∧ (t.hport p).link = true ∧ t.fld (hpStatusSpeed p) = sp.toNat
        ∧ t.fld (hpStatusWidth p) = w.toNat ∧ t.mem = s.mem)
    ∧ (∀ j5 : Bool, s.chainOn j5 = true → ∀ (c : Instr) (n : Nat),
      (c, n) ∈ [(Instr.bypass j5, 1), (Instr.idcode j5, 2), (Instr.samplePreload j5, 3), (Instr.extest j5, 4), (Instr.clamp j5, 5),
        (Instr.highz j5, 6)] →
      ∃ t, exec c s = .next t ∧ t.cu.instrReg = (if n < 4 ∨ bitOf s.debugRights 1 then n else 1)
        ∧ t.cu.pinsDriven = decide (4 ≤ n ∧ bitOf s.debugRights 1 = true) ∧ t.cu.tapReset = false ∧ sameControlSpace s t ∧ t.mem = s.mem)
    ∧ (∀ (j5 : Bool) (off : Nat), s.chainOn j5 = true → ∃ t, exec (.dbacc j5 (.read off)) s = .next t ∧ t.cu.instrReg = 7
      ∧ (off % 8 ≠ 0 ∨ 0x100000 ≤ off → t.cu.dbData = 0) ∧ t.mem = s.mem ∧ t.core = s.core)
    ∧ (∀ low : Bool, (Config.isAD = true → ∃ t, exec (.dbgPrsntNChange low) s = .next t ∧ t.cu.chainJ5 = low ∧ t.cu.tapReset = true)
      ∧ (Config.isAD = false → exec (.dbgPrsntNChange low) s = .next s))

/-- Vendor messages to the custodian: GET_BOOT and READ_LOG answer and change nothing else; SET_PLAN, SET_ALERT, SET_TIME, GET_EVENTS,
GET_DEBUG_NONCE, SET_DEBUG_TOKEN and REVOKE_DEBUG do what they name; a reset is noted in a session and refused with status 3 without one
(statuses: log entries 66 and 68) (R525, R535, R538, R540, R541). -/
def Obligations.VendorMessagesAreAnswered : Prop :=
  ∀ (s : State) (m : Mgmt), s.reached m true = true → m.lenOk = true →
    (∃ t, exec (.getBoot m) s = .next t ∧ sameButResponse s t ∧ t.cu.resp =
      [0, (s.reg btBootReg).toNat, (s.reg ctCatStateReg).toNat, (s.reg pwStatusReg).toNat])
    ∧ (∀ p : Plan, (p.secret = none ∨ s.secured m = true) →
      ∃ t, exec (.setPlan m p) s = .next t ∧ t.cu.em.plan = some p ∧ sameControlSpace s t ∧ t.mem = s.mem)
    ∧ (∀ (first : BitVec 32) (n : Nat), 1 ≤ n → n ≤ 4 →
      ∃ t, exec (.readLog m first n) s = .next t ∧ sameButResponse s t ∧ t.cu.resp.head? = some 0)
    ∧ (∃ t, exec (.getEvents m) s = .next t ∧ t.cu.resp = 0 :: s.cu.alerts ∧ t.cu.alerts = [] ∧ t.cu.alertN = false ∧ sameControlSpace s t)
    ∧ (∀ sev, 1 ≤ sev → sev ≤ 5 →
      ∃ t, exec (.setAlert m sev) s = .next t ∧ t.cu.alertSev = sev ∧ t.cu.resp = [0] ∧ sameControlSpace s t ∧ t.mem = s.mem)
    ∧ (∀ x : W64, ∃ t, exec (.setTime m x) s = .next t ∧ t.cu.wall = some (x.toNat, s.now) ∧ sameControlSpace s t ∧ t.mem = s.mem)
    ∧ (∃ (t : State) (n : W64), exec (.getDebugNonce m) s = .next t ∧ t.cu.nonce = some n ∧ t.cu.resp = [0, n.toNat] ∧ sameControlSpace s t)
    ∧ (∀ k : Token, s.tokenTest k = 0 →
      ∃ t d, exec (.setDebugToken m k) s = .next t ∧ t.cu.token = some (k.rights % 4, s.now + k.seconds * 1000000000, d)
        ∧ t.cu.nonce = none ∧ t.cu.resp = [0] ∧ t.mem = s.mem)
    ∧ (∃ t, exec (.revokeDebug m) s = .next t ∧ t.cu.token = none ∧ t.cu.resp = [0] ∧ t.mem = s.mem)
    ∧ (s.secured m = true → ∀ full : Bool,
      ∃ t, exec (if full then .resetFull m else .resetModule m) s = .next t
        ∧ t.cu.resetDue = some (full || s.cu.resetDue.getD false) ∧ t.cu.resp = [0] ∧ sameControlSpace s t ∧ t.mem = s.mem)
    ∧ (s.secured m = false → ∀ c ∈ [Instr.resetFull m, Instr.resetModule m],
      ∃ t, exec c s = .next t ∧ sameButResponse s t ∧ t.cu.resp = [3])
    ∧ (s.cu.token ≠ none → ∃ t, exec .debugTokenExpiry s = .next t ∧ t.cu.token = none ∧ t.mem = s.mem)

/-- Standard messages: MCTP control sets and gives the EID; the base, monitoring and measurement commands answer and change nothing;
KEY_EX opens the session; a firmware update goes REQUEST, TABLE, UPDATE, DATA, TRANSFER, VERIFY, APPLY, ACTIVATE, each from its state,
and CANCEL drops it (log entries 67 and 68) (R534, R536, R537). -/
def Obligations.StandardMessagesAreAnswered : Prop :=
  ∀ (s : State) (m : Mgmt), s.reached m false = true →
    (∀ a, ∃ t, exec (.mctpControl m 1 a) s = .next t ∧ t.cu.eid = a % 256 ∧ t.cu.resp = [0, a % 256] ∧ sameControlSpace s t)
    ∧ (∀ (c : Instr) (r : List Nat),
      (c, r) ∈ [(Instr.mctpControl m 2 0, [0, s.cu.eid]), (.getTid m, 0 :: Config.answer 256), (.getPldmVersion m, 0 :: Config.answer 257),
        (.getPldmTypes m, [0, 0, 2, 5]), (.pdrRepository m, 0 :: Config.answer 258),
        (.getStateSensorReadings m 0, [0, s.fld btBootStep]), (.getStateSensorReadings m 1, [0, s.fld ctCatStateState]),
        (.getStatus m, [0, pldmCode s.cu.pldm]), (.getMeasurements m, 0 :: s.measurements.foldl (· ++ ·) [])] →
      ∃ t, exec c s = .next t ∧ sameButResponse s t ∧ t.cu.resp = r)
    ∧ (∀ n, ∃ t, exec (.getPldmCommands m n) s = .next t ∧ sameButResponse s t
      ∧ t.cu.resp = (match pldmCommands n with | some l => 0 :: l | none => [1]))
    ∧ (∀ n, ∃ t, exec (.getSensorReading m n) s = .next t ∧ sameButResponse s t
      ∧ t.cu.resp = (match s.sensorValue n with | some v => [0, v] | none => [1]))
    ∧ (∃ t, exec (.keyEx m) s = .next t ∧ t.cu.session = true ∧ t.cu.resp = [0] ∧ sameControlSpace s t ∧ t.mem = s.mem)
    ∧ (s.cu.pldm = .idle → ∃ t, exec (.requestUpdate m) s = .next t ∧ t.cu.pldm = .requested ∧ t.cu.comps = [] ∧ sameControlSpace s t)
    ∧ (∀ l, s.cu.pldm = .requested → ∃ t, exec (.passComponentTable m l) s = .next t ∧ t.cu.pldm = .tabled ∧ t.cu.comps = l)
    ∧ (∀ c n, s.cu.pldm = .tabled ∨ s.cu.pldm = .applied → c ∈ s.cu.comps → s.inRecovery = false →
      ∃ t, exec (.updateComponent m c n) s = .next t ∧ t.cu.pldm = .receiving ∧ t.cu.comp = some c ∧ t.cu.compSize = n ∧ t.cu.update = [])
    ∧ (∀ d, s.cu.pldm = .receiving → ∃ t, exec (.requestFirmwareData m d) s = .next t ∧ t.cu.update = (s.cu.update ++ d).take s.cu.compSize
      ∧ t.cu.pldm = .receiving)
    ∧ (∀ c, s.cu.pldm = .receiving → s.cu.comp = some c → s.cu.update.length = s.cu.compSize →
      ∃ t, exec (.transferComplete m true) s = .next t ∧ t.cu.pldm = .received ∧ t.cu.comp = some c)
    ∧ (∀ c, s.cu.pldm = .received → s.cu.comp = some c →
      ∃ t, exec .verifyComplete s = .next t ∧ t.cu.pldm = (if s.componentOk c then .verified else .tabled))
    ∧ (∀ c, s.cu.pldm = .verified → s.cu.comp = some c →
      ∃ t, exec .applyComplete s = .next t ∧ t.cu.pldm = .applied ∧ t.cu.ready = s.cu.ready ++ [c] ∧ t.cu.comp = none)
    ∧ (s.cu.pldm = .applied → s.cu.ready ≠ [] → ∃ t, exec (.activateFirmware m) s = .next t ∧ t.cu.pldm = .idle ∧ t.cu.ready = [])
    ∧ (s.cu.pldm = .receiving ∨ s.cu.pldm = .received ∨ s.cu.pldm = .verified →
      ∃ t, exec (.cancelUpdateComponent m) s = .next t ∧ t.cu.pldm = .tabled ∧ t.cu.comp = none)
    ∧ (s.cu.pldm ≠ .idle → s.cu.pldm ∈ [Pldm.requested, .tabled, .receiving, .received, .verified, .applied] →
      ∃ t, exec (.cancelUpdate m) s = .next t ∧ t.cu.pldm = .idle ∧ t.cu.resp = [0])
end

