-- ==== Sys2Proof/Laws/Bytes.lean ====
section
/-! SUPPORT. Byte strings: the little-endian bytes of a number give the number back, and what is read from the front of a string. -/
namespace Sys2Proof.Machine
open Sys2Proof

@[simp] theorem leBytes_length (n v : Nat) : (leBytes n v).length = n := by
  induction n generalizing v with
  | zero => rfl
  | succ n ih => simp [leBytes, ih]

/-- The little-endian bytes of a number read as the number, wrapped to their width (R11). -/
theorem leNat_leBytes (n v : Nat) : leNat (leBytes n v) = v % 256 ^ n := by
  induction n generalizing v with
  | zero => simp [leBytes, leNat, Nat.mod_one]
  | succ n ih =>
    have e : (2 : Nat) ^ 8 = 256 := rfl
    rw [leBytes, leNat, ih, BitVec.toNat_ofNat, e, Nat.pow_succ', Nat.mod_mul]

/-- What stands in the front bytes of a byte string reads back. -/
theorem bytesAt_append (a b c : List Byte) : bytesAt (a ++ (b ++ c)) a.length b.length = b := by
  simp [bytesAt]

@[simp] theorem bytesAt_length (l : List Byte) (off n : Nat) : (bytesAt l off n).length = n := by
  simp only [bytesAt, List.length_append, List.length_replicate, List.length_take, List.length_drop]
  omega

/-- A number laid down in a byte string reads back, wrapped to its width. -/
theorem numAt_leBytes (a c : List Byte) (n v : Nat) : numAt (a ++ (leBytes n v ++ c)) a.length n = v % 256 ^ n := by
  have h := bytesAt_append a (leBytes n v) c
  rw [leBytes_length] at h
  rw [numAt, h, leNat_leBytes]

end Sys2Proof.Machine
end

