-- ==== Sys2Proof/Laws/Tables.lean ====
section
/-! SUPPORT. Laws of the sparse tables: what is read after a write, and that every table operation keeps the canonical form. -/
namespace Sys2Proof.Machine
open Sys2Proof

variable {α : Type}

theorem tabFind_tabErase_same (t : List (Nat × α)) (k : Nat) : tabFind (tabErase t k) k = none := by
  induction t with
  | nil => rfl
  | cons e r ih =>
    obtain ⟨j, v⟩ := e
    by_cases h : j = k
    · simpa [tabErase, h] using ih
    · simpa [tabErase, h, tabFind] using ih

theorem tabFind_tabErase_ne (t : List (Nat × α)) {k i : Nat} (h : i ≠ k) : tabFind (tabErase t k) i = tabFind t i := by
  induction t with
  | nil => rfl
  | cons e r ih =>
    obtain ⟨j, v⟩ := e
    by_cases hk : j = k
    · subst hk
      have : ¬ j = i := fun e => h e.symm
      simpa [tabErase, tabFind, this] using ih
    · by_cases hi : j = i
      · simp [tabErase, tabFind, hi, h]
      · simpa [tabErase, tabFind, hk, hi] using ih

theorem tabFind_tabInsert_same (t : List (Nat × α)) (k : Nat) (v : α) (h : tabFind t k = none) :
    tabFind (tabInsert t k v) k = some v := by
  induction t with
  | nil => simp [tabInsert, tabFind]
  | cons e r ih =>
    obtain ⟨j, u⟩ := e
    by_cases hj : j = k
    · simp [tabFind, hj] at h
    · rw [tabFind, if_neg hj] at h
      by_cases hk : k < j
      · simp [tabInsert, hk, tabFind]
      · rw [tabInsert, if_neg hk, tabFind, if_neg hj]
        exact ih h

theorem tabFind_tabInsert_ne (t : List (Nat × α)) {k i : Nat} (v : α) (h : i ≠ k) :
    tabFind (tabInsert t k v) i = tabFind t i := by
  have hk : ¬ k = i := fun e => h e.symm
  induction t with
  | nil => simp [tabInsert, tabFind, hk]
  | cons e r ih =>
    obtain ⟨j, u⟩ := e
    by_cases hl : k < j
    · simp [tabInsert, hl, tabFind, hk]
    · by_cases hj : j = i
      · rw [tabInsert, if_neg hl, tabFind, tabFind, if_pos hj, if_pos hj]
      · simpa [tabInsert, hl, tabFind, hj] using ih

/-- A table reads the value last written at a key. -/
@[simp] theorem tabGet_tabSet_same [DecidableEq α] (d : α) (t : List (Nat × α)) (k : Nat) (v : α) :
    tabGet d (tabSet d t k v) k = v := by
  by_cases h : v = d
  · simp [tabGet, tabSet, h, tabFind_tabErase_same]
  · simp [tabGet, tabSet, h, tabFind_tabInsert_same _ _ _ (tabFind_tabErase_same t k)]

/-- A write leaves every other key alone. -/
theorem tabGet_tabSet_ne [DecidableEq α] (d d' : α) (t : List (Nat × α)) {k i : Nat} (v : α) (h : i ≠ k) :
    tabGet d (tabSet d' t k v) i = tabGet d t i := by
  by_cases hv : v = d'
  · simp [tabGet, tabSet, hv, tabFind_tabErase_ne t h]
  · simp [tabGet, tabSet, hv, tabFind_tabInsert_ne _ v h, tabFind_tabErase_ne t h]

theorem tabRising_mono (t : List (Nat × α)) {m n : Nat} (h : m ≤ n) (r : tabRising n t = true) : tabRising m t = true := by
  cases t with
  | nil => rfl
  | cons e r' =>
    obtain ⟨k, v⟩ := e
    simp [tabRising] at r ⊢
    exact ⟨by omega, r.2⟩

theorem tabRising_filter (t : List (Nat × α)) (p : Nat × α → Bool) (n : Nat) (h : tabRising n t = true) :
    tabRising n (t.filter p) = true := by
  induction t generalizing n with
  | nil => rfl
  | cons e r ih =>
    obtain ⟨k, v⟩ := e
    simp [tabRising] at h
    by_cases hp : p (k, v)
    · simp [hp, tabRising, h.1, ih _ h.2]
    · simpa [hp] using ih n (tabRising_mono r (by omega) h.2)

theorem tabRising_tabInsert (t : List (Nat × α)) (k : Nat) (v : α) (n : Nat) (hn : n ≤ k)
    (hf : tabFind t k = none) (h : tabRising n t = true) : tabRising n (tabInsert t k v) = true := by
  induction t generalizing n with
  | nil => simp [tabInsert, tabRising, hn]
  | cons e r ih =>
    obtain ⟨j, u⟩ := e
    simp [tabRising] at h
    by_cases hj : j = k
    · simp [tabFind, hj] at hf
    · rw [tabFind, if_neg hj] at hf
      by_cases hk : k < j
      · have e : tabInsert ((j, u) :: r) k v = (k, v) :: (j, u) :: r := by simp [tabInsert, hk]
        rw [e]
        simp only [tabRising, Bool.and_eq_true, decide_eq_true_eq]
        exact ⟨hn, by omega, h.2⟩
      · simp [tabInsert, hk, tabRising, h.1]
        exact ih _ (by omega) hf h.2

theorem tabInsert_all (t : List (Nat × α)) (k : Nat) (v : α) (p : Nat × α → Bool) (hv : p (k, v) = true)
    (h : t.all p = true) : (tabInsert t k v).all p = true := by
  induction t with
  | nil => simp [tabInsert, hv]
  | cons e r ih =>
    obtain ⟨j, u⟩ := e
    rw [List.all_cons, Bool.and_eq_true] at h
    by_cases hk : k < j
    · simp only [tabInsert, if_pos hk, List.all_cons, Bool.and_eq_true]
      exact ⟨hv, h.1, h.2⟩
    · simp only [tabInsert, if_neg hk, List.all_cons, Bool.and_eq_true]
      exact ⟨h.1, ih h.2⟩

theorem filter_all (t : List (Nat × α)) (q p : Nat × α → Bool) (h : t.all p = true) : (t.filter q).all p = true := by
  rw [List.all_eq_true] at h ⊢
  exact fun e he => h e (List.mem_filter.mp he).1

/-- A filtered table is canonical. -/
theorem tabWf_filter [DecidableEq α] (d : α) (t : List (Nat × α)) (p : Nat × α → Bool) (h : tabWf d t = true) :
    tabWf d (t.filter p) = true := by
  rw [tabWf, Bool.and_eq_true] at h ⊢
  exact ⟨tabRising_filter t p 0 h.1, filter_all t p _ h.2⟩

/-- A write keeps a table canonical. -/
theorem tabWf_tabSet [DecidableEq α] (d : α) (t : List (Nat × α)) (k : Nat) (v : α) (h : tabWf d t = true) :
    tabWf d (tabSet d t k v) = true := by
  have he : tabWf d (tabErase t k) = true := tabWf_filter d t _ h
  by_cases hv : v = d
  · simpa [tabSet, hv] using he
  · rw [tabWf, Bool.and_eq_true] at he
    rw [tabSet, if_neg hv, tabWf, Bool.and_eq_true]
    exact ⟨tabRising_tabInsert _ k v 0 (Nat.zero_le k) (tabFind_tabErase_same t k) he.1,
      tabInsert_all _ k v _ (by simpa using hv) he.2⟩

/-- A replaced entry keeps the keys of a table rising. -/
theorem tabRising_replace (t : List (Nat × α)) (k : Nat) (v : α) (h : tabRising 0 t = true) :
    tabRising 0 (tabInsert (tabErase t k) k v) = true :=
  tabRising_tabInsert _ k v 0 (Nat.zero_le k) (tabFind_tabErase_same t k) (tabRising_filter t _ 0 h)

/-- Writes of several keys keep a table canonical. -/
theorem tabWf_foldl_tabSet [DecidableEq α] {β : Type} (d : α) (key : β → Nat) (val : β → α) (l : List β) (t : List (Nat × α))
    (h : tabWf d t = true) : tabWf d (l.foldl (fun t b => tabSet d t (key b) (val b)) t) = true := by
  induction l generalizing t with
  | nil => exact h
  | cons b r ih => exact ih _ (tabWf_tabSet d t _ _ h)

end Sys2Proof.Machine
end

