-- ==== Sys2Proof/Laws/State.lean ====
section
/-! SUPPORT. Frames of the primitive updates of `State`, one lemma per field and update, and what a read of the state gives
after a write to the same place or to another. -/
namespace Sys2Proof.Machine
open Sys2Proof

variable (s : State)

@[simp] theorem State.setReg_tick (o : Nat) (v : W64) : (s.setReg o v).tick = s.tick := rfl
@[simp] theorem State.setReg_t (o : Nat) (v : W64) : (s.setReg o v).t = s.t := rfl
@[simp] theorem State.setReg_now (o : Nat) (v : W64) : (s.setReg o v).now = s.now := rfl
@[simp] theorem State.setReg_guarded (o : Nat) (v : W64) : (s.setReg o v).guarded = s.guarded := rfl
@[simp] theorem State.setReg_idle (o : Nat) (v : W64) : (s.setReg o v).idle = s.idle := rfl
@[simp] theorem State.setReg_free (o : Nat) (v : W64) : (s.setReg o v).free = s.free := rfl
@[simp] theorem State.setReg_rwt (o : Nat) (v : W64) : (s.setReg o v).rwt = s.rwt := rfl
@[simp] theorem State.setReg_mem (o : Nat) (v : W64) : (s.setReg o v).mem = s.mem := rfl
@[simp] theorem State.setReg_core (o : Nat) (v : W64) : (s.setReg o v).core = s.core := rfl
@[simp] theorem State.setReg_xb (o : Nat) (v : W64) : (s.setReg o v).xb = s.xb := rfl
@[simp] theorem State.setReg_cl (o : Nat) (v : W64) : (s.setReg o v).cl = s.cl := rfl
@[simp] theorem State.setReg_se (o : Nat) (v : W64) : (s.setReg o v).se = s.se := rfl
@[simp] theorem State.setReg_sh (o : Nat) (v : W64) : (s.setReg o v).sh = s.sh := rfl
@[simp] theorem State.setReg_cat (o : Nat) (v : W64) : (s.setReg o v).cat = s.cat := rfl
@[simp] theorem State.setReg_sv (o : Nat) (v : W64) : (s.setReg o v).sv = s.sv := rfl
@[simp] theorem State.setReg_fb (o : Nat) (v : W64) : (s.setReg o v).fb = s.fb := rfl
@[simp] theorem State.setReg_ig (o : Nat) (v : W64) : (s.setReg o v).ig = s.ig := rfl
@[simp] theorem State.setReg_ca (o : Nat) (v : W64) : (s.setReg o v).ca = s.ca := rfl
@[simp] theorem State.setReg_pw (o : Nat) (v : W64) : (s.setReg o v).pw = s.pw := rfl
@[simp] theorem State.setReg_cu (o : Nat) (v : W64) : (s.setReg o v).cu = s.cu := rfl
@[simp] theorem State.setReg_pending (o : Nat) (v : W64) : (s.setReg o v).pending = s.pending := rfl

@[simp] theorem State.setFld_tick (f : Fld) (v : Nat) : (s.setFld f v).tick = s.tick := rfl
@[simp] theorem State.setFld_t (f : Fld) (v : Nat) : (s.setFld f v).t = s.t := rfl
@[simp] theorem State.setFld_now (f : Fld) (v : Nat) : (s.setFld f v).now = s.now := rfl
@[simp] theorem State.setFld_guarded (f : Fld) (v : Nat) : (s.setFld f v).guarded = s.guarded := rfl
@[simp] theorem State.setFld_idle (f : Fld) (v : Nat) : (s.setFld f v).idle = s.idle := rfl
@[simp] theorem State.setFld_free (f : Fld) (v : Nat) : (s.setFld f v).free = s.free := rfl
@[simp] theorem State.setFld_rwt (f : Fld) (v : Nat) : (s.setFld f v).rwt = s.rwt := rfl
@[simp] theorem State.setFld_mem (f : Fld) (v : Nat) : (s.setFld f v).mem = s.mem := rfl
@[simp] theorem State.setFld_core (f : Fld) (v : Nat) : (s.setFld f v).core = s.core := rfl
@[simp] theorem State.setFld_xb (f : Fld) (v : Nat) : (s.setFld f v).xb = s.xb := rfl
@[simp] theorem State.setFld_cl (f : Fld) (v : Nat) : (s.setFld f v).cl = s.cl := rfl
@[simp] theorem State.setFld_se (f : Fld) (v : Nat) : (s.setFld f v).se = s.se := rfl
@[simp] theorem State.setFld_sh (f : Fld) (v : Nat) : (s.setFld f v).sh = s.sh := rfl
@[simp] theorem State.setFld_cat (f : Fld) (v : Nat) : (s.setFld f v).cat = s.cat := rfl
@[simp] theorem State.setFld_sv (f : Fld) (v : Nat) : (s.setFld f v).sv = s.sv := rfl
@[simp] theorem State.setFld_fb (f : Fld) (v : Nat) : (s.setFld f v).fb = s.fb := rfl
@[simp] theorem State.setFld_ig (f : Fld) (v : Nat) : (s.setFld f v).ig = s.ig := rfl
@[simp] theorem State.setFld_ca (f : Fld) (v : Nat) : (s.setFld f v).ca = s.ca := rfl
@[simp] theorem State.setFld_pw (f : Fld) (v : Nat) : (s.setFld f v).pw = s.pw := rfl
@[simp] theorem State.setFld_cu (f : Fld) (v : Nat) : (s.setFld f v).cu = s.cu := rfl
@[simp] theorem State.setFld_pending (f : Fld) (v : Nat) : (s.setFld f v).pending = s.pending := rfl

@[simp] theorem State.setFlag_tick (f : Fld) (b : Bool) : (s.setFlag f b).tick = s.tick := rfl
@[simp] theorem State.setFlag_t (f : Fld) (b : Bool) : (s.setFlag f b).t = s.t := rfl
@[simp] theorem State.setFlag_now (f : Fld) (b : Bool) : (s.setFlag f b).now = s.now := rfl
@[simp] theorem State.setFlag_guarded (f : Fld) (b : Bool) : (s.setFlag f b).guarded = s.guarded := rfl
@[simp] theorem State.setFlag_idle (f : Fld) (b : Bool) : (s.setFlag f b).idle = s.idle := rfl
@[simp] theorem State.setFlag_free (f : Fld) (b : Bool) : (s.setFlag f b).free = s.free := rfl
@[simp] theorem State.setFlag_rwt (f : Fld) (b : Bool) : (s.setFlag f b).rwt = s.rwt := rfl
@[simp] theorem State.setFlag_mem (f : Fld) (b : Bool) : (s.setFlag f b).mem = s.mem := rfl
@[simp] theorem State.setFlag_core (f : Fld) (b : Bool) : (s.setFlag f b).core = s.core := rfl
@[simp] theorem State.setFlag_xb (f : Fld) (b : Bool) : (s.setFlag f b).xb = s.xb := rfl
@[simp] theorem State.setFlag_cl (f : Fld) (b : Bool) : (s.setFlag f b).cl = s.cl := rfl
@[simp] theorem State.setFlag_se (f : Fld) (b : Bool) : (s.setFlag f b).se = s.se := rfl
@[simp] theorem State.setFlag_sh (f : Fld) (b : Bool) : (s.setFlag f b).sh = s.sh := rfl
@[simp] theorem State.setFlag_cat (f : Fld) (b : Bool) : (s.setFlag f b).cat = s.cat := rfl
@[simp] theorem State.setFlag_sv (f : Fld) (b : Bool) : (s.setFlag f b).sv = s.sv := rfl
@[simp] theorem State.setFlag_fb (f : Fld) (b : Bool) : (s.setFlag f b).fb = s.fb := rfl
@[simp] theorem State.setFlag_ig (f : Fld) (b : Bool) : (s.setFlag f b).ig = s.ig := rfl
@[simp] theorem State.setFlag_ca (f : Fld) (b : Bool) : (s.setFlag f b).ca = s.ca := rfl
@[simp] theorem State.setFlag_pw (f : Fld) (b : Bool) : (s.setFlag f b).pw = s.pw := rfl
@[simp] theorem State.setFlag_cu (f : Fld) (b : Bool) : (s.setFlag f b).cu = s.cu := rfl
@[simp] theorem State.setFlag_pending (f : Fld) (b : Bool) : (s.setFlag f b).pending = s.pending := rfl

@[simp] theorem State.incSat_tick (f : Fld) (n : Nat) : (s.incSat f n).tick = s.tick := rfl
@[simp] theorem State.incSat_t (f : Fld) (n : Nat) : (s.incSat f n).t = s.t := rfl
@[simp] theorem State.incSat_now (f : Fld) (n : Nat) : (s.incSat f n).now = s.now := rfl
@[simp] theorem State.incSat_guarded (f : Fld) (n : Nat) : (s.incSat f n).guarded = s.guarded := rfl
@[simp] theorem State.incSat_idle (f : Fld) (n : Nat) : (s.incSat f n).idle = s.idle := rfl
@[simp] theorem State.incSat_free (f : Fld) (n : Nat) : (s.incSat f n).free = s.free := rfl
@[simp] theorem State.incSat_rwt (f : Fld) (n : Nat) : (s.incSat f n).rwt = s.rwt := rfl
@[simp] theorem State.incSat_mem (f : Fld) (n : Nat) : (s.incSat f n).mem = s.mem := rfl
@[simp] theorem State.incSat_core (f : Fld) (n : Nat) : (s.incSat f n).core = s.core := rfl
@[simp] theorem State.incSat_xb (f : Fld) (n : Nat) : (s.incSat f n).xb = s.xb := rfl
@[simp] theorem State.incSat_cl (f : Fld) (n : Nat) : (s.incSat f n).cl = s.cl := rfl
@[simp] theorem State.incSat_se (f : Fld) (n : Nat) : (s.incSat f n).se = s.se := rfl
@[simp] theorem State.incSat_sh (f : Fld) (n : Nat) : (s.incSat f n).sh = s.sh := rfl
@[simp] theorem State.incSat_cat (f : Fld) (n : Nat) : (s.incSat f n).cat = s.cat := rfl
@[simp] theorem State.incSat_sv (f : Fld) (n : Nat) : (s.incSat f n).sv = s.sv := rfl
@[simp] theorem State.incSat_fb (f : Fld) (n : Nat) : (s.incSat f n).fb = s.fb := rfl
@[simp] theorem State.incSat_ig (f : Fld) (n : Nat) : (s.incSat f n).ig = s.ig := rfl
@[simp] theorem State.incSat_ca (f : Fld) (n : Nat) : (s.incSat f n).ca = s.ca := rfl
@[simp] theorem State.incSat_pw (f : Fld) (n : Nat) : (s.incSat f n).pw = s.pw := rfl
@[simp] theorem State.incSat_cu (f : Fld) (n : Nat) : (s.incSat f n).cu = s.cu := rfl
@[simp] theorem State.incSat_pending (f : Fld) (n : Nat) : (s.incSat f n).pending = s.pending := rfl

@[simp] theorem State.incWrap_tick (f : Fld) (n : Nat) : (s.incWrap f n).tick = s.tick := rfl
@[simp] theorem State.incWrap_t (f : Fld) (n : Nat) : (s.incWrap f n).t = s.t := rfl
@[simp] theorem State.incWrap_now (f : Fld) (n : Nat) : (s.incWrap f n).now = s.now := rfl
@[simp] theorem State.incWrap_guarded (f : Fld) (n : Nat) : (s.incWrap f n).guarded = s.guarded := rfl
@[simp] theorem State.incWrap_idle (f : Fld) (n : Nat) : (s.incWrap f n).idle = s.idle := rfl
@[simp] theorem State.incWrap_free (f : Fld) (n : Nat) : (s.incWrap f n).free = s.free := rfl
@[simp] theorem State.incWrap_rwt (f : Fld) (n : Nat) : (s.incWrap f n).rwt = s.rwt := rfl
@[simp] theorem State.incWrap_mem (f : Fld) (n : Nat) : (s.incWrap f n).mem = s.mem := rfl
@[simp] theorem State.incWrap_core (f : Fld) (n : Nat) : (s.incWrap f n).core = s.core := rfl
@[simp] theorem State.incWrap_xb (f : Fld) (n : Nat) : (s.incWrap f n).xb = s.xb := rfl
@[simp] theorem State.incWrap_cl (f : Fld) (n : Nat) : (s.incWrap f n).cl = s.cl := rfl
@[simp] theorem State.incWrap_se (f : Fld) (n : Nat) : (s.incWrap f n).se = s.se := rfl
@[simp] theorem State.incWrap_sh (f : Fld) (n : Nat) : (s.incWrap f n).sh = s.sh := rfl
@[simp] theorem State.incWrap_cat (f : Fld) (n : Nat) : (s.incWrap f n).cat = s.cat := rfl
@[simp] theorem State.incWrap_sv (f : Fld) (n : Nat) : (s.incWrap f n).sv = s.sv := rfl
@[simp] theorem State.incWrap_fb (f : Fld) (n : Nat) : (s.incWrap f n).fb = s.fb := rfl
@[simp] theorem State.incWrap_ig (f : Fld) (n : Nat) : (s.incWrap f n).ig = s.ig := rfl
@[simp] theorem State.incWrap_ca (f : Fld) (n : Nat) : (s.incWrap f n).ca = s.ca := rfl
@[simp] theorem State.incWrap_pw (f : Fld) (n : Nat) : (s.incWrap f n).pw = s.pw := rfl
@[simp] theorem State.incWrap_cu (f : Fld) (n : Nat) : (s.incWrap f n).cu = s.cu := rfl
@[simp] theorem State.incWrap_pending (f : Fld) (n : Nat) : (s.incWrap f n).pending = s.pending := rfl

@[simp] theorem State.decFld_tick (f : Fld) (n : Nat) : (s.decFld f n).tick = s.tick := rfl
@[simp] theorem State.decFld_t (f : Fld) (n : Nat) : (s.decFld f n).t = s.t := rfl
@[simp] theorem State.decFld_now (f : Fld) (n : Nat) : (s.decFld f n).now = s.now := rfl
@[simp] theorem State.decFld_guarded (f : Fld) (n : Nat) : (s.decFld f n).guarded = s.guarded := rfl
@[simp] theorem State.decFld_idle (f : Fld) (n : Nat) : (s.decFld f n).idle = s.idle := rfl
@[simp] theorem State.decFld_free (f : Fld) (n : Nat) : (s.decFld f n).free = s.free := rfl
@[simp] theorem State.decFld_rwt (f : Fld) (n : Nat) : (s.decFld f n).rwt = s.rwt := rfl
@[simp] theorem State.decFld_mem (f : Fld) (n : Nat) : (s.decFld f n).mem = s.mem := rfl
@[simp] theorem State.decFld_core (f : Fld) (n : Nat) : (s.decFld f n).core = s.core := rfl
@[simp] theorem State.decFld_xb (f : Fld) (n : Nat) : (s.decFld f n).xb = s.xb := rfl
@[simp] theorem State.decFld_cl (f : Fld) (n : Nat) : (s.decFld f n).cl = s.cl := rfl
@[simp] theorem State.decFld_se (f : Fld) (n : Nat) : (s.decFld f n).se = s.se := rfl
@[simp] theorem State.decFld_sh (f : Fld) (n : Nat) : (s.decFld f n).sh = s.sh := rfl
@[simp] theorem State.decFld_cat (f : Fld) (n : Nat) : (s.decFld f n).cat = s.cat := rfl
@[simp] theorem State.decFld_sv (f : Fld) (n : Nat) : (s.decFld f n).sv = s.sv := rfl
@[simp] theorem State.decFld_fb (f : Fld) (n : Nat) : (s.decFld f n).fb = s.fb := rfl
@[simp] theorem State.decFld_ig (f : Fld) (n : Nat) : (s.decFld f n).ig = s.ig := rfl
@[simp] theorem State.decFld_ca (f : Fld) (n : Nat) : (s.decFld f n).ca = s.ca := rfl
@[simp] theorem State.decFld_pw (f : Fld) (n : Nat) : (s.decFld f n).pw = s.pw := rfl
@[simp] theorem State.decFld_cu (f : Fld) (n : Nat) : (s.decFld f n).cu = s.cu := rfl
@[simp] theorem State.decFld_pending (f : Fld) (n : Nat) : (s.decFld f n).pending = s.pending := rfl

@[simp] theorem State.draw_tick (n : Nat) : (s.draw n).tick = s.tick := rfl
@[simp] theorem State.draw_t (n : Nat) : (s.draw n).t = s.t := rfl
@[simp] theorem State.draw_now (n : Nat) : (s.draw n).now = s.now := rfl
@[simp] theorem State.draw_guarded (n : Nat) : (s.draw n).guarded = s.guarded := rfl
@[simp] theorem State.draw_idle (n : Nat) : (s.draw n).idle = s.idle := rfl
@[simp] theorem State.draw_regs (n : Nat) : (s.draw n).regs = s.regs := rfl
@[simp] theorem State.draw_rwt (n : Nat) : (s.draw n).rwt = s.rwt := rfl
@[simp] theorem State.draw_mem (n : Nat) : (s.draw n).mem = s.mem := rfl
@[simp] theorem State.draw_core (n : Nat) : (s.draw n).core = s.core := rfl
@[simp] theorem State.draw_xb (n : Nat) : (s.draw n).xb = s.xb := rfl
@[simp] theorem State.draw_cl (n : Nat) : (s.draw n).cl = s.cl := rfl
@[simp] theorem State.draw_se (n : Nat) : (s.draw n).se = s.se := rfl
@[simp] theorem State.draw_sh (n : Nat) : (s.draw n).sh = s.sh := rfl
@[simp] theorem State.draw_cat (n : Nat) : (s.draw n).cat = s.cat := rfl
@[simp] theorem State.draw_sv (n : Nat) : (s.draw n).sv = s.sv := rfl
@[simp] theorem State.draw_fb (n : Nat) : (s.draw n).fb = s.fb := rfl
@[simp] theorem State.draw_ig (n : Nat) : (s.draw n).ig = s.ig := rfl
@[simp] theorem State.draw_ca (n : Nat) : (s.draw n).ca = s.ca := rfl
@[simp] theorem State.draw_pw (n : Nat) : (s.draw n).pw = s.pw := rfl
@[simp] theorem State.draw_cu (n : Nat) : (s.draw n).cu = s.cu := rfl
@[simp] theorem State.draw_pending (n : Nat) : (s.draw n).pending = s.pending := rfl

@[simp] theorem State.setBytes_tick (a : Nat) (d : List Byte) : (s.setBytes a d).tick = s.tick := rfl
@[simp] theorem State.setBytes_t (a : Nat) (d : List Byte) : (s.setBytes a d).t = s.t := rfl
@[simp] theorem State.setBytes_now (a : Nat) (d : List Byte) : (s.setBytes a d).now = s.now := rfl
@[simp] theorem State.setBytes_guarded (a : Nat) (d : List Byte) : (s.setBytes a d).guarded = s.guarded := rfl
@[simp] theorem State.setBytes_idle (a : Nat) (d : List Byte) : (s.setBytes a d).idle = s.idle := rfl
@[simp] theorem State.setBytes_free (a : Nat) (d : List Byte) : (s.setBytes a d).free = s.free := rfl
@[simp] theorem State.setBytes_regs (a : Nat) (d : List Byte) : (s.setBytes a d).regs = s.regs := rfl
@[simp] theorem State.setBytes_rwt (a : Nat) (d : List Byte) : (s.setBytes a d).rwt = s.rwt := rfl
@[simp] theorem State.setBytes_core (a : Nat) (d : List Byte) : (s.setBytes a d).core = s.core := rfl
@[simp] theorem State.setBytes_xb (a : Nat) (d : List Byte) : (s.setBytes a d).xb = s.xb := rfl
@[simp] theorem State.setBytes_cl (a : Nat) (d : List Byte) : (s.setBytes a d).cl = s.cl := rfl
@[simp] theorem State.setBytes_se (a : Nat) (d : List Byte) : (s.setBytes a d).se = s.se := rfl
@[simp] theorem State.setBytes_sh (a : Nat) (d : List Byte) : (s.setBytes a d).sh = s.sh := rfl
@[simp] theorem State.setBytes_cat (a : Nat) (d : List Byte) : (s.setBytes a d).cat = s.cat := rfl
@[simp] theorem State.setBytes_sv (a : Nat) (d : List Byte) : (s.setBytes a d).sv = s.sv := rfl
@[simp] theorem State.setBytes_fb (a : Nat) (d : List Byte) : (s.setBytes a d).fb = s.fb := rfl
@[simp] theorem State.setBytes_ig (a : Nat) (d : List Byte) : (s.setBytes a d).ig = s.ig := rfl
@[simp] theorem State.setBytes_ca (a : Nat) (d : List Byte) : (s.setBytes a d).ca = s.ca := rfl
@[simp] theorem State.setBytes_pw (a : Nat) (d : List Byte) : (s.setBytes a d).pw = s.pw := rfl
@[simp] theorem State.setBytes_cu (a : Nat) (d : List Byte) : (s.setBytes a d).cu = s.cu := rfl
@[simp] theorem State.setBytes_pending (a : Nat) (d : List Byte) : (s.setBytes a d).pending = s.pending := rfl

@[simp] theorem State.setMarks_tick (ws : List Nat) (p : Bool) : (s.setMarks ws p).tick = s.tick := rfl
@[simp] theorem State.setMarks_t (ws : List Nat) (p : Bool) : (s.setMarks ws p).t = s.t := rfl
@[simp] theorem State.setMarks_now (ws : List Nat) (p : Bool) : (s.setMarks ws p).now = s.now := rfl
@[simp] theorem State.setMarks_guarded (ws : List Nat) (p : Bool) : (s.setMarks ws p).guarded = s.guarded := rfl
@[simp] theorem State.setMarks_idle (ws : List Nat) (p : Bool) : (s.setMarks ws p).idle = s.idle := rfl
@[simp] theorem State.setMarks_free (ws : List Nat) (p : Bool) : (s.setMarks ws p).free = s.free := rfl
@[simp] theorem State.setMarks_regs (ws : List Nat) (p : Bool) : (s.setMarks ws p).regs = s.regs := rfl
@[simp] theorem State.setMarks_rwt (ws : List Nat) (p : Bool) : (s.setMarks ws p).rwt = s.rwt := rfl
@[simp] theorem State.setMarks_core (ws : List Nat) (p : Bool) : (s.setMarks ws p).core = s.core := rfl
@[simp] theorem State.setMarks_xb (ws : List Nat) (p : Bool) : (s.setMarks ws p).xb = s.xb := rfl
@[simp] theorem State.setMarks_cl (ws : List Nat) (p : Bool) : (s.setMarks ws p).cl = s.cl := rfl
@[simp] theorem State.setMarks_se (ws : List Nat) (p : Bool) : (s.setMarks ws p).se = s.se := rfl
@[simp] theorem State.setMarks_sh (ws : List Nat) (p : Bool) : (s.setMarks ws p).sh = s.sh := rfl
@[simp] theorem State.setMarks_cat (ws : List Nat) (p : Bool) : (s.setMarks ws p).cat = s.cat := rfl
@[simp] theorem State.setMarks_sv (ws : List Nat) (p : Bool) : (s.setMarks ws p).sv = s.sv := rfl
@[simp] theorem State.setMarks_fb (ws : List Nat) (p : Bool) : (s.setMarks ws p).fb = s.fb := rfl
@[simp] theorem State.setMarks_ig (ws : List Nat) (p : Bool) : (s.setMarks ws p).ig = s.ig := rfl
@[simp] theorem State.setMarks_ca (ws : List Nat) (p : Bool) : (s.setMarks ws p).ca = s.ca := rfl
@[simp] theorem State.setMarks_pw (ws : List Nat) (p : Bool) : (s.setMarks ws p).pw = s.pw := rfl
@[simp] theorem State.setMarks_cu (ws : List Nat) (p : Bool) : (s.setMarks ws p).cu = s.cu := rfl
@[simp] theorem State.setMarks_pending (ws : List Nat) (p : Bool) : (s.setMarks ws p).pending = s.pending := rfl

@[simp] theorem State.poison_tick (a n : Nat) : (s.poison a n).tick = s.tick := rfl
@[simp] theorem State.poison_t (a n : Nat) : (s.poison a n).t = s.t := rfl
@[simp] theorem State.poison_now (a n : Nat) : (s.poison a n).now = s.now := rfl
@[simp] theorem State.poison_guarded (a n : Nat) : (s.poison a n).guarded = s.guarded := rfl
@[simp] theorem State.poison_idle (a n : Nat) : (s.poison a n).idle = s.idle := rfl
@[simp] theorem State.poison_free (a n : Nat) : (s.poison a n).free = s.free := rfl
@[simp] theorem State.poison_regs (a n : Nat) : (s.poison a n).regs = s.regs := rfl
@[simp] theorem State.poison_rwt (a n : Nat) : (s.poison a n).rwt = s.rwt := rfl
@[simp] theorem State.poison_core (a n : Nat) : (s.poison a n).core = s.core := rfl
@[simp] theorem State.poison_xb (a n : Nat) : (s.poison a n).xb = s.xb := rfl
@[simp] theorem State.poison_cl (a n : Nat) : (s.poison a n).cl = s.cl := rfl
@[simp] theorem State.poison_se (a n : Nat) : (s.poison a n).se = s.se := rfl
@[simp] theorem State.poison_sh (a n : Nat) : (s.poison a n).sh = s.sh := rfl
@[simp] theorem State.poison_cat (a n : Nat) : (s.poison a n).cat = s.cat := rfl
@[simp] theorem State.poison_sv (a n : Nat) : (s.poison a n).sv = s.sv := rfl
@[simp] theorem State.poison_fb (a n : Nat) : (s.poison a n).fb = s.fb := rfl
@[simp] theorem State.poison_ig (a n : Nat) : (s.poison a n).ig = s.ig := rfl
@[simp] theorem State.poison_ca (a n : Nat) : (s.poison a n).ca = s.ca := rfl
@[simp] theorem State.poison_pw (a n : Nat) : (s.poison a n).pw = s.pw := rfl
@[simp] theorem State.poison_cu (a n : Nat) : (s.poison a n).cu = s.cu := rfl
@[simp] theorem State.poison_pending (a n : Nat) : (s.poison a n).pending = s.pending := rfl

@[simp] theorem State.clearUpsets_tick (ws : List Nat) : (s.clearUpsets ws).tick = s.tick := rfl
@[simp] theorem State.clearUpsets_t (ws : List Nat) : (s.clearUpsets ws).t = s.t := rfl
@[simp] theorem State.clearUpsets_now (ws : List Nat) : (s.clearUpsets ws).now = s.now := rfl
@[simp] theorem State.clearUpsets_guarded (ws : List Nat) : (s.clearUpsets ws).guarded = s.guarded := rfl
@[simp] theorem State.clearUpsets_idle (ws : List Nat) : (s.clearUpsets ws).idle = s.idle := rfl
@[simp] theorem State.clearUpsets_free (ws : List Nat) : (s.clearUpsets ws).free = s.free := rfl
@[simp] theorem State.clearUpsets_regs (ws : List Nat) : (s.clearUpsets ws).regs = s.regs := rfl
@[simp] theorem State.clearUpsets_rwt (ws : List Nat) : (s.clearUpsets ws).rwt = s.rwt := rfl
@[simp] theorem State.clearUpsets_core (ws : List Nat) : (s.clearUpsets ws).core = s.core := rfl
@[simp] theorem State.clearUpsets_xb (ws : List Nat) : (s.clearUpsets ws).xb = s.xb := rfl
@[simp] theorem State.clearUpsets_cl (ws : List Nat) : (s.clearUpsets ws).cl = s.cl := rfl
@[simp] theorem State.clearUpsets_se (ws : List Nat) : (s.clearUpsets ws).se = s.se := rfl
@[simp] theorem State.clearUpsets_sh (ws : List Nat) : (s.clearUpsets ws).sh = s.sh := rfl
@[simp] theorem State.clearUpsets_cat (ws : List Nat) : (s.clearUpsets ws).cat = s.cat := rfl
@[simp] theorem State.clearUpsets_sv (ws : List Nat) : (s.clearUpsets ws).sv = s.sv := rfl
@[simp] theorem State.clearUpsets_fb (ws : List Nat) : (s.clearUpsets ws).fb = s.fb := rfl
@[simp] theorem State.clearUpsets_ig (ws : List Nat) : (s.clearUpsets ws).ig = s.ig := rfl
@[simp] theorem State.clearUpsets_ca (ws : List Nat) : (s.clearUpsets ws).ca = s.ca := rfl
@[simp] theorem State.clearUpsets_pw (ws : List Nat) : (s.clearUpsets ws).pw = s.pw := rfl
@[simp] theorem State.clearUpsets_cu (ws : List Nat) : (s.clearUpsets ws).cu = s.cu := rfl
@[simp] theorem State.clearUpsets_pending (ws : List Nat) : (s.clearUpsets ws).pending = s.pending := rfl

@[simp] theorem State.clearChecks_tick (ws : List Nat) : (s.clearChecks ws).tick = s.tick := rfl
@[simp] theorem State.clearChecks_t (ws : List Nat) : (s.clearChecks ws).t = s.t := rfl
@[simp] theorem State.clearChecks_now (ws : List Nat) : (s.clearChecks ws).now = s.now := rfl
@[simp] theorem State.clearChecks_guarded (ws : List Nat) : (s.clearChecks ws).guarded = s.guarded := rfl
@[simp] theorem State.clearChecks_idle (ws : List Nat) : (s.clearChecks ws).idle = s.idle := rfl
@[simp] theorem State.clearChecks_free (ws : List Nat) : (s.clearChecks ws).free = s.free := rfl
@[simp] theorem State.clearChecks_regs (ws : List Nat) : (s.clearChecks ws).regs = s.regs := rfl
@[simp] theorem State.clearChecks_rwt (ws : List Nat) : (s.clearChecks ws).rwt = s.rwt := rfl
@[simp] theorem State.clearChecks_core (ws : List Nat) : (s.clearChecks ws).core = s.core := rfl
@[simp] theorem State.clearChecks_xb (ws : List Nat) : (s.clearChecks ws).xb = s.xb := rfl
@[simp] theorem State.clearChecks_cl (ws : List Nat) : (s.clearChecks ws).cl = s.cl := rfl
@[simp] theorem State.clearChecks_se (ws : List Nat) : (s.clearChecks ws).se = s.se := rfl
@[simp] theorem State.clearChecks_sh (ws : List Nat) : (s.clearChecks ws).sh = s.sh := rfl
@[simp] theorem State.clearChecks_cat (ws : List Nat) : (s.clearChecks ws).cat = s.cat := rfl
@[simp] theorem State.clearChecks_sv (ws : List Nat) : (s.clearChecks ws).sv = s.sv := rfl
@[simp] theorem State.clearChecks_fb (ws : List Nat) : (s.clearChecks ws).fb = s.fb := rfl
@[simp] theorem State.clearChecks_ig (ws : List Nat) : (s.clearChecks ws).ig = s.ig := rfl
@[simp] theorem State.clearChecks_ca (ws : List Nat) : (s.clearChecks ws).ca = s.ca := rfl
@[simp] theorem State.clearChecks_pw (ws : List Nat) : (s.clearChecks ws).pw = s.pw := rfl
@[simp] theorem State.clearChecks_cu (ws : List Nat) : (s.clearChecks ws).cu = s.cu := rfl
@[simp] theorem State.clearChecks_pending (ws : List Nat) : (s.clearChecks ws).pending = s.pending := rfl

@[simp] theorem State.storeMem_tick (a : Nat) (d : List Byte) (bp : List Bool) : (s.storeMem a d bp).tick = s.tick := rfl
@[simp] theorem State.storeMem_t (a : Nat) (d : List Byte) (bp : List Bool) : (s.storeMem a d bp).t = s.t := rfl
@[simp] theorem State.storeMem_now (a : Nat) (d : List Byte) (bp : List Bool) : (s.storeMem a d bp).now = s.now := rfl
@[simp] theorem State.storeMem_guarded (a : Nat) (d : List Byte) (bp : List Bool) : (s.storeMem a d bp).guarded = s.guarded := rfl
@[simp] theorem State.storeMem_idle (a : Nat) (d : List Byte) (bp : List Bool) : (s.storeMem a d bp).idle = s.idle := rfl
@[simp] theorem State.storeMem_free (a : Nat) (d : List Byte) (bp : List Bool) : (s.storeMem a d bp).free = s.free := rfl
@[simp] theorem State.storeMem_regs (a : Nat) (d : List Byte) (bp : List Bool) : (s.storeMem a d bp).regs = s.regs := rfl
@[simp] theorem State.storeMem_rwt (a : Nat) (d : List Byte) (bp : List Bool) : (s.storeMem a d bp).rwt = s.rwt := rfl
@[simp] theorem State.storeMem_core (a : Nat) (d : List Byte) (bp : List Bool) : (s.storeMem a d bp).core = s.core := rfl
@[simp] theorem State.storeMem_xb (a : Nat) (d : List Byte) (bp : List Bool) : (s.storeMem a d bp).xb = s.xb := rfl
@[simp] theorem State.storeMem_cl (a : Nat) (d : List Byte) (bp : List Bool) : (s.storeMem a d bp).cl = s.cl := rfl
@[simp] theorem State.storeMem_se (a : Nat) (d : List Byte) (bp : List Bool) : (s.storeMem a d bp).se = s.se := rfl
@[simp] theorem State.storeMem_sh (a : Nat) (d : List Byte) (bp : List Bool) : (s.storeMem a d bp).sh = s.sh := rfl
@[simp] theorem State.storeMem_cat (a : Nat) (d : List Byte) (bp : List Bool) : (s.storeMem a d bp).cat = s.cat := rfl
@[simp] theorem State.storeMem_sv (a : Nat) (d : List Byte) (bp : List Bool) : (s.storeMem a d bp).sv = s.sv := rfl
@[simp] theorem State.storeMem_fb (a : Nat) (d : List Byte) (bp : List Bool) : (s.storeMem a d bp).fb = s.fb := rfl
@[simp] theorem State.storeMem_ig (a : Nat) (d : List Byte) (bp : List Bool) : (s.storeMem a d bp).ig = s.ig := rfl
@[simp] theorem State.storeMem_ca (a : Nat) (d : List Byte) (bp : List Bool) : (s.storeMem a d bp).ca = s.ca := rfl
@[simp] theorem State.storeMem_pw (a : Nat) (d : List Byte) (bp : List Bool) : (s.storeMem a d bp).pw = s.pw := rfl
@[simp] theorem State.storeMem_cu (a : Nat) (d : List Byte) (bp : List Bool) : (s.storeMem a d bp).cu = s.cu := rfl
@[simp] theorem State.storeMem_pending (a : Nat) (d : List Byte) (bp : List Bool) : (s.storeMem a d bp).pending = s.pending := rfl

@[simp] theorem State.modCore_tick (c : Nat) (f : CoreSt → CoreSt) : (s.modCore c f).tick = s.tick := rfl
@[simp] theorem State.modCore_t (c : Nat) (f : CoreSt → CoreSt) : (s.modCore c f).t = s.t := rfl
@[simp] theorem State.modCore_now (c : Nat) (f : CoreSt → CoreSt) : (s.modCore c f).now = s.now := rfl
@[simp] theorem State.modCore_guarded (c : Nat) (f : CoreSt → CoreSt) : (s.modCore c f).guarded = s.guarded := rfl
@[simp] theorem State.modCore_idle (c : Nat) (f : CoreSt → CoreSt) : (s.modCore c f).idle = s.idle := rfl
@[simp] theorem State.modCore_free (c : Nat) (f : CoreSt → CoreSt) : (s.modCore c f).free = s.free := rfl
@[simp] theorem State.modCore_regs (c : Nat) (f : CoreSt → CoreSt) : (s.modCore c f).regs = s.regs := rfl
@[simp] theorem State.modCore_rwt (c : Nat) (f : CoreSt → CoreSt) : (s.modCore c f).rwt = s.rwt := rfl
@[simp] theorem State.modCore_mem (c : Nat) (f : CoreSt → CoreSt) : (s.modCore c f).mem = s.mem := rfl
@[simp] theorem State.modCore_xb (c : Nat) (f : CoreSt → CoreSt) : (s.modCore c f).xb = s.xb := rfl
@[simp] theorem State.modCore_cl (c : Nat) (f : CoreSt → CoreSt) : (s.modCore c f).cl = s.cl := rfl
@[simp] theorem State.modCore_se (c : Nat) (f : CoreSt → CoreSt) : (s.modCore c f).se = s.se := rfl
@[simp] theorem State.modCore_sh (c : Nat) (f : CoreSt → CoreSt) : (s.modCore c f).sh = s.sh := rfl
@[simp] theorem State.modCore_cat (c : Nat) (f : CoreSt → CoreSt) : (s.modCore c f).cat = s.cat := rfl
@[simp] theorem State.modCore_sv (c : Nat) (f : CoreSt → CoreSt) : (s.modCore c f).sv = s.sv := rfl
@[simp] theorem State.modCore_fb (c : Nat) (f : CoreSt → CoreSt) : (s.modCore c f).fb = s.fb := rfl
@[simp] theorem State.modCore_ig (c : Nat) (f : CoreSt → CoreSt) : (s.modCore c f).ig = s.ig := rfl
@[simp] theorem State.modCore_ca (c : Nat) (f : CoreSt → CoreSt) : (s.modCore c f).ca = s.ca := rfl
@[simp] theorem State.modCore_pw (c : Nat) (f : CoreSt → CoreSt) : (s.modCore c f).pw = s.pw := rfl
@[simp] theorem State.modCore_cu (c : Nat) (f : CoreSt → CoreSt) : (s.modCore c f).cu = s.cu := rfl
@[simp] theorem State.modCore_pending (c : Nat) (f : CoreSt → CoreSt) : (s.modCore c f).pending = s.pending := rfl

@[simp] theorem State.setLatch_tick (c : Nat) : (s.setLatch c).tick = s.tick := rfl
@[simp] theorem State.setLatch_t (c : Nat) : (s.setLatch c).t = s.t := rfl
@[simp] theorem State.setLatch_now (c : Nat) : (s.setLatch c).now = s.now := rfl
@[simp] theorem State.setLatch_guarded (c : Nat) : (s.setLatch c).guarded = s.guarded := rfl
@[simp] theorem State.setLatch_idle (c : Nat) : (s.setLatch c).idle = s.idle := rfl
@[simp] theorem State.setLatch_free (c : Nat) : (s.setLatch c).free = s.free := rfl
@[simp] theorem State.setLatch_regs (c : Nat) : (s.setLatch c).regs = s.regs := rfl
@[simp] theorem State.setLatch_rwt (c : Nat) : (s.setLatch c).rwt = s.rwt := rfl
@[simp] theorem State.setLatch_mem (c : Nat) : (s.setLatch c).mem = s.mem := rfl
@[simp] theorem State.setLatch_xb (c : Nat) : (s.setLatch c).xb = s.xb := rfl
@[simp] theorem State.setLatch_cl (c : Nat) : (s.setLatch c).cl = s.cl := rfl
@[simp] theorem State.setLatch_se (c : Nat) : (s.setLatch c).se = s.se := rfl
@[simp] theorem State.setLatch_sh (c : Nat) : (s.setLatch c).sh = s.sh := rfl
@[simp] theorem State.setLatch_cat (c : Nat) : (s.setLatch c).cat = s.cat := rfl
@[simp] theorem State.setLatch_sv (c : Nat) : (s.setLatch c).sv = s.sv := rfl
@[simp] theorem State.setLatch_fb (c : Nat) : (s.setLatch c).fb = s.fb := rfl
@[simp] theorem State.setLatch_ig (c : Nat) : (s.setLatch c).ig = s.ig := rfl
@[simp] theorem State.setLatch_ca (c : Nat) : (s.setLatch c).ca = s.ca := rfl
@[simp] theorem State.setLatch_pw (c : Nat) : (s.setLatch c).pw = s.pw := rfl
@[simp] theorem State.setLatch_cu (c : Nat) : (s.setLatch c).cu = s.cu := rfl
@[simp] theorem State.setLatch_pending (c : Nat) : (s.setLatch c).pending = s.pending := rfl

@[simp] theorem State.setVr_tick (c : Nat) (r : VReg) (v : Vec256) (p : Bool) : (s.setVr c r v p).tick = s.tick := rfl
@[simp] theorem State.setVr_t (c : Nat) (r : VReg) (v : Vec256) (p : Bool) : (s.setVr c r v p).t = s.t := rfl
@[simp] theorem State.setVr_now (c : Nat) (r : VReg) (v : Vec256) (p : Bool) : (s.setVr c r v p).now = s.now := rfl
@[simp] theorem State.setVr_guarded (c : Nat) (r : VReg) (v : Vec256) (p : Bool) : (s.setVr c r v p).guarded = s.guarded := rfl
@[simp] theorem State.setVr_idle (c : Nat) (r : VReg) (v : Vec256) (p : Bool) : (s.setVr c r v p).idle = s.idle := rfl
@[simp] theorem State.setVr_free (c : Nat) (r : VReg) (v : Vec256) (p : Bool) : (s.setVr c r v p).free = s.free := rfl
@[simp] theorem State.setVr_regs (c : Nat) (r : VReg) (v : Vec256) (p : Bool) : (s.setVr c r v p).regs = s.regs := rfl
@[simp] theorem State.setVr_rwt (c : Nat) (r : VReg) (v : Vec256) (p : Bool) : (s.setVr c r v p).rwt = s.rwt := rfl
@[simp] theorem State.setVr_mem (c : Nat) (r : VReg) (v : Vec256) (p : Bool) : (s.setVr c r v p).mem = s.mem := rfl
@[simp] theorem State.setVr_xb (c : Nat) (r : VReg) (v : Vec256) (p : Bool) : (s.setVr c r v p).xb = s.xb := rfl
@[simp] theorem State.setVr_cl (c : Nat) (r : VReg) (v : Vec256) (p : Bool) : (s.setVr c r v p).cl = s.cl := rfl
@[simp] theorem State.setVr_se (c : Nat) (r : VReg) (v : Vec256) (p : Bool) : (s.setVr c r v p).se = s.se := rfl
@[simp] theorem State.setVr_sh (c : Nat) (r : VReg) (v : Vec256) (p : Bool) : (s.setVr c r v p).sh = s.sh := rfl
@[simp] theorem State.setVr_cat (c : Nat) (r : VReg) (v : Vec256) (p : Bool) : (s.setVr c r v p).cat = s.cat := rfl
@[simp] theorem State.setVr_sv (c : Nat) (r : VReg) (v : Vec256) (p : Bool) : (s.setVr c r v p).sv = s.sv := rfl
@[simp] theorem State.setVr_fb (c : Nat) (r : VReg) (v : Vec256) (p : Bool) : (s.setVr c r v p).fb = s.fb := rfl
@[simp] theorem State.setVr_ig (c : Nat) (r : VReg) (v : Vec256) (p : Bool) : (s.setVr c r v p).ig = s.ig := rfl
@[simp] theorem State.setVr_ca (c : Nat) (r : VReg) (v : Vec256) (p : Bool) : (s.setVr c r v p).ca = s.ca := rfl
@[simp] theorem State.setVr_pw (c : Nat) (r : VReg) (v : Vec256) (p : Bool) : (s.setVr c r v p).pw = s.pw := rfl
@[simp] theorem State.setVr_cu (c : Nat) (r : VReg) (v : Vec256) (p : Bool) : (s.setVr c r v p).cu = s.cu := rfl
@[simp] theorem State.setVr_pending (c : Nat) (r : VReg) (v : Vec256) (p : Bool) : (s.setVr c r v p).pending = s.pending := rfl

@[simp] theorem State.storeScratch_tick (c a : Nat) (d : List Byte) (bp : List Bool) : (s.storeScratch c a d bp).tick = s.tick := rfl
@[simp] theorem State.storeScratch_t (c a : Nat) (d : List Byte) (bp : List Bool) : (s.storeScratch c a d bp).t = s.t := rfl
@[simp] theorem State.storeScratch_now (c a : Nat) (d : List Byte) (bp : List Bool) : (s.storeScratch c a d bp).now = s.now := rfl
@[simp] theorem State.storeScratch_guarded (c a : Nat) (d : List Byte) (bp : List Bool) : (s.storeScratch c a d bp).guarded = s.guarded := rfl
@[simp] theorem State.storeScratch_idle (c a : Nat) (d : List Byte) (bp : List Bool) : (s.storeScratch c a d bp).idle = s.idle := rfl
@[simp] theorem State.storeScratch_free (c a : Nat) (d : List Byte) (bp : List Bool) : (s.storeScratch c a d bp).free = s.free := rfl
@[simp] theorem State.storeScratch_regs (c a : Nat) (d : List Byte) (bp : List Bool) : (s.storeScratch c a d bp).regs = s.regs := rfl
@[simp] theorem State.storeScratch_rwt (c a : Nat) (d : List Byte) (bp : List Bool) : (s.storeScratch c a d bp).rwt = s.rwt := rfl
@[simp] theorem State.storeScratch_mem (c a : Nat) (d : List Byte) (bp : List Bool) : (s.storeScratch c a d bp).mem = s.mem := rfl
@[simp] theorem State.storeScratch_xb (c a : Nat) (d : List Byte) (bp : List Bool) : (s.storeScratch c a d bp).xb = s.xb := rfl
@[simp] theorem State.storeScratch_cl (c a : Nat) (d : List Byte) (bp : List Bool) : (s.storeScratch c a d bp).cl = s.cl := rfl
@[simp] theorem State.storeScratch_se (c a : Nat) (d : List Byte) (bp : List Bool) : (s.storeScratch c a d bp).se = s.se := rfl
@[simp] theorem State.storeScratch_sh (c a : Nat) (d : List Byte) (bp : List Bool) : (s.storeScratch c a d bp).sh = s.sh := rfl
@[simp] theorem State.storeScratch_cat (c a : Nat) (d : List Byte) (bp : List Bool) : (s.storeScratch c a d bp).cat = s.cat := rfl
@[simp] theorem State.storeScratch_sv (c a : Nat) (d : List Byte) (bp : List Bool) : (s.storeScratch c a d bp).sv = s.sv := rfl
@[simp] theorem State.storeScratch_fb (c a : Nat) (d : List Byte) (bp : List Bool) : (s.storeScratch c a d bp).fb = s.fb := rfl
@[simp] theorem State.storeScratch_ig (c a : Nat) (d : List Byte) (bp : List Bool) : (s.storeScratch c a d bp).ig = s.ig := rfl
@[simp] theorem State.storeScratch_ca (c a : Nat) (d : List Byte) (bp : List Bool) : (s.storeScratch c a d bp).ca = s.ca := rfl
@[simp] theorem State.storeScratch_pw (c a : Nat) (d : List Byte) (bp : List Bool) : (s.storeScratch c a d bp).pw = s.pw := rfl
@[simp] theorem State.storeScratch_cu (c a : Nat) (d : List Byte) (bp : List Bool) : (s.storeScratch c a d bp).cu = s.cu := rfl
@[simp] theorem State.storeScratch_pending (c a : Nat) (d : List Byte) (bp : List Bool) : (s.storeScratch c a d bp).pending = s.pending := rfl

@[simp] theorem State.modXrun_tick (x : Nat) (f : XbRun → XbRun) : (s.modXrun x f).tick = s.tick := rfl
@[simp] theorem State.modXrun_t (x : Nat) (f : XbRun → XbRun) : (s.modXrun x f).t = s.t := rfl
@[simp] theorem State.modXrun_now (x : Nat) (f : XbRun → XbRun) : (s.modXrun x f).now = s.now := rfl
@[simp] theorem State.modXrun_guarded (x : Nat) (f : XbRun → XbRun) : (s.modXrun x f).guarded = s.guarded := rfl
@[simp] theorem State.modXrun_idle (x : Nat) (f : XbRun → XbRun) : (s.modXrun x f).idle = s.idle := rfl
@[simp] theorem State.modXrun_free (x : Nat) (f : XbRun → XbRun) : (s.modXrun x f).free = s.free := rfl
@[simp] theorem State.modXrun_regs (x : Nat) (f : XbRun → XbRun) : (s.modXrun x f).regs = s.regs := rfl
@[simp] theorem State.modXrun_rwt (x : Nat) (f : XbRun → XbRun) : (s.modXrun x f).rwt = s.rwt := rfl
@[simp] theorem State.modXrun_mem (x : Nat) (f : XbRun → XbRun) : (s.modXrun x f).mem = s.mem := rfl
@[simp] theorem State.modXrun_core (x : Nat) (f : XbRun → XbRun) : (s.modXrun x f).core = s.core := rfl
@[simp] theorem State.modXrun_cl (x : Nat) (f : XbRun → XbRun) : (s.modXrun x f).cl = s.cl := rfl
@[simp] theorem State.modXrun_se (x : Nat) (f : XbRun → XbRun) : (s.modXrun x f).se = s.se := rfl
@[simp] theorem State.modXrun_sh (x : Nat) (f : XbRun → XbRun) : (s.modXrun x f).sh = s.sh := rfl
@[simp] theorem State.modXrun_cat (x : Nat) (f : XbRun → XbRun) : (s.modXrun x f).cat = s.cat := rfl
@[simp] theorem State.modXrun_sv (x : Nat) (f : XbRun → XbRun) : (s.modXrun x f).sv = s.sv := rfl
@[simp] theorem State.modXrun_fb (x : Nat) (f : XbRun → XbRun) : (s.modXrun x f).fb = s.fb := rfl
@[simp] theorem State.modXrun_ig (x : Nat) (f : XbRun → XbRun) : (s.modXrun x f).ig = s.ig := rfl
@[simp] theorem State.modXrun_ca (x : Nat) (f : XbRun → XbRun) : (s.modXrun x f).ca = s.ca := rfl
@[simp] theorem State.modXrun_pw (x : Nat) (f : XbRun → XbRun) : (s.modXrun x f).pw = s.pw := rfl
@[simp] theorem State.modXrun_cu (x : Nat) (f : XbRun → XbRun) : (s.modXrun x f).cu = s.cu := rfl
@[simp] theorem State.modXrun_pending (x : Nat) (f : XbRun → XbRun) : (s.modXrun x f).pending = s.pending := rfl

@[simp] theorem State.modPhys_tick (n : Nat) (f : PhysXb → PhysXb) : (s.modPhys n f).tick = s.tick := rfl
@[simp] theorem State.modPhys_t (n : Nat) (f : PhysXb → PhysXb) : (s.modPhys n f).t = s.t := rfl
@[simp] theorem State.modPhys_now (n : Nat) (f : PhysXb → PhysXb) : (s.modPhys n f).now = s.now := rfl
@[simp] theorem State.modPhys_guarded (n : Nat) (f : PhysXb → PhysXb) : (s.modPhys n f).guarded = s.guarded := rfl
@[simp] theorem State.modPhys_idle (n : Nat) (f : PhysXb → PhysXb) : (s.modPhys n f).idle = s.idle := rfl
@[simp] theorem State.modPhys_free (n : Nat) (f : PhysXb → PhysXb) : (s.modPhys n f).free = s.free := rfl
@[simp] theorem State.modPhys_regs (n : Nat) (f : PhysXb → PhysXb) : (s.modPhys n f).regs = s.regs := rfl
@[simp] theorem State.modPhys_rwt (n : Nat) (f : PhysXb → PhysXb) : (s.modPhys n f).rwt = s.rwt := rfl
@[simp] theorem State.modPhys_mem (n : Nat) (f : PhysXb → PhysXb) : (s.modPhys n f).mem = s.mem := rfl
@[simp] theorem State.modPhys_core (n : Nat) (f : PhysXb → PhysXb) : (s.modPhys n f).core = s.core := rfl
@[simp] theorem State.modPhys_cl (n : Nat) (f : PhysXb → PhysXb) : (s.modPhys n f).cl = s.cl := rfl
@[simp] theorem State.modPhys_se (n : Nat) (f : PhysXb → PhysXb) : (s.modPhys n f).se = s.se := rfl
@[simp] theorem State.modPhys_sh (n : Nat) (f : PhysXb → PhysXb) : (s.modPhys n f).sh = s.sh := rfl
@[simp] theorem State.modPhys_cat (n : Nat) (f : PhysXb → PhysXb) : (s.modPhys n f).cat = s.cat := rfl
@[simp] theorem State.modPhys_sv (n : Nat) (f : PhysXb → PhysXb) : (s.modPhys n f).sv = s.sv := rfl
@[simp] theorem State.modPhys_fb (n : Nat) (f : PhysXb → PhysXb) : (s.modPhys n f).fb = s.fb := rfl
@[simp] theorem State.modPhys_ig (n : Nat) (f : PhysXb → PhysXb) : (s.modPhys n f).ig = s.ig := rfl
@[simp] theorem State.modPhys_ca (n : Nat) (f : PhysXb → PhysXb) : (s.modPhys n f).ca = s.ca := rfl
@[simp] theorem State.modPhys_pw (n : Nat) (f : PhysXb → PhysXb) : (s.modPhys n f).pw = s.pw := rfl
@[simp] theorem State.modPhys_cu (n : Nat) (f : PhysXb → PhysXb) : (s.modPhys n f).cu = s.cu := rfl
@[simp] theorem State.modPhys_pending (n : Nat) (f : PhysXb → PhysXb) : (s.modPhys n f).pending = s.pending := rfl

@[simp] theorem State.modQueue_tick (l q : Nat) (f : QueueSt → QueueSt) : (s.modQueue l q f).tick = s.tick := rfl
@[simp] theorem State.modQueue_t (l q : Nat) (f : QueueSt → QueueSt) : (s.modQueue l q f).t = s.t := rfl
@[simp] theorem State.modQueue_now (l q : Nat) (f : QueueSt → QueueSt) : (s.modQueue l q f).now = s.now := rfl
@[simp] theorem State.modQueue_guarded (l q : Nat) (f : QueueSt → QueueSt) : (s.modQueue l q f).guarded = s.guarded := rfl
@[simp] theorem State.modQueue_idle (l q : Nat) (f : QueueSt → QueueSt) : (s.modQueue l q f).idle = s.idle := rfl
@[simp] theorem State.modQueue_free (l q : Nat) (f : QueueSt → QueueSt) : (s.modQueue l q f).free = s.free := rfl
@[simp] theorem State.modQueue_regs (l q : Nat) (f : QueueSt → QueueSt) : (s.modQueue l q f).regs = s.regs := rfl
@[simp] theorem State.modQueue_rwt (l q : Nat) (f : QueueSt → QueueSt) : (s.modQueue l q f).rwt = s.rwt := rfl
@[simp] theorem State.modQueue_mem (l q : Nat) (f : QueueSt → QueueSt) : (s.modQueue l q f).mem = s.mem := rfl
@[simp] theorem State.modQueue_core (l q : Nat) (f : QueueSt → QueueSt) : (s.modQueue l q f).core = s.core := rfl
@[simp] theorem State.modQueue_xb (l q : Nat) (f : QueueSt → QueueSt) : (s.modQueue l q f).xb = s.xb := rfl
@[simp] theorem State.modQueue_se (l q : Nat) (f : QueueSt → QueueSt) : (s.modQueue l q f).se = s.se := rfl
@[simp] theorem State.modQueue_sh (l q : Nat) (f : QueueSt → QueueSt) : (s.modQueue l q f).sh = s.sh := rfl
@[simp] theorem State.modQueue_cat (l q : Nat) (f : QueueSt → QueueSt) : (s.modQueue l q f).cat = s.cat := rfl
@[simp] theorem State.modQueue_sv (l q : Nat) (f : QueueSt → QueueSt) : (s.modQueue l q f).sv = s.sv := rfl
@[simp] theorem State.modQueue_fb (l q : Nat) (f : QueueSt → QueueSt) : (s.modQueue l q f).fb = s.fb := rfl
@[simp] theorem State.modQueue_ig (l q : Nat) (f : QueueSt → QueueSt) : (s.modQueue l q f).ig = s.ig := rfl
@[simp] theorem State.modQueue_ca (l q : Nat) (f : QueueSt → QueueSt) : (s.modQueue l q f).ca = s.ca := rfl
@[simp] theorem State.modQueue_pw (l q : Nat) (f : QueueSt → QueueSt) : (s.modQueue l q f).pw = s.pw := rfl
@[simp] theorem State.modQueue_cu (l q : Nat) (f : QueueSt → QueueSt) : (s.modQueue l q f).cu = s.cu := rfl
@[simp] theorem State.modQueue_pending (l q : Nat) (f : QueueSt → QueueSt) : (s.modQueue l q f).pending = s.pending := rfl

@[simp] theorem State.modPool_tick (l : Nat) (f : PoolSt → PoolSt) : (s.modPool l f).tick = s.tick := rfl
@[simp] theorem State.modPool_t (l : Nat) (f : PoolSt → PoolSt) : (s.modPool l f).t = s.t := rfl
@[simp] theorem State.modPool_now (l : Nat) (f : PoolSt → PoolSt) : (s.modPool l f).now = s.now := rfl
@[simp] theorem State.modPool_guarded (l : Nat) (f : PoolSt → PoolSt) : (s.modPool l f).guarded = s.guarded := rfl
@[simp] theorem State.modPool_idle (l : Nat) (f : PoolSt → PoolSt) : (s.modPool l f).idle = s.idle := rfl
@[simp] theorem State.modPool_free (l : Nat) (f : PoolSt → PoolSt) : (s.modPool l f).free = s.free := rfl
@[simp] theorem State.modPool_regs (l : Nat) (f : PoolSt → PoolSt) : (s.modPool l f).regs = s.regs := rfl
@[simp] theorem State.modPool_rwt (l : Nat) (f : PoolSt → PoolSt) : (s.modPool l f).rwt = s.rwt := rfl
@[simp] theorem State.modPool_mem (l : Nat) (f : PoolSt → PoolSt) : (s.modPool l f).mem = s.mem := rfl
@[simp] theorem State.modPool_core (l : Nat) (f : PoolSt → PoolSt) : (s.modPool l f).core = s.core := rfl
@[simp] theorem State.modPool_xb (l : Nat) (f : PoolSt → PoolSt) : (s.modPool l f).xb = s.xb := rfl
@[simp] theorem State.modPool_se (l : Nat) (f : PoolSt → PoolSt) : (s.modPool l f).se = s.se := rfl
@[simp] theorem State.modPool_sh (l : Nat) (f : PoolSt → PoolSt) : (s.modPool l f).sh = s.sh := rfl
@[simp] theorem State.modPool_cat (l : Nat) (f : PoolSt → PoolSt) : (s.modPool l f).cat = s.cat := rfl
@[simp] theorem State.modPool_sv (l : Nat) (f : PoolSt → PoolSt) : (s.modPool l f).sv = s.sv := rfl
@[simp] theorem State.modPool_fb (l : Nat) (f : PoolSt → PoolSt) : (s.modPool l f).fb = s.fb := rfl
@[simp] theorem State.modPool_ig (l : Nat) (f : PoolSt → PoolSt) : (s.modPool l f).ig = s.ig := rfl
@[simp] theorem State.modPool_ca (l : Nat) (f : PoolSt → PoolSt) : (s.modPool l f).ca = s.ca := rfl
@[simp] theorem State.modPool_pw (l : Nat) (f : PoolSt → PoolSt) : (s.modPool l f).pw = s.pw := rfl
@[simp] theorem State.modPool_cu (l : Nat) (f : PoolSt → PoolSt) : (s.modPool l f).cu = s.cu := rfl
@[simp] theorem State.modPool_pending (l : Nat) (f : PoolSt → PoolSt) : (s.modPool l f).pending = s.pending := rfl

@[simp] theorem State.modXe_tick (l : Nat) (f : XeSt → XeSt) : (s.modXe l f).tick = s.tick := rfl
@[simp] theorem State.modXe_t (l : Nat) (f : XeSt → XeSt) : (s.modXe l f).t = s.t := rfl
@[simp] theorem State.modXe_now (l : Nat) (f : XeSt → XeSt) : (s.modXe l f).now = s.now := rfl
@[simp] theorem State.modXe_guarded (l : Nat) (f : XeSt → XeSt) : (s.modXe l f).guarded = s.guarded := rfl
@[simp] theorem State.modXe_idle (l : Nat) (f : XeSt → XeSt) : (s.modXe l f).idle = s.idle := rfl
@[simp] theorem State.modXe_free (l : Nat) (f : XeSt → XeSt) : (s.modXe l f).free = s.free := rfl
@[simp] theorem State.modXe_regs (l : Nat) (f : XeSt → XeSt) : (s.modXe l f).regs = s.regs := rfl
@[simp] theorem State.modXe_rwt (l : Nat) (f : XeSt → XeSt) : (s.modXe l f).rwt = s.rwt := rfl
@[simp] theorem State.modXe_mem (l : Nat) (f : XeSt → XeSt) : (s.modXe l f).mem = s.mem := rfl
@[simp] theorem State.modXe_core (l : Nat) (f : XeSt → XeSt) : (s.modXe l f).core = s.core := rfl
@[simp] theorem State.modXe_xb (l : Nat) (f : XeSt → XeSt) : (s.modXe l f).xb = s.xb := rfl
@[simp] theorem State.modXe_se (l : Nat) (f : XeSt → XeSt) : (s.modXe l f).se = s.se := rfl
@[simp] theorem State.modXe_sh (l : Nat) (f : XeSt → XeSt) : (s.modXe l f).sh = s.sh := rfl
@[simp] theorem State.modXe_cat (l : Nat) (f : XeSt → XeSt) : (s.modXe l f).cat = s.cat := rfl
@[simp] theorem State.modXe_sv (l : Nat) (f : XeSt → XeSt) : (s.modXe l f).sv = s.sv := rfl
@[simp] theorem State.modXe_fb (l : Nat) (f : XeSt → XeSt) : (s.modXe l f).fb = s.fb := rfl
@[simp] theorem State.modXe_ig (l : Nat) (f : XeSt → XeSt) : (s.modXe l f).ig = s.ig := rfl
@[simp] theorem State.modXe_ca (l : Nat) (f : XeSt → XeSt) : (s.modXe l f).ca = s.ca := rfl
@[simp] theorem State.modXe_pw (l : Nat) (f : XeSt → XeSt) : (s.modXe l f).pw = s.pw := rfl
@[simp] theorem State.modXe_cu (l : Nat) (f : XeSt → XeSt) : (s.modXe l f).cu = s.cu := rfl
@[simp] theorem State.modXe_pending (l : Nat) (f : XeSt → XeSt) : (s.modXe l f).pending = s.pending := rfl

@[simp] theorem State.modCredit_tick (n : Nat) (f : CreditSt → CreditSt) : (s.modCredit n f).tick = s.tick := rfl
@[simp] theorem State.modCredit_t (n : Nat) (f : CreditSt → CreditSt) : (s.modCredit n f).t = s.t := rfl
@[simp] theorem State.modCredit_now (n : Nat) (f : CreditSt → CreditSt) : (s.modCredit n f).now = s.now := rfl
@[simp] theorem State.modCredit_guarded (n : Nat) (f : CreditSt → CreditSt) : (s.modCredit n f).guarded = s.guarded := rfl
@[simp] theorem State.modCredit_idle (n : Nat) (f : CreditSt → CreditSt) : (s.modCredit n f).idle = s.idle := rfl
@[simp] theorem State.modCredit_free (n : Nat) (f : CreditSt → CreditSt) : (s.modCredit n f).free = s.free := rfl
@[simp] theorem State.modCredit_regs (n : Nat) (f : CreditSt → CreditSt) : (s.modCredit n f).regs = s.regs := rfl
@[simp] theorem State.modCredit_rwt (n : Nat) (f : CreditSt → CreditSt) : (s.modCredit n f).rwt = s.rwt := rfl
@[simp] theorem State.modCredit_mem (n : Nat) (f : CreditSt → CreditSt) : (s.modCredit n f).mem = s.mem := rfl
@[simp] theorem State.modCredit_core (n : Nat) (f : CreditSt → CreditSt) : (s.modCredit n f).core = s.core := rfl
@[simp] theorem State.modCredit_xb (n : Nat) (f : CreditSt → CreditSt) : (s.modCredit n f).xb = s.xb := rfl
@[simp] theorem State.modCredit_se (n : Nat) (f : CreditSt → CreditSt) : (s.modCredit n f).se = s.se := rfl
@[simp] theorem State.modCredit_sh (n : Nat) (f : CreditSt → CreditSt) : (s.modCredit n f).sh = s.sh := rfl
@[simp] theorem State.modCredit_cat (n : Nat) (f : CreditSt → CreditSt) : (s.modCredit n f).cat = s.cat := rfl
@[simp] theorem State.modCredit_sv (n : Nat) (f : CreditSt → CreditSt) : (s.modCredit n f).sv = s.sv := rfl
@[simp] theorem State.modCredit_fb (n : Nat) (f : CreditSt → CreditSt) : (s.modCredit n f).fb = s.fb := rfl
@[simp] theorem State.modCredit_ig (n : Nat) (f : CreditSt → CreditSt) : (s.modCredit n f).ig = s.ig := rfl
@[simp] theorem State.modCredit_ca (n : Nat) (f : CreditSt → CreditSt) : (s.modCredit n f).ca = s.ca := rfl
@[simp] theorem State.modCredit_pw (n : Nat) (f : CreditSt → CreditSt) : (s.modCredit n f).pw = s.pw := rfl
@[simp] theorem State.modCredit_cu (n : Nat) (f : CreditSt → CreditSt) : (s.modCredit n f).cu = s.cu := rfl
@[simp] theorem State.modCredit_pending (n : Nat) (f : CreditSt → CreditSt) : (s.modCredit n f).pending = s.pending := rfl

@[simp] theorem State.setSeCmds_tick (i : Nat) (l : List SeCmd) : (s.setSeCmds i l).tick = s.tick := rfl
@[simp] theorem State.setSeCmds_t (i : Nat) (l : List SeCmd) : (s.setSeCmds i l).t = s.t := rfl
@[simp] theorem State.setSeCmds_now (i : Nat) (l : List SeCmd) : (s.setSeCmds i l).now = s.now := rfl
@[simp] theorem State.setSeCmds_guarded (i : Nat) (l : List SeCmd) : (s.setSeCmds i l).guarded = s.guarded := rfl
@[simp] theorem State.setSeCmds_idle (i : Nat) (l : List SeCmd) : (s.setSeCmds i l).idle = s.idle := rfl
@[simp] theorem State.setSeCmds_free (i : Nat) (l : List SeCmd) : (s.setSeCmds i l).free = s.free := rfl
@[simp] theorem State.setSeCmds_regs (i : Nat) (l : List SeCmd) : (s.setSeCmds i l).regs = s.regs := rfl
@[simp] theorem State.setSeCmds_rwt (i : Nat) (l : List SeCmd) : (s.setSeCmds i l).rwt = s.rwt := rfl
@[simp] theorem State.setSeCmds_mem (i : Nat) (l : List SeCmd) : (s.setSeCmds i l).mem = s.mem := rfl
@[simp] theorem State.setSeCmds_core (i : Nat) (l : List SeCmd) : (s.setSeCmds i l).core = s.core := rfl
@[simp] theorem State.setSeCmds_xb (i : Nat) (l : List SeCmd) : (s.setSeCmds i l).xb = s.xb := rfl
@[simp] theorem State.setSeCmds_cl (i : Nat) (l : List SeCmd) : (s.setSeCmds i l).cl = s.cl := rfl
@[simp] theorem State.setSeCmds_sh (i : Nat) (l : List SeCmd) : (s.setSeCmds i l).sh = s.sh := rfl
@[simp] theorem State.setSeCmds_cat (i : Nat) (l : List SeCmd) : (s.setSeCmds i l).cat = s.cat := rfl
@[simp] theorem State.setSeCmds_sv (i : Nat) (l : List SeCmd) : (s.setSeCmds i l).sv = s.sv := rfl
@[simp] theorem State.setSeCmds_fb (i : Nat) (l : List SeCmd) : (s.setSeCmds i l).fb = s.fb := rfl
@[simp] theorem State.setSeCmds_ig (i : Nat) (l : List SeCmd) : (s.setSeCmds i l).ig = s.ig := rfl
@[simp] theorem State.setSeCmds_ca (i : Nat) (l : List SeCmd) : (s.setSeCmds i l).ca = s.ca := rfl
@[simp] theorem State.setSeCmds_pw (i : Nat) (l : List SeCmd) : (s.setSeCmds i l).pw = s.pw := rfl
@[simp] theorem State.setSeCmds_cu (i : Nat) (l : List SeCmd) : (s.setSeCmds i l).cu = s.cu := rfl
@[simp] theorem State.setSeCmds_pending (i : Nat) (l : List SeCmd) : (s.setSeCmds i l).pending = s.pending := rfl

@[simp] theorem State.modDslot_tick (i k : Nat) (f : SlotSt → SlotSt) : (s.modDslot i k f).tick = s.tick := rfl
@[simp] theorem State.modDslot_t (i k : Nat) (f : SlotSt → SlotSt) : (s.modDslot i k f).t = s.t := rfl
@[simp] theorem State.modDslot_now (i k : Nat) (f : SlotSt → SlotSt) : (s.modDslot i k f).now = s.now := rfl
@[simp] theorem State.modDslot_guarded (i k : Nat) (f : SlotSt → SlotSt) : (s.modDslot i k f).guarded = s.guarded := rfl
@[simp] theorem State.modDslot_idle (i k : Nat) (f : SlotSt → SlotSt) : (s.modDslot i k f).idle = s.idle := rfl
@[simp] theorem State.modDslot_free (i k : Nat) (f : SlotSt → SlotSt) : (s.modDslot i k f).free = s.free := rfl
@[simp] theorem State.modDslot_regs (i k : Nat) (f : SlotSt → SlotSt) : (s.modDslot i k f).regs = s.regs := rfl
@[simp] theorem State.modDslot_rwt (i k : Nat) (f : SlotSt → SlotSt) : (s.modDslot i k f).rwt = s.rwt := rfl
@[simp] theorem State.modDslot_mem (i k : Nat) (f : SlotSt → SlotSt) : (s.modDslot i k f).mem = s.mem := rfl
@[simp] theorem State.modDslot_core (i k : Nat) (f : SlotSt → SlotSt) : (s.modDslot i k f).core = s.core := rfl
@[simp] theorem State.modDslot_xb (i k : Nat) (f : SlotSt → SlotSt) : (s.modDslot i k f).xb = s.xb := rfl
@[simp] theorem State.modDslot_cl (i k : Nat) (f : SlotSt → SlotSt) : (s.modDslot i k f).cl = s.cl := rfl
@[simp] theorem State.modDslot_sh (i k : Nat) (f : SlotSt → SlotSt) : (s.modDslot i k f).sh = s.sh := rfl
@[simp] theorem State.modDslot_cat (i k : Nat) (f : SlotSt → SlotSt) : (s.modDslot i k f).cat = s.cat := rfl
@[simp] theorem State.modDslot_sv (i k : Nat) (f : SlotSt → SlotSt) : (s.modDslot i k f).sv = s.sv := rfl
@[simp] theorem State.modDslot_fb (i k : Nat) (f : SlotSt → SlotSt) : (s.modDslot i k f).fb = s.fb := rfl
@[simp] theorem State.modDslot_ig (i k : Nat) (f : SlotSt → SlotSt) : (s.modDslot i k f).ig = s.ig := rfl
@[simp] theorem State.modDslot_ca (i k : Nat) (f : SlotSt → SlotSt) : (s.modDslot i k f).ca = s.ca := rfl
@[simp] theorem State.modDslot_pw (i k : Nat) (f : SlotSt → SlotSt) : (s.modDslot i k f).pw = s.pw := rfl
@[simp] theorem State.modDslot_cu (i k : Nat) (f : SlotSt → SlotSt) : (s.modDslot i k f).cu = s.cu := rfl
@[simp] theorem State.modDslot_pending (i k : Nat) (f : SlotSt → SlotSt) : (s.modDslot i k f).pending = s.pending := rfl

@[simp] theorem State.modVol_tick (h : Nat) (f : Volume → Volume) : (s.modVol h f).tick = s.tick := rfl
@[simp] theorem State.modVol_t (h : Nat) (f : Volume → Volume) : (s.modVol h f).t = s.t := rfl
@[simp] theorem State.modVol_now (h : Nat) (f : Volume → Volume) : (s.modVol h f).now = s.now := rfl
@[simp] theorem State.modVol_guarded (h : Nat) (f : Volume → Volume) : (s.modVol h f).guarded = s.guarded := rfl
@[simp] theorem State.modVol_idle (h : Nat) (f : Volume → Volume) : (s.modVol h f).idle = s.idle := rfl
@[simp] theorem State.modVol_free (h : Nat) (f : Volume → Volume) : (s.modVol h f).free = s.free := rfl
@[simp] theorem State.modVol_regs (h : Nat) (f : Volume → Volume) : (s.modVol h f).regs = s.regs := rfl
@[simp] theorem State.modVol_rwt (h : Nat) (f : Volume → Volume) : (s.modVol h f).rwt = s.rwt := rfl
@[simp] theorem State.modVol_mem (h : Nat) (f : Volume → Volume) : (s.modVol h f).mem = s.mem := rfl
@[simp] theorem State.modVol_core (h : Nat) (f : Volume → Volume) : (s.modVol h f).core = s.core := rfl
@[simp] theorem State.modVol_xb (h : Nat) (f : Volume → Volume) : (s.modVol h f).xb = s.xb := rfl
@[simp] theorem State.modVol_cl (h : Nat) (f : Volume → Volume) : (s.modVol h f).cl = s.cl := rfl
@[simp] theorem State.modVol_se (h : Nat) (f : Volume → Volume) : (s.modVol h f).se = s.se := rfl
@[simp] theorem State.modVol_cat (h : Nat) (f : Volume → Volume) : (s.modVol h f).cat = s.cat := rfl
@[simp] theorem State.modVol_sv (h : Nat) (f : Volume → Volume) : (s.modVol h f).sv = s.sv := rfl
@[simp] theorem State.modVol_fb (h : Nat) (f : Volume → Volume) : (s.modVol h f).fb = s.fb := rfl
@[simp] theorem State.modVol_ig (h : Nat) (f : Volume → Volume) : (s.modVol h f).ig = s.ig := rfl
@[simp] theorem State.modVol_ca (h : Nat) (f : Volume → Volume) : (s.modVol h f).ca = s.ca := rfl
@[simp] theorem State.modVol_pw (h : Nat) (f : Volume → Volume) : (s.modVol h f).pw = s.pw := rfl
@[simp] theorem State.modVol_cu (h : Nat) (f : Volume → Volume) : (s.modVol h f).cu = s.cu := rfl
@[simp] theorem State.modVol_pending (h : Nat) (f : Volume → Volume) : (s.modVol h f).pending = s.pending := rfl

@[simp] theorem State.modSect_tick (n : Nat) (f : SectionSt → SectionSt) : (s.modSect n f).tick = s.tick := rfl
@[simp] theorem State.modSect_t (n : Nat) (f : SectionSt → SectionSt) : (s.modSect n f).t = s.t := rfl
@[simp] theorem State.modSect_now (n : Nat) (f : SectionSt → SectionSt) : (s.modSect n f).now = s.now := rfl
@[simp] theorem State.modSect_guarded (n : Nat) (f : SectionSt → SectionSt) : (s.modSect n f).guarded = s.guarded := rfl
@[simp] theorem State.modSect_idle (n : Nat) (f : SectionSt → SectionSt) : (s.modSect n f).idle = s.idle := rfl
@[simp] theorem State.modSect_free (n : Nat) (f : SectionSt → SectionSt) : (s.modSect n f).free = s.free := rfl
@[simp] theorem State.modSect_regs (n : Nat) (f : SectionSt → SectionSt) : (s.modSect n f).regs = s.regs := rfl
@[simp] theorem State.modSect_rwt (n : Nat) (f : SectionSt → SectionSt) : (s.modSect n f).rwt = s.rwt := rfl
@[simp] theorem State.modSect_mem (n : Nat) (f : SectionSt → SectionSt) : (s.modSect n f).mem = s.mem := rfl
@[simp] theorem State.modSect_core (n : Nat) (f : SectionSt → SectionSt) : (s.modSect n f).core = s.core := rfl
@[simp] theorem State.modSect_xb (n : Nat) (f : SectionSt → SectionSt) : (s.modSect n f).xb = s.xb := rfl
@[simp] theorem State.modSect_cl (n : Nat) (f : SectionSt → SectionSt) : (s.modSect n f).cl = s.cl := rfl
@[simp] theorem State.modSect_se (n : Nat) (f : SectionSt → SectionSt) : (s.modSect n f).se = s.se := rfl
@[simp] theorem State.modSect_cat (n : Nat) (f : SectionSt → SectionSt) : (s.modSect n f).cat = s.cat := rfl
@[simp] theorem State.modSect_sv (n : Nat) (f : SectionSt → SectionSt) : (s.modSect n f).sv = s.sv := rfl
@[simp] theorem State.modSect_fb (n : Nat) (f : SectionSt → SectionSt) : (s.modSect n f).fb = s.fb := rfl
@[simp] theorem State.modSect_ig (n : Nat) (f : SectionSt → SectionSt) : (s.modSect n f).ig = s.ig := rfl
@[simp] theorem State.modSect_ca (n : Nat) (f : SectionSt → SectionSt) : (s.modSect n f).ca = s.ca := rfl
@[simp] theorem State.modSect_pw (n : Nat) (f : SectionSt → SectionSt) : (s.modSect n f).pw = s.pw := rfl
@[simp] theorem State.modSect_cu (n : Nat) (f : SectionSt → SectionSt) : (s.modSect n f).cu = s.cu := rfl
@[simp] theorem State.modSect_pending (n : Nat) (f : SectionSt → SectionSt) : (s.modSect n f).pending = s.pending := rfl

@[simp] theorem State.modAslot_tick (n : Nat) (f : ASlot → ASlot) : (s.modAslot n f).tick = s.tick := rfl
@[simp] theorem State.modAslot_t (n : Nat) (f : ASlot → ASlot) : (s.modAslot n f).t = s.t := rfl
@[simp] theorem State.modAslot_now (n : Nat) (f : ASlot → ASlot) : (s.modAslot n f).now = s.now := rfl
@[simp] theorem State.modAslot_guarded (n : Nat) (f : ASlot → ASlot) : (s.modAslot n f).guarded = s.guarded := rfl
@[simp] theorem State.modAslot_idle (n : Nat) (f : ASlot → ASlot) : (s.modAslot n f).idle = s.idle := rfl
@[simp] theorem State.modAslot_free (n : Nat) (f : ASlot → ASlot) : (s.modAslot n f).free = s.free := rfl
@[simp] theorem State.modAslot_regs (n : Nat) (f : ASlot → ASlot) : (s.modAslot n f).regs = s.regs := rfl
@[simp] theorem State.modAslot_rwt (n : Nat) (f : ASlot → ASlot) : (s.modAslot n f).rwt = s.rwt := rfl
@[simp] theorem State.modAslot_mem (n : Nat) (f : ASlot → ASlot) : (s.modAslot n f).mem = s.mem := rfl
@[simp] theorem State.modAslot_core (n : Nat) (f : ASlot → ASlot) : (s.modAslot n f).core = s.core := rfl
@[simp] theorem State.modAslot_xb (n : Nat) (f : ASlot → ASlot) : (s.modAslot n f).xb = s.xb := rfl
@[simp] theorem State.modAslot_cl (n : Nat) (f : ASlot → ASlot) : (s.modAslot n f).cl = s.cl := rfl
@[simp] theorem State.modAslot_se (n : Nat) (f : ASlot → ASlot) : (s.modAslot n f).se = s.se := rfl
@[simp] theorem State.modAslot_cat (n : Nat) (f : ASlot → ASlot) : (s.modAslot n f).cat = s.cat := rfl
@[simp] theorem State.modAslot_sv (n : Nat) (f : ASlot → ASlot) : (s.modAslot n f).sv = s.sv := rfl
@[simp] theorem State.modAslot_fb (n : Nat) (f : ASlot → ASlot) : (s.modAslot n f).fb = s.fb := rfl
@[simp] theorem State.modAslot_ig (n : Nat) (f : ASlot → ASlot) : (s.modAslot n f).ig = s.ig := rfl
@[simp] theorem State.modAslot_ca (n : Nat) (f : ASlot → ASlot) : (s.modAslot n f).ca = s.ca := rfl
@[simp] theorem State.modAslot_pw (n : Nat) (f : ASlot → ASlot) : (s.modAslot n f).pw = s.pw := rfl
@[simp] theorem State.modAslot_cu (n : Nat) (f : ASlot → ASlot) : (s.modAslot n f).cu = s.cu := rfl
@[simp] theorem State.modAslot_pending (n : Nat) (f : ASlot → ASlot) : (s.modAslot n f).pending = s.pending := rfl

@[simp] theorem State.modHport_tick (p : Nat) (f : PortSt → PortSt) : (s.modHport p f).tick = s.tick := rfl
@[simp] theorem State.modHport_t (p : Nat) (f : PortSt → PortSt) : (s.modHport p f).t = s.t := rfl
@[simp] theorem State.modHport_now (p : Nat) (f : PortSt → PortSt) : (s.modHport p f).now = s.now := rfl
@[simp] theorem State.modHport_guarded (p : Nat) (f : PortSt → PortSt) : (s.modHport p f).guarded = s.guarded := rfl
@[simp] theorem State.modHport_idle (p : Nat) (f : PortSt → PortSt) : (s.modHport p f).idle = s.idle := rfl
@[simp] theorem State.modHport_free (p : Nat) (f : PortSt → PortSt) : (s.modHport p f).free = s.free := rfl
@[simp] theorem State.modHport_regs (p : Nat) (f : PortSt → PortSt) : (s.modHport p f).regs = s.regs := rfl
@[simp] theorem State.modHport_rwt (p : Nat) (f : PortSt → PortSt) : (s.modHport p f).rwt = s.rwt := rfl
@[simp] theorem State.modHport_mem (p : Nat) (f : PortSt → PortSt) : (s.modHport p f).mem = s.mem := rfl
@[simp] theorem State.modHport_core (p : Nat) (f : PortSt → PortSt) : (s.modHport p f).core = s.core := rfl
@[simp] theorem State.modHport_xb (p : Nat) (f : PortSt → PortSt) : (s.modHport p f).xb = s.xb := rfl
@[simp] theorem State.modHport_cl (p : Nat) (f : PortSt → PortSt) : (s.modHport p f).cl = s.cl := rfl
@[simp] theorem State.modHport_se (p : Nat) (f : PortSt → PortSt) : (s.modHport p f).se = s.se := rfl
@[simp] theorem State.modHport_sh (p : Nat) (f : PortSt → PortSt) : (s.modHport p f).sh = s.sh := rfl
@[simp] theorem State.modHport_cat (p : Nat) (f : PortSt → PortSt) : (s.modHport p f).cat = s.cat := rfl
@[simp] theorem State.modHport_fb (p : Nat) (f : PortSt → PortSt) : (s.modHport p f).fb = s.fb := rfl
@[simp] theorem State.modHport_ig (p : Nat) (f : PortSt → PortSt) : (s.modHport p f).ig = s.ig := rfl
@[simp] theorem State.modHport_ca (p : Nat) (f : PortSt → PortSt) : (s.modHport p f).ca = s.ca := rfl
@[simp] theorem State.modHport_pw (p : Nat) (f : PortSt → PortSt) : (s.modHport p f).pw = s.pw := rfl
@[simp] theorem State.modHport_cu (p : Nat) (f : PortSt → PortSt) : (s.modHport p f).cu = s.cu := rfl
@[simp] theorem State.modHport_pending (p : Nat) (f : PortSt → PortSt) : (s.modHport p f).pending = s.pending := rfl

@[simp] theorem State.modRing_tick (p k : Nat) (f : RingSt → RingSt) : (s.modRing p k f).tick = s.tick := rfl
@[simp] theorem State.modRing_t (p k : Nat) (f : RingSt → RingSt) : (s.modRing p k f).t = s.t := rfl
@[simp] theorem State.modRing_now (p k : Nat) (f : RingSt → RingSt) : (s.modRing p k f).now = s.now := rfl
@[simp] theorem State.modRing_guarded (p k : Nat) (f : RingSt → RingSt) : (s.modRing p k f).guarded = s.guarded := rfl
@[simp] theorem State.modRing_idle (p k : Nat) (f : RingSt → RingSt) : (s.modRing p k f).idle = s.idle := rfl
@[simp] theorem State.modRing_free (p k : Nat) (f : RingSt → RingSt) : (s.modRing p k f).free = s.free := rfl
@[simp] theorem State.modRing_regs (p k : Nat) (f : RingSt → RingSt) : (s.modRing p k f).regs = s.regs := rfl
@[simp] theorem State.modRing_rwt (p k : Nat) (f : RingSt → RingSt) : (s.modRing p k f).rwt = s.rwt := rfl
@[simp] theorem State.modRing_mem (p k : Nat) (f : RingSt → RingSt) : (s.modRing p k f).mem = s.mem := rfl
@[simp] theorem State.modRing_core (p k : Nat) (f : RingSt → RingSt) : (s.modRing p k f).core = s.core := rfl
@[simp] theorem State.modRing_xb (p k : Nat) (f : RingSt → RingSt) : (s.modRing p k f).xb = s.xb := rfl
@[simp] theorem State.modRing_cl (p k : Nat) (f : RingSt → RingSt) : (s.modRing p k f).cl = s.cl := rfl
@[simp] theorem State.modRing_se (p k : Nat) (f : RingSt → RingSt) : (s.modRing p k f).se = s.se := rfl
@[simp] theorem State.modRing_sh (p k : Nat) (f : RingSt → RingSt) : (s.modRing p k f).sh = s.sh := rfl
@[simp] theorem State.modRing_cat (p k : Nat) (f : RingSt → RingSt) : (s.modRing p k f).cat = s.cat := rfl
@[simp] theorem State.modRing_fb (p k : Nat) (f : RingSt → RingSt) : (s.modRing p k f).fb = s.fb := rfl
@[simp] theorem State.modRing_ig (p k : Nat) (f : RingSt → RingSt) : (s.modRing p k f).ig = s.ig := rfl
@[simp] theorem State.modRing_ca (p k : Nat) (f : RingSt → RingSt) : (s.modRing p k f).ca = s.ca := rfl
@[simp] theorem State.modRing_pw (p k : Nat) (f : RingSt → RingSt) : (s.modRing p k f).pw = s.pw := rfl
@[simp] theorem State.modRing_cu (p k : Nat) (f : RingSt → RingSt) : (s.modRing p k f).cu = s.cu := rfl
@[simp] theorem State.modRing_pending (p k : Nat) (f : RingSt → RingSt) : (s.modRing p k f).pending = s.pending := rfl

@[simp] theorem State.modFport_tick (p : Nat) (f : FabPort → FabPort) : (s.modFport p f).tick = s.tick := rfl
@[simp] theorem State.modFport_t (p : Nat) (f : FabPort → FabPort) : (s.modFport p f).t = s.t := rfl
@[simp] theorem State.modFport_now (p : Nat) (f : FabPort → FabPort) : (s.modFport p f).now = s.now := rfl
@[simp] theorem State.modFport_guarded (p : Nat) (f : FabPort → FabPort) : (s.modFport p f).guarded = s.guarded := rfl
@[simp] theorem State.modFport_idle (p : Nat) (f : FabPort → FabPort) : (s.modFport p f).idle = s.idle := rfl
@[simp] theorem State.modFport_free (p : Nat) (f : FabPort → FabPort) : (s.modFport p f).free = s.free := rfl
@[simp] theorem State.modFport_regs (p : Nat) (f : FabPort → FabPort) : (s.modFport p f).regs = s.regs := rfl
@[simp] theorem State.modFport_rwt (p : Nat) (f : FabPort → FabPort) : (s.modFport p f).rwt = s.rwt := rfl
@[simp] theorem State.modFport_mem (p : Nat) (f : FabPort → FabPort) : (s.modFport p f).mem = s.mem := rfl
@[simp] theorem State.modFport_core (p : Nat) (f : FabPort → FabPort) : (s.modFport p f).core = s.core := rfl
@[simp] theorem State.modFport_xb (p : Nat) (f : FabPort → FabPort) : (s.modFport p f).xb = s.xb := rfl
@[simp] theorem State.modFport_cl (p : Nat) (f : FabPort → FabPort) : (s.modFport p f).cl = s.cl := rfl
@[simp] theorem State.modFport_se (p : Nat) (f : FabPort → FabPort) : (s.modFport p f).se = s.se := rfl
@[simp] theorem State.modFport_sh (p : Nat) (f : FabPort → FabPort) : (s.modFport p f).sh = s.sh := rfl
@[simp] theorem State.modFport_cat (p : Nat) (f : FabPort → FabPort) : (s.modFport p f).cat = s.cat := rfl
@[simp] theorem State.modFport_sv (p : Nat) (f : FabPort → FabPort) : (s.modFport p f).sv = s.sv := rfl
@[simp] theorem State.modFport_ig (p : Nat) (f : FabPort → FabPort) : (s.modFport p f).ig = s.ig := rfl
@[simp] theorem State.modFport_ca (p : Nat) (f : FabPort → FabPort) : (s.modFport p f).ca = s.ca := rfl
@[simp] theorem State.modFport_pw (p : Nat) (f : FabPort → FabPort) : (s.modFport p f).pw = s.pw := rfl
@[simp] theorem State.modFport_cu (p : Nat) (f : FabPort → FabPort) : (s.modFport p f).cu = s.cu := rfl
@[simp] theorem State.modFport_pending (p : Nat) (f : FabPort → FabPort) : (s.modFport p f).pending = s.pending := rfl

@[simp] theorem State.setGpr_tick (c : Nat) (r : GReg) (v : W64) (p : Bool) : (s.setGpr c r v p).tick = s.tick := by unfold State.setGpr; split <;> rfl
@[simp] theorem State.setGpr_t (c : Nat) (r : GReg) (v : W64) (p : Bool) : (s.setGpr c r v p).t = s.t := by unfold State.setGpr; split <;> rfl
@[simp] theorem State.setGpr_now (c : Nat) (r : GReg) (v : W64) (p : Bool) : (s.setGpr c r v p).now = s.now := by unfold State.setGpr; split <;> rfl
@[simp] theorem State.setGpr_guarded (c : Nat) (r : GReg) (v : W64) (p : Bool) : (s.setGpr c r v p).guarded = s.guarded := by unfold State.setGpr; split <;> rfl
@[simp] theorem State.setGpr_idle (c : Nat) (r : GReg) (v : W64) (p : Bool) : (s.setGpr c r v p).idle = s.idle := by unfold State.setGpr; split <;> rfl
@[simp] theorem State.setGpr_free (c : Nat) (r : GReg) (v : W64) (p : Bool) : (s.setGpr c r v p).free = s.free := by unfold State.setGpr; split <;> rfl
@[simp] theorem State.setGpr_regs (c : Nat) (r : GReg) (v : W64) (p : Bool) : (s.setGpr c r v p).regs = s.regs := by unfold State.setGpr; split <;> rfl
@[simp] theorem State.setGpr_rwt (c : Nat) (r : GReg) (v : W64) (p : Bool) : (s.setGpr c r v p).rwt = s.rwt := by unfold State.setGpr; split <;> rfl
@[simp] theorem State.setGpr_mem (c : Nat) (r : GReg) (v : W64) (p : Bool) : (s.setGpr c r v p).mem = s.mem := by unfold State.setGpr; split <;> rfl
@[simp] theorem State.setGpr_xb (c : Nat) (r : GReg) (v : W64) (p : Bool) : (s.setGpr c r v p).xb = s.xb := by unfold State.setGpr; split <;> rfl
@[simp] theorem State.setGpr_cl (c : Nat) (r : GReg) (v : W64) (p : Bool) : (s.setGpr c r v p).cl = s.cl := by unfold State.setGpr; split <;> rfl
@[simp] theorem State.setGpr_se (c : Nat) (r : GReg) (v : W64) (p : Bool) : (s.setGpr c r v p).se = s.se := by unfold State.setGpr; split <;> rfl
@[simp] theorem State.setGpr_sh (c : Nat) (r : GReg) (v : W64) (p : Bool) : (s.setGpr c r v p).sh = s.sh := by unfold State.setGpr; split <;> rfl
@[simp] theorem State.setGpr_cat (c : Nat) (r : GReg) (v : W64) (p : Bool) : (s.setGpr c r v p).cat = s.cat := by unfold State.setGpr; split <;> rfl
@[simp] theorem State.setGpr_sv (c : Nat) (r : GReg) (v : W64) (p : Bool) : (s.setGpr c r v p).sv = s.sv := by unfold State.setGpr; split <;> rfl
@[simp] theorem State.setGpr_fb (c : Nat) (r : GReg) (v : W64) (p : Bool) : (s.setGpr c r v p).fb = s.fb := by unfold State.setGpr; split <;> rfl
@[simp] theorem State.setGpr_ig (c : Nat) (r : GReg) (v : W64) (p : Bool) : (s.setGpr c r v p).ig = s.ig := by unfold State.setGpr; split <;> rfl
@[simp] theorem State.setGpr_ca (c : Nat) (r : GReg) (v : W64) (p : Bool) : (s.setGpr c r v p).ca = s.ca := by unfold State.setGpr; split <;> rfl
@[simp] theorem State.setGpr_pw (c : Nat) (r : GReg) (v : W64) (p : Bool) : (s.setGpr c r v p).pw = s.pw := by unfold State.setGpr; split <;> rfl
@[simp] theorem State.setGpr_cu (c : Nat) (r : GReg) (v : W64) (p : Bool) : (s.setGpr c r v p).cu = s.cu := by unfold State.setGpr; split <;> rfl
@[simp] theorem State.setGpr_pending (c : Nat) (r : GReg) (v : W64) (p : Bool) : (s.setGpr c r v p).pending = s.pending := by unfold State.setGpr; split <;> rfl

@[simp] theorem State.advance_tick (x : Nat) : (s.advance x).tick = s.tick := by unfold State.advance; split <;> rfl
@[simp] theorem State.advance_guarded (x : Nat) : (s.advance x).guarded = s.guarded := by unfold State.advance; split <;> rfl
@[simp] theorem State.advance_idle (x : Nat) : (s.advance x).idle = s.idle := by unfold State.advance; split <;> rfl
@[simp] theorem State.advance_free (x : Nat) : (s.advance x).free = s.free := by unfold State.advance; split <;> rfl
@[simp] theorem State.advance_regs (x : Nat) : (s.advance x).regs = s.regs := by unfold State.advance; split <;> rfl
@[simp] theorem State.advance_rwt (x : Nat) : (s.advance x).rwt = s.rwt := by unfold State.advance; split <;> rfl
@[simp] theorem State.advance_mem (x : Nat) : (s.advance x).mem = s.mem := by unfold State.advance; split <;> rfl
@[simp] theorem State.advance_core (x : Nat) : (s.advance x).core = s.core := by unfold State.advance; split <;> rfl
@[simp] theorem State.advance_xb (x : Nat) : (s.advance x).xb = s.xb := by unfold State.advance; split <;> rfl
@[simp] theorem State.advance_cl (x : Nat) : (s.advance x).cl = s.cl := by unfold State.advance; split <;> rfl
@[simp] theorem State.advance_se (x : Nat) : (s.advance x).se = s.se := by unfold State.advance; split <;> rfl
@[simp] theorem State.advance_sh (x : Nat) : (s.advance x).sh = s.sh := by unfold State.advance; split <;> rfl
@[simp] theorem State.advance_cat (x : Nat) : (s.advance x).cat = s.cat := by unfold State.advance; split <;> rfl
@[simp] theorem State.advance_sv (x : Nat) : (s.advance x).sv = s.sv := by unfold State.advance; split <;> rfl
@[simp] theorem State.advance_fb (x : Nat) : (s.advance x).fb = s.fb := by unfold State.advance; split <;> rfl
@[simp] theorem State.advance_ig (x : Nat) : (s.advance x).ig = s.ig := by unfold State.advance; split <;> rfl
@[simp] theorem State.advance_ca (x : Nat) : (s.advance x).ca = s.ca := by unfold State.advance; split <;> rfl
@[simp] theorem State.advance_pw (x : Nat) : (s.advance x).pw = s.pw := by unfold State.advance; split <;> rfl
@[simp] theorem State.advance_cu (x : Nat) : (s.advance x).cu = s.cu := by unfold State.advance; split <;> rfl
@[simp] theorem State.advance_pending (x : Nat) : (s.advance x).pending = s.pending := by unfold State.advance; split <;> rfl

end Sys2Proof.Machine
end

