-- ==== Sys2Proof/Laws/Reads.lean ====
section
/-! SUPPORT. What a read of the state gives after a write: registers and their fields, memory, the cores' registers, the tables of
units; and that the memory operations keep memory canonical. -/
namespace Sys2Proof.Machine
open Sys2Proof

/-! Fields of a word. -/

theorem testBit_bitsOf (v lo w i : Nat) : (bitsOf v lo w).testBit i = (decide (i < w) && v.testBit (lo + i)) := by
  simp [bitsOf, Nat.testBit_mod_two_pow, Nat.testBit_shiftRight]

theorem testBit_putBits (r : W64) (lo w v i : Nat) (h : i < 64) :
    (putBits r lo w v).toNat.testBit i =
      if lo ≤ i ∧ i < lo + w then v.testBit (i - lo) else r.toNat.testBit i := by
  simp only [BitVec.testBit_toNat, putBits, BitVec.getLsbD_or, BitVec.getLsbD_and, BitVec.getLsbD_not, BitVec.getLsbD_ofNat,
    Nat.testBit_shiftLeft, Nat.testBit_two_pow_sub_one, Nat.testBit_mod_two_pow, h, decide_true, Bool.true_and]
  by_cases h1 : lo ≤ i
  · by_cases h2 : i < lo + w
    · have h3 : i - lo < w := by omega
      simp [h1, h2, h3]
    · have h3 : ¬ i - lo < w := by omega
      simp [h1, h2, h3]
  · simp [h1]

/-- A field just written reads the low bits of the value. -/
theorem bitsOf_putBits_same (r : W64) (lo w v : Nat) (h : lo + w ≤ 64) : bitsOf (putBits r lo w v).toNat lo w = v % 2 ^ w := by
  apply Nat.eq_of_testBit_eq
  intro i
  rw [testBit_bitsOf, Nat.testBit_mod_two_pow]
  by_cases hi : i < w
  · rw [testBit_putBits _ _ _ _ _ (by omega), if_pos (by omega)]
    simp [hi]
  · simp [hi]

/-- A field that lies apart from the one written keeps its value. -/
theorem bitsOf_putBits_apart (r : W64) (lo w v lo' w' : Nat) (h : lo' + w' ≤ 64) (ha : lo' + w' ≤ lo ∨ lo + w ≤ lo') :
    bitsOf (putBits r lo w v).toNat lo' w' = bitsOf r.toNat lo' w' := by
  apply Nat.eq_of_testBit_eq
  intro i
  rw [testBit_bitsOf, testBit_bitsOf]
  by_cases hi : i < w'
  · rw [testBit_putBits _ _ _ _ _ (by omega), if_neg (by omega)]
  · simp [hi]

theorem bitsOf_lt (v lo w : Nat) : bitsOf v lo w < 2 ^ w := Nat.mod_lt _ (Nat.two_pow_pos w)

/-! Registers of control space. -/

@[simp] theorem State.reg_setReg_same (s : State) (o : Nat) (v : W64) : (s.setReg o v).reg o = v := tabGet_tabSet_same _ _ _ _

theorem State.reg_setReg_ne (s : State) {o o' : Nat} (v : W64) (h : o' ≠ o) : (s.setReg o v).reg o' = s.reg o' :=
  tabGet_tabSet_ne _ _ _ v h

theorem State.reg_setFld_ne (s : State) (f : Fld) (v : Nat) {o : Nat} (h : o ≠ f.off) : (s.setFld f v).reg o = s.reg o :=
  State.reg_setReg_ne s _ h

theorem State.fld_lt (s : State) (f : Fld) : s.fld f < 2 ^ f.w := bitsOf_lt _ _ _

/-- A field reads what was written to it, cut to its width. -/
theorem State.fld_setFld_same (s : State) (f : Fld) (v : Nat) (h : f.lo + f.w ≤ 64) : (s.setFld f v).fld f = v % 2 ^ f.w := by
  simp [State.fld, State.setFld, bitsOf_putBits_same _ _ _ _ h]

/-- A field of another register keeps its value. -/
theorem State.fld_setFld_off (s : State) (f g : Fld) (v : Nat) (h : g.off ≠ f.off) : (s.setFld f v).fld g = s.fld g := by
  simp [State.fld, State.reg_setFld_ne s f v h]

/-- Another field of the same register keeps its value. -/
theorem State.fld_setFld_apart (s : State) (f g : Fld) (v : Nat) (ho : g.off = f.off) (h : g.lo + g.w ≤ 64)
    (ha : g.lo + g.w ≤ f.lo ∨ f.lo + f.w ≤ g.lo) : (s.setFld f v).fld g = s.fld g := by
  simp [State.fld, State.setFld, ho, bitsOf_putBits_apart _ _ _ _ _ _ h ha]

theorem State.fld_setReg_ne (s : State) (o : Nat) (v : W64) (g : Fld) (h : g.off ≠ o) : (s.setReg o v).fld g = s.fld g := by
  simp [State.fld, State.reg_setReg_ne s v h]

theorem State.fld_congr {s t : State} (h : t.regs = s.regs) (f : Fld) : t.fld f = s.fld f := by
  simp [State.fld, State.reg, h]

theorem State.flag_congr {s t : State} (h : t.regs = s.regs) (f : Fld) : t.flag f = s.flag f := by
  simp [State.flag, State.fld_congr h]

theorem State.reg_congr {s t : State} (h : t.regs = s.regs) (o : Nat) : t.reg o = s.reg o := by
  simp [State.reg, h]

/-! The clock. -/

theorem State.advance_t (s : State) (x : Nat) : (s.advance x).t = max s.t x := by
  unfold State.advance
  split
  · simp only []; omega
  · omega

theorem State.advance_now (s : State) (x : Nat) : (s.advance x).now = s.now + (x - s.t) := by
  unfold State.advance
  split
  · rfl
  · omega

/-! Registers of the cores. -/

/-- g0 reads 0, whatever was written to it (R98). -/
@[simp] theorem State.gpr_zero (s : State) (c : Nat) : s.gpr c 0 = 0 := by simp [State.gpr]

/-- A write to g0 is discarded (R98). -/
@[simp] theorem State.setGpr_zero (s : State) (c : Nat) (v : W64) (p : Bool) : s.setGpr c 0 v p = s := by simp [State.setGpr]

theorem State.gpr_setGpr_same (s : State) (c : Nat) (r : GReg) (v : W64) (p : Bool) (h : r ≠ 0) :
    (s.setGpr c r v p).gpr c r = v := by
  rw [State.setGpr, if_neg h, State.gpr, if_neg h]
  exact tabGet_tabSet_same _ _ _ _

theorem State.gprP_setGpr_same (s : State) (c : Nat) (r : GReg) (v : W64) (p : Bool) (h : r ≠ 0) :
    (s.setGpr c r v p).gprP c r = p := by
  rw [State.setGpr, if_neg h, State.gprP, if_neg h]
  exact tabGet_tabSet_same _ _ _ _

theorem gregKey_ne {c c' : Nat} {r r' : BitVec 5} (h : ¬ (c' = c ∧ r' = r)) : 32 * c' + r'.toNat ≠ 32 * c + r.toNat := by
  intro e
  apply h
  have h1 := r.isLt
  have h2 := r'.isLt
  have hr : r'.toNat = r.toNat := by omega
  exact ⟨by omega, BitVec.eq_of_toNat_eq hr⟩

theorem State.gpr_setGpr_ne (s : State) (c : Nat) (r : GReg) (v : W64) (p : Bool) (c' : Nat) (r' : GReg)
    (h : ¬ (c' = c ∧ r' = r)) : (s.setGpr c r v p).gpr c' r' = s.gpr c' r' := by
  by_cases h0 : r = 0
  · simp [State.setGpr, h0]
  · by_cases h1 : r' = 0
    · simp [State.gpr, h1]
    · rw [State.setGpr, if_neg h0, State.gpr, State.gpr, if_neg h1, if_neg h1]
      exact tabGet_tabSet_ne _ _ _ v (gregKey_ne h)

theorem State.vr_setVr_same (s : State) (c : Nat) (r : VReg) (v : Vec256) (p : Bool) : (s.setVr c r v p).vr c r = v := by
  simp [State.vr, State.setVr]

theorem State.vr_setVr_ne (s : State) (c : Nat) (r : VReg) (v : Vec256) (p : Bool) (c' : Nat) (r' : VReg)
    (h : ¬ (c' = c ∧ r' = r)) : (s.setVr c r v p).vr c' r' = s.vr c' r' := by
  simp [State.vr, State.setVr, tabGet_tabSet_ne _ _ _ v (gregKey_ne h)]

@[simp] theorem State.cs_modCore_same (s : State) (c : Nat) (f : CoreSt → CoreSt) : (s.modCore c f).cs c = f (s.cs c) := by
  simp [State.cs, State.modCore]

theorem State.cs_modCore_ne (s : State) {c c' : Nat} (f : CoreSt → CoreSt) (h : c' ≠ c) : (s.modCore c f).cs c' = s.cs c' := by
  simp [State.cs, State.modCore, tabGet_tabSet_ne _ _ _ _ h]

@[simp] theorem State.modCore_gpr (s : State) (c : Nat) (f : CoreSt → CoreSt) (c' : Nat) (r : GReg) :
    (s.modCore c f).gpr c' r = s.gpr c' r := rfl

@[simp] theorem State.modCore_vr (s : State) (c : Nat) (f : CoreSt → CoreSt) (c' : Nat) (r : VReg) :
    (s.modCore c f).vr c' r = s.vr c' r := rfl

@[simp] theorem State.setGpr_cs (s : State) (c : Nat) (r : GReg) (v : W64) (p : Bool) (c' : Nat) :
    (s.setGpr c r v p).cs c' = s.cs c' := by
  unfold State.setGpr
  split <;> rfl

@[simp] theorem State.setVr_cs (s : State) (c : Nat) (r : VReg) (v : Vec256) (p : Bool) (c' : Nat) :
    (s.setVr c r v p).cs c' = s.cs c' := rfl

/-! Tables of units. -/

@[simp] theorem State.xrun_modXrun_same (s : State) (x : Nat) (f : XbRun → XbRun) : (s.modXrun x f).xrun x = f (s.xrun x) := by
  simp [State.xrun, State.modXrun]

theorem State.xrun_modXrun_ne (s : State) {x y : Nat} (f : XbRun → XbRun) (h : y ≠ x) : (s.modXrun x f).xrun y = s.xrun y := by
  simp [State.xrun, State.modXrun, tabGet_tabSet_ne _ _ _ _ h]

@[simp] theorem State.phys_modPhys_same (s : State) (n : Nat) (f : PhysXb → PhysXb) : (s.modPhys n f).phys n = f (s.phys n) := by
  simp [State.phys, State.modPhys]

theorem State.phys_modPhys_ne (s : State) {n m : Nat} (f : PhysXb → PhysXb) (h : m ≠ n) : (s.modPhys n f).phys m = s.phys m := by
  simp [State.phys, State.modPhys, tabGet_tabSet_ne _ _ _ _ h]

@[simp] theorem State.queue_modQueue_same (s : State) (l q : Nat) (f : QueueSt → QueueSt) :
    (s.modQueue l q f).queue l q = f (s.queue l q) := by
  simp [State.queue, State.modQueue]

@[simp] theorem State.pool_modPool_same (s : State) (l : Nat) (f : PoolSt → PoolSt) : (s.modPool l f).pool l = f (s.pool l) := by
  simp [State.pool, State.modPool]

@[simp] theorem State.xe_modXe_same (s : State) (l : Nat) (f : XeSt → XeSt) : (s.modXe l f).xe l = f (s.xe l) := by
  simp [State.xe, State.modXe]

@[simp] theorem State.vol_modVol_same (s : State) (h : Nat) (f : Volume → Volume) : (s.modVol h f).vol h = f (s.vol h) := by
  simp [State.vol, State.modVol]

theorem State.vol_modVol_ne (s : State) {h i : Nat} (f : Volume → Volume) (hi : i ≠ h) : (s.modVol h f).vol i = s.vol i := by
  simp [State.vol, State.modVol, tabGet_tabSet_ne _ _ _ _ hi]

@[simp] theorem State.ring_modRing_same (s : State) (p k : Nat) (f : RingSt → RingSt) : (s.modRing p k f).ring p k = f (s.ring p k) := by
  simp [State.ring, State.modRing]

@[simp] theorem State.hport_modHport_same (s : State) (p : Nat) (f : PortSt → PortSt) : (s.modHport p f).hport p = f (s.hport p) := by
  simp [State.hport, State.modHport]

@[simp] theorem State.fport_modFport_same (s : State) (p : Nat) (f : FabPort → FabPort) :
    (s.modFport p f).fport p = f (s.fport p) := by
  simp [State.fport, State.modFport]

theorem State.fport_modFport_ne (s : State) {p q : Nat} (f : FabPort → FabPort) (h : q ≠ p) :
    (s.modFport p f).fport q = s.fport q := by
  simp [State.fport, State.modFport, tabGet_tabSet_ne _ _ _ _ h]

/-! Memory. -/

/-- A byte outside the bytes written keeps its value. -/
theorem tabGet_putBytes_out (l : List Host.Cell) (a : Nat) (d : List Byte) (i : Nat) (h : i < a ∨ a + d.length ≤ i) :
    tabGet 0 (putBytes l a d) i = tabGet 0 l i := by
  induction d generalizing l a with
  | nil => rfl
  | cons b r ih =>
    simp only [List.length_cons] at h
    rw [putBytes, ih _ _ (by omega), tabGet_tabSet_ne _ _ _ b (by omega)]

/-- A byte among the bytes written reads the one written there. -/
theorem tabGet_putBytes_in (l : List Host.Cell) (a : Nat) (d : List Byte) (i : Nat) (h : i < d.length) :
    tabGet 0 (putBytes l a d) (a + i) = d[i] := by
  induction d generalizing l a i with
  | nil => simp at h
  | cons b r ih =>
    cases i with
    | zero => rw [putBytes, tabGet_putBytes_out _ _ _ _ (by omega)]; simp
    | succ k =>
      have hk : k < r.length := by simpa using h
      have e : a + (k + 1) = (a + 1) + k := by omega
      rw [putBytes, e, ih _ _ _ hk]
      simp

theorem tabWf_putBytes (l : List Host.Cell) (a : Nat) (d : List Byte) (h : tabWf 0 l = true) : tabWf 0 (putBytes l a d) = true := by
  induction d generalizing l a with
  | nil => exact h
  | cons b r ih => exact ih _ _ (tabWf_tabSet 0 l a b h)

/-- A store leaves every byte outside the bytes stored as it was. -/
theorem State.byte_storeMem_out (s : State) (a : Nat) (d : List Byte) (bp : List Bool) (i : Nat) (h : i < a ∨ a + d.length ≤ i) :
    (s.storeMem a d bp).byte i = s.byte i :=
  tabGet_putBytes_out s.mem.bytes a d i h

/-- A stored byte reads back. -/
theorem State.byte_storeMem_in (s : State) (a : Nat) (d : List Byte) (bp : List Bool) (i : Nat) (h : i < d.length) :
    (s.storeMem a d bp).byte (a + i) = d[i] :=
  tabGet_putBytes_in s.mem.bytes a d i h

end Sys2Proof.Machine
end

