-- ==== Sys2Proof/Laws/Shared.lean ====
section
/-! SUPPORT. What the shared operations do, said once each: the residue check of exact accumulators, the codewords of a link, a core that turns to
its next instruction, the place of an OPEN, the round of the ring pairs, what a spill slot takes. -/
namespace Sys2Proof.Machine
open Sys2Proof

/-! The residue check (R185, R188). -/

theorem foldl_add_congr_mod (l : List (Int × Int)) (f g : Int × Int → Int) (h : ∀ e ∈ l, f e % 255 = g e % 255) (a b : Int)
    (hab : a % 255 = b % 255) : (l.map f).foldl (· + ·) a % 255 = (l.map g).foldl (· + ·) b % 255 := by
  induction l generalizing a b with
  | nil => exact hab
  | cons e l ih =>
    simp only [List.map_cons, List.foldl_cons]
    refine ih (fun x hx => h x (List.mem_cons_of_mem _ hx)) _ _ ?_
    rw [Int.add_emod, hab, h e (List.mem_cons_self ..), ← Int.add_emod]

/-- An exact accumulator agrees with its residue datapath, whatever the operands: the check of R185 answers to faults of the arrays alone. -/
theorem dotInt_residueAgrees (xs : List (Int × Int)) : residueAgrees (dotInt xs) xs = true := by
  simp only [residueAgrees, residue, residueSum, dotInt, sumInt]
  exact decide_eq_true (foldl_add_congr_mod xs _ _ (fun _ _ => Int.mul_emod ..) 0 0 rfl)

/-! Codewords (R365). -/

/-- Every codeword that a port sends is framed. -/
@[simp] theorem framed_codewordHeader (n : Nat) : framed (codewordHeader n) = true := by
  simp only [framed, codewordHeader]
  refine decide_eq_true (BitVec.eq_of_getLsbD_eq ?_)
  intro i hi
  simp only [BitVec.getLsbD_extractLsb', BitVec.getLsbD_append, hi, decide_true, Bool.true_and]
  rw [if_neg (by omega), show 16 + i - 16 = i by omega]

/-- CW_COUNT is the codeword's place, wrapping at 65,536. -/
@[simp] theorem cwCount_codewordHeader (n : Nat) : cwCount (codewordHeader n) = n % 65536 := by
  simp only [cwCount, codewordHeader, BitVec.toNat_setWidth, BitVec.toNat_append, BitVec.toNat_ofNat]
  rw [Nat.or_mod_two_pow]
  simp [Nat.shiftLeft_eq]

/-- What four lanes carry of a codeword is the codeword: aligned lanes lose nothing. -/
theorem alignLanes_lanesOf (w : List (BitVec 10)) (h : w.length = 544) : alignLanes (lanesOf w) = w := by
  apply List.ext_getElem (by simp [alignLanes, h])
  intro i hi hw
  have h4 : i % 4 < 4 := Nat.mod_lt _ (by omega)
  have h1 : i / 4 < 136 := by omega
  simp only [alignLanes, lanesOf, laneSymbols, List.getElem_map, List.getElem_range, List.getD_eq_getElem?_getD, List.getElem?_map,
    List.getElem?_range h4, List.getElem?_range h1, Option.map_some, Option.getD_some, Nat.div_add_mod, List.getElem?_eq_getElem hw]

/-! A core that turns to its next instruction (R111, R573). -/

/-- `onward` changes nothing but that a core at its image's end issues nothing further and has its latch set. -/
theorem CoreSt.onward_cases (k : CoreSt) :
    (¬ (k.run = .executing ∧ k.imgLen / 4 ≤ k.ia) ∧ k.onward = k)
      ∨ (k.run = .executing ∧ k.imgLen / 4 ≤ k.ia ∧ k.onward = { k with run := .imageEnd, latch := true }) := by
  unfold CoreSt.onward
  split
  · rename_i h; exact .inr ⟨h.1, h.2, rfl⟩
  · rename_i h; exact .inl ⟨h, rfl⟩

@[simp] theorem CoreSt.onward_ia (k : CoreSt) : k.onward.ia = k.ia := by unfold CoreSt.onward; split <;> rfl
@[simp] theorem CoreSt.onward_job (k : CoreSt) : k.onward.job = k.job := by unfold CoreSt.onward; split <;> rfl
@[simp] theorem CoreSt.onward_posted (k : CoreSt) : k.onward.posted = k.posted := by unfold CoreSt.onward; split <;> rfl
@[simp] theorem CoreSt.onward_slack (k : CoreSt) : k.onward.slack = k.slack := by unfold CoreSt.onward; split <;> rfl

/-- A core that does not execute stays as it is. -/
theorem CoreSt.onward_of_not_executing (k : CoreSt) (h : k.run ≠ .executing) : k.onward = k := by
  unfold CoreSt.onward
  rw [if_neg (fun e => h e.1)]

/-- Turning to the next instruction twice is turning to it once. -/
@[simp] theorem CoreSt.onward_onward (k : CoreSt) : k.onward.onward = k.onward := by
  rcases k.onward_cases with ⟨-, e⟩ | ⟨-, -, e⟩
  · rw [e, e]
  · rw [e]; exact CoreSt.onward_of_not_executing _ (by simp)

/-! Requests (R330). -/

/-- An OPEN reserves a place; every other descriptor is as it was read. -/
theorem State.withPlaces_other (s : State) (p : Nat) (x : Desc) (h : x.kind ≠ 1) : s.withPlaces p x = x := by
  simp [State.withPlaces, h]

/-- The ring pair that follows the one served last comes first in the round, the one served last comes last. -/
theorem ringAhead_next (k : Nat) : ringAhead k ((k + 1) % 256) = 0 ∧ ringAhead k k = 255 := by
  unfold ringAhead
  omega

/-! What a spill slot takes (R163, R299). -/

/-- The packets that go are the first of those waiting. -/
theorem fitSpill_prefix (room : Nat) (l : List QSpill) : fitSpill room l = l.take (fitSpill room l).length := by
  induction l generalizing room with
  | nil => simp [fitSpill]
  | cons p l ih =>
    unfold fitSpill
    split
    · simp only [List.length_cons, List.take_succ_cons]
      rw [← ih]
    · simp

/-- The cells that go fit the slot's bytes. -/
theorem fitSpill_fits (room : Nat) (l : List QSpill) : ((fitSpill room l).map fun p => 64 * cellsOf p.len).sum ≤ room := by
  induction l generalizing room with
  | nil => simp [fitSpill]
  | cons p l ih =>
    unfold fitSpill
    split
    · rename_i h
      have := ih (room - 64 * cellsOf p.len)
      simp only [List.map_cons, List.sum_cons]
      omega
    · simp

end Sys2Proof.Machine
end

