-- ==== Sys2Proof/Tests/Slice0.lean ====
section
/-! SUPPORT. Tests of the model: worked values of the spec, what the well-formedness check refuses, and for every statement a state and operands
that meet its hypotheses. -/
namespace Sys2Proof.Tests
open Sys2Proof Sys2Proof.Machine
set_option Elab.async false

/-! States the tests start from. -/

/-- The die has power. -/
def up : State := { State.reset with pw := { State.reset.pw with rails := true, pwrOk := true } }

/-- Core 0 executes for job 5. -/
def exe : State := up.modCore 0 fun k => { k with run := .executing, job := 5, imgLen := 4096, ia := 3 }

/-- A state under a catalogue. -/
def under (c : Cat) (s : State) : State := { s with cat := { s.cat with cur := some c } }

/-- Partition 0 of host port 0 owns clusters 0 to 3. -/
def owned (s : State) : State :=
  (((s.setFlag (btPartValid 0) true).setFld (btPartFirst 0) 0).setFld (btPartCount 0) 4).setFld (btPartHost 0) 0

/-! Statements of step, reset and invariant. -/

theorem witness_StepRunsFrontCommand_command : { up with pending := [.tickBoundary, .guardBand] }.pending = [.tickBoundary, .guardBand] := rfl
theorem witness_StepRunsFrontCommand_idle : up.pending = [] ∧ { up with t := 63999 }.t < { up with t := 63999 }.tickNs := by decide +kernel
theorem witness_StepRunsFrontCommand_end : { up with t := 64000 }.pending = [] ∧ { up with t := 64000 }.tickNs ≤ { up with t := 64000 }.t := by
  decide +kernel
theorem witness_EveryStepKeepsMemoryCanonical : State.reset.Inv ∧ ∃ t, step State.reset = .next t :=
  ⟨by unfold State.Inv; decide +kernel, _, rfl⟩
theorem witness_CommandsLeaveTheQueue : ∃ t, exec .fastClear up = .next t := ⟨_, rfl⟩

/-! Statements of the core. -/

theorem witness_ready : exe.ready 0 := by unfold State.ready; decide +kernel
theorem witness_ScalarResult_shift : (63 : W64).toNat < 64 := by decide
theorem witness_BranchMovesTheCore_clean : exe.gprP 0 1 = false := by decide +kernel
theorem witness_BranchMovesTheCore_poisoned : (exe.setGpr 0 1 7 true).gprP 0 1 = true ∧ (exe.setGpr 0 1 7 true).ready 0 := by
  unfold State.ready; decide +kernel
theorem witness_IntegerLanes : laneIsFp .i32 = false ∧ 7 < laneCount .i32 := by decide
theorem witness_LoadsReadTheirMemory_scratch :
    effAddr (exe.gpr 0 0) 65528 = 65528 ∧ 65528 + regSize (.g 1) ≤ 65536 ∧ exe.scratchClean 0 65528 (regSize (.g 1)) := by
  unfold State.scratchClean; decide +kernel
theorem witness_LoadsReadTheirMemory_cluster :
    effAddr (exe.gpr 0 0) 0x7FFFE0 = 0x7FFFE0 ∧ 0x7FFFE0 + regSize (.v 1) ≤ 0x800000 ∧ exe.memClean (clMem 0 + 0x7FFFE0) (regSize (.v 1)) := by
  unfold State.memClean; decide +kernel

/-- The pool of cluster 0 is its first bank. -/
def pool0 : State := (exe.setFld (qmPoolCfgBase 0) 0).setFld (qmPoolCfgBanks 0) 1

theorem witness_StoresWriteTheirMemory_latched : (exe.setLatch 0).ready 0 ∧ ((exe.setLatch 0).cs 0).latch = true := by
  unfold State.ready; decide +kernel
theorem witness_StoresWriteTheirMemory_cluster : exe.aimsPool 0 0x7FFFF8 (regSize (.g 1)) = false := by decide +kernel
theorem witness_StoresWriteTheirMemory_pool : pool0.ready 0 ∧ pool0.aimsPool 0 8 (regSize (.g 1)) = true := by
  unfold State.ready; decide +kernel
theorem witness_BlockMoveCopiesBytes :
    exe.memClean (clMem 0) 65536 ∧ exe.scratchClean 0 0 65536 ∧ exe.aimsPool 0 0 65536 = false := by
  unfold State.memClean State.scratchClean; decide +kernel
theorem witness_BlockMove_refused : 0x800000 < (exe.gpr 0 0).toNat + 0x800001 ∧ 65536 < (exe.gpr 0 0).toNat + 65537
    ∧ pool0.aimsPool 0 (pool0.gpr 0 0).toNat 1 = true ∧ (exe.setGpr 0 1 7 true).gprP 0 1 = true := by decide +kernel
theorem witness_ControlAccess : effAddr (exe.gpr 0 0) 0xFFF8 = 0xFFF8 ∧ 0xFFF8 + 8 ≤ 0x10000 ∧ 0xFFF8 % 8 = 0 := by decide +kernel
theorem witness_ControlAccess_write :
    clBase 0 + 0x8000 ≠ clPstateReg 0 ∧ ((regAt (clBase 0 + 0x8000)).map fun d =>
      decide (d.rwl = 0) && decide (d.rw &&& d.w1c = 0) && decide (d.rw &&& d.rwt = 0) && decide (d.w1c &&& d.rwt = 0)) = some true := by
  decide +kernel
theorem witness_SealInstructions_equal : exe.gpr 0 1 = exe.gpr 0 2 := by decide +kernel
theorem witness_SealInstructions_unequal : (exe.setGpr 0 1 7 false).gpr 0 1 ≠ (exe.setGpr 0 1 7 false).gpr 0 2
    ∧ (exe.setGpr 0 1 7 false).gprP 0 1 = false ∧ (exe.setGpr 0 1 7 false).ready 0 := by unfold State.ready; decide +kernel
theorem witness_SealsOfShardsAddUp : ∀ j, j < 8 → signed 32 (laneAt .i32 (0xFFFFFFFF : Vec256) j)
    = signed 32 (laneAt .i32 (1 : Vec256) j) + signed 32 (laneAt .i32 (0xFFFFFFFE : Vec256) j) := by decide +kernel

/-- Core 0 executes without a job. -/
def noJob : State := exe.modCore 0 fun k => { k with job := 0 }
theorem witness_NoJobNoOperation : noJob.ready 0 ∧ (noJob.cs 0).job = 0 := by unfold State.ready; decide +kernel

/-- A product of core 0 on crossbar 0. -/
def prod0 : Product :=
  { core := 0, job := 5, fmt := .int8, vecAddr := 0, vec := [], vecPoison := false, res := 4096, acc := false, d := 1, t0 := 0, need := 0, reserved := 1,
    kind := .normal, prec := 1, base := 0, redo := [], settled := [], suspect := false, hold := false, earliest := 0, verdict := none,
    allPoison := false }
/-- It is in conversion. -/
def busy : State := exe.modXrun 0 fun r => { r with conv := some prod0 }
/-- Another is queued. -/
def full : State := busy.modXrun 0 fun r => { r with queued := some prod0 }

theorem witness_ArrayIssue : exe.ready 0 ∧ (exe.cs 0).job ≠ 0 ∧ (exe.gpr 0 0).toNat + vecBytes .int8 ≤ 65536
    ∧ (exe.gpr 0 0).toNat + 4 * weightCols (exe.slotPrec (coreXb 0 0)) ≤ 65536
    ∧ exe.scratchClean 0 (exe.gpr 0 0).toNat (vecBytes .int8) ∧ (exe.xrun (coreXb 0 0)).conv = none := by
  unfold State.ready State.scratchClean; decide +kernel
theorem witness_ArrayIssue_queued : (busy.xrun (coreXb 0 0)).conv ≠ none ∧ (busy.xrun (coreXb 0 0)).queued = none ∧ busy.ready 0 := by
  unfold State.ready; decide +kernel
theorem witness_ArrayIssue_stalled : (full.xrun (coreXb 0 0)).conv ≠ none ∧ (full.xrun (coreXb 0 0)).queued ≠ none ∧ full.ready 0 := by
  unfold State.ready; decide +kernel

/-- Queue 7 of cluster 0 holds one notice. -/
def noticed : State := exe.modQueue 0 7 fun k => { k with notices := [5] }
theorem witness_PopReturns_empty : (exe.queue 0 7).notices = [] := by decide +kernel
theorem witness_PopReturns_one : (noticed.queue 0 7).notices = 5 :: [] ∧ noticed.ready 0 := by unfold State.ready; decide +kernel

/-- Queue 7 of cluster 0 is in use, with three free cells. -/
def queued : State :=
  ((exe.setFlag (qmQcfgEn 0 7) true).setFld (qmQcfgMaxCells 0 7) 100).modPool 0 fun p => { p with free := [4, 9, 2] }
theorem witness_PushIsAccepted_length : (4097 = 0 ∨ 4096 < 4097) := by decide
theorem witness_PushIsAccepted_refused : exe.flag (qmQcfgEn 0 7) = false ∨ exe.noRoom 0 7 (cellsOf 4096) false = true := by decide +kernel
theorem witness_PushIsAccepted : queued.flag (qmQcfgEn 0 7) = true ∧ queued.noRoom 0 7 (cellsOf 112) false = false ∧ queued.ready 0
    ∧ queued.scratchClean 0 0 112 := by unfold State.ready State.scratchClean; decide +kernel

/-- A packet of two cells arrives from QPUSH. -/
def arriving0 : QArrival :=
  { pkt := { seq := 3, tag := 1, len := 60, cells := [4, 9], cut := false, popped := false }, data := List.replicate 60 7,
    poison := List.replicate 60 false, check := 0, push := true, core := 0, job := 5, start := 0, written := 0, thresh := 0, pool := none }
theorem witness_PushCopyPosts : ((exe.modQueue 0 7 fun k => { k with arriving := some arriving0 }).queue 0 7).arriving = some arriving0
    ∧ arriving0.push = true ∧ arriving0.pkt.len ≤ arriving0.data.length := by decide +kernel
theorem witness_TokenWait : 0 ≤ exe.fld (clTokenCount 0 255) ∧ exe.fld (clTokenCount 0 255) < 1 ∧ exe.t ≤ 0 := by decide +kernel
/-- Core 0 waits for counter 3 until 63,000 ns. -/
def waiting : State := exe.modCore 0 fun k => { k with run := .waiting (.twait 3 9 63000) }
theorem witness_TokenWait_expires : (waiting.cs 0).run = .waiting (.twait 3 9 63000) ∧ 63000 + 1000 ≤ waiting.tickNs := by decide +kernel

/-! Statements of transfers and the exact engine. -/

/-- A MESH entry from cluster 0 to cluster 1 for job 5. -/
def mesh0 : SlotRec :=
  { entry := 9, kind := 1, part := 0, job := 5, src := 0, dst := 1, start := 100, length := 100, bytes := 128, srcAddr := 64, dstAddr := 256, token := 255,
    tag := 0, dstQueue := false, east := false, hops := 1, path := 0, far := 0, tree := 0 }
/-- The entry is in the catalogue in force, its partition owns both clusters. -/
def meshed : State := owned (under { slots := [mesh0] } exe)
theorem witness_TransferInstructions_mesh : meshed.ready 0 ∧ meshed.slotRec 9 = some mesh0 ∧ slotPoster mesh0 = some 0
    ∧ mesh0.job = (meshed.cs 0).job.toNat ∧ meshed.owns mesh0.part 0 = true ∧ 9 ∉ meshed.cl.opened ∧ meshed.t ≤ mesh0.start := by
  unfold State.ready; decide +kernel
theorem witness_TransferInstructions_gate : slotPoster { mesh0 with kind := 2 } = some 0 ∧ slotPoster { mesh0 with kind := 3, dst := 0 } = some 0 := by
  decide
/-- Tree 2, led by cluster 0. -/
def tree2 : McastRec := { tree := 2, part := 0, lead := 0, token := 1, dstAddr := 0, members := [0, 1], parent := [] }
theorem witness_TransferInstructions_mcast : slotPoster { mesh0 with kind := 4 } = some 0
    ∧ (under { mcasts := [tree2] } exe).ctg.mcasts.find? (fun m => decide (m.tree = 2)) = some tree2 ∧ tree2.lead = 0 := by decide +kernel
theorem witness_MulticastOffTheLead :
    ∀ m, (under { mcasts := [{ tree2 with lead := 1 }] } exe).ctg.mcasts.find? (fun m => decide (m.tree = 2)) = some m → m.lead ≠ 0 := by
  intro m h
  have e : (under { mcasts := [{ tree2 with lead := 1 }] } exe).ctg.mcasts.find? (fun m => decide (m.tree = 2)) = some { tree2 with lead := 1 } := by
    decide +kernel
  rw [e] at h
  cases h
  decide

/-- A valid exact-engine descriptor: an INT8 GEMM of one row and one column with K = 32. -/
def gemm0 : List W64 := [0xC000, 0x1F00000000, 0x2000000000, 0x100000040, 0x400000080, 0, 0, 0]
/-- Crossbar mode of the engine: idle. -/
def engineOn (s : State) : State := s.setFld (xeModeState 0) 0
theorem witness_EngineTakesJobs_start : let s := (engineOn exe).modXe 0 fun e => { e with queue := [{ words := gemm0, core := 0, job := 5, poisonAll := false }] }
    (s.xe 0).running = none ∧ (s.xe 0).queue ≠ [] ∧ (s.xe 0).failed = false := by decide +kernel
theorem witness_EngineTakesJobs_complete : let s := exe.modXe 0 fun e => { e with running := some { words := gemm0, core := 0, job := 5, poisonAll := false } }
    (s.xe 0).running ≠ none ∧ (s.xe 0).persist.length < 3 := by decide +kernel
theorem witness_HardPoints : exe.t + 1000 ≤ exe.tickNs ∧ exe.t ≤ 0 := by decide +kernel
/-- Eight descriptor words as bytes. -/
def wordBytes (ws : List W64) : List Byte := ws.flatMap fun w => leBytes 8 w.toNat
/-- Core 0 holds a valid descriptor at data scratch 0; its engine is idle. -/
def posting : State := engineOn (exe.storeScratch 0 0 (wordBytes gemm0) (List.replicate 64 false))
theorem witness_EngineTakesJobs_post : posting.ready 0 ∧ posting.scratchClean 0 0 64 ∧ posting.scratchP 0 0 64 = false := by
  unfold State.ready State.scratchClean; decide +kernel
theorem witness_EngineTakesJobs_valid : descValid gemm0 = true ∧ (posting.xe 0).failed = false ∧ posting.fld (xeModeState 0) ≠ 3
    ∧ posting.segmentsOk 0 (descOf gemm0) = true ∧ posting.destBad 0 (posting.jobRows 0 (descOf gemm0)) = false ∧ (posting.xe 0).queue.length < 16
    ∧ ((List.range 8).map fun i => BitVec.ofNat 64 (numAt (posting.scratch 0 0 64) (8 * i) 8)) = gemm0 := by decide +kernel

/-! Statements of the crossbars. -/

theorem witness_PhasesStay : { slice := 0, num := 0, rows := [511], act := 1 } ∈ vecPhases .uint8 (List.replicate 511 0 ++ [1]) := by decide +kernel
theorem witness_ZeroVector : prod0.kind = .normal ∧ prod0.verdict = none ∧ ∀ r, r < 512 → element prod0.fmt prod0.vec r = 0 := by decide +kernel
theorem witness_UnderrangeFailsTheGroup : (511 = idxCol 7 ∨ 511 = refCol 7 ∨ (64 * 7 ≤ 511 ∧ 511 < 64 * 7 + 64))
    ∧ (List.replicate 528 (-64 : Int)).getD 511 0 = -64 ∧ bitOf 0x7F 7 = false := by decide +kernel
theorem witness_ReleaseWritesTheResults : (busy.xrun 0).conv = some prod0 ∧ (busy.xrun 0).failing = none
    ∧ prod0.t0 + 6 + 66 * prod0.need + 1000 ≤ busy.tickNs ∧ busy.firstFail 0 prod0 0 (vecPhases prod0.fmt prod0.vec) = none := by decide +kernel

/-- A product whose second conversion is due; every group of crossbar 0 is off. -/
def redoing : State :=
  (exe.setFld (xbStatIdxOff 0 0) 255).modXrun 0 fun r => { r with conv := some { prod0 with vec := [1], need := 1 }, failing := some 0 }
/-- Its phase. -/
def ph0 : Phase := { slice := 0, num := 0, rows := [0], act := 1 }
theorem witness_ReEvaluation : (redoing.xrun 0).conv = some { prod0 with vec := [1], need := 1 } ∧ (redoing.xrun 0).failing = some 0
    ∧ (vecPhases .int8 [1])[0]? = some ph0 := by decide +kernel
theorem witness_ReEvaluation_passes (codes vals : List Int) : redoing.failGroups 0 ph0 codes vals = [] := by
  have e : redoing.fld (xbStatIdxOff (xbCluster 0) (xbSlot 0)) = 255 := by decide +kernel
  simp only [State.failGroups, e, List.filter_eq_nil_iff, List.mem_range]
  intro g hg
  have : bitOf 255 g = true := by revert g; decide
  simp [groupFails, this]
/-- The same with every group on. -/
def redoing2 : State := redoing.setFld (xbStatIdxOff 0 0) 0
theorem witness_ReEvaluation_fails (h : ∀ n, Config.convError n = -200) (p : Product) :
    0 ∈ redoing2.failGroups 0 ph0 (redoing2.prodCodes 0 p ph0 redoing2.free)
      (redoing2.prodValues 0 (redoing2.prodCodes 0 p ph0 redoing2.free)) := by
  have e : redoing2.fld (xbStatIdxOff (xbCluster 0) (xbSlot 0)) = 0 := by decide +kernel
  have c : redoing2.prodCodes 0 p ph0 redoing2.free = List.replicate 528 (-64) := by
    refine List.eq_replicate_iff.mpr ⟨by simp only [State.prodCodes, periodCodes, List.length_map, List.length_range], fun b hb => ?_⟩
    obtain ⟨c, -, rfl⟩ := List.mem_map.mp hb
    simp only [actualCode, h, idealCode, clamp]
    omega
  rw [c]
  simp only [State.failGroups, e, List.mem_filter, List.mem_range]
  refine ⟨by omega, ?_⟩
  have u : 0 < underrange (List.replicate 528 (-64)) 0 := by decide +kernel
  simp only [groupFails, decide_eq_true u, Bool.or_true, Bool.and_true]
  decide
theorem witness_ReEvaluation_room : (redoing2.xrun 0).dispute = none ∧ (redoing2.xe (xbCluster 0)).arb.length < 8 := by decide +kernel
/-- The disagreement stands at the head of the engine's queue, its data is in ARB_BUF. -/
def disputed : State :=
  { (redoing2.modXrun 0 fun r => { r with dispute := some { prod := { prod0 with vec := [1] }, period := 0, base := 0, group := 0, policy := 2 } }).modXe 0
      (fun e => { e with arb := [0] }) with cl.arbData := [(0, true)] }
theorem witness_Arbitration : (disputed.xe 0).arb = 0 :: [] ∧ disputed.guarded = false ∧ (disputed.xe 0).failed = false
    ∧ tabGet false disputed.cl.arbData 0 = true ∧ (disputed.xe 0).persist.length < 2
    ∧ disputed.memClean (clMem 0 + disputed.fld (xeArbCfgArbBuf 0)) blockBytes
    ∧ ∃ d, (disputed.xrun 0).dispute = some d ∧ d.period < (vecPhases d.prod.fmt d.prod.vec).length := by
  refine ⟨by decide +kernel, by decide +kernel, by decide +kernel, by decide +kernel, by decide +kernel, ?_, _, rfl, by decide +kernel⟩
  unfold State.memClean; decide +kernel
theorem witness_Arbitration_poisoned : let s := { disputed with mem.poison := [(clMem 0 / 64, true)] }
    s.anyPoison (clMem 0 + s.fld (xeArbCfgArbBuf 0)) blockBytes = true := by decide +kernel

/-! Statements of the tick, transfers, queues. -/

theorem witness_TickTurns : exe.dieRuns = true ∧ exe.guarded = false ∧ { exe with guarded := true }.guarded = true := by decide +kernel
theorem witness_TickTurns_off : State.reset.dieRuns = false := by decide +kernel

/-- The MESH entry posted, its source cluster running. -/
def slotReady : State := (meshed.setFld ctCatStateState 2).modCore 0 fun k => { k with posted := [(9, false)] }
theorem witness_SlotsMoveTheirBytes_opens : slotReady.slotRec 9 = some mesh0 ∧ mesh0.dstQueue = false ∧ slotReady.guarded = false
    ∧ slotReady.idle = false ∧ 9 ∉ slotReady.cl.opened ∧ slotReady.fld ctCatStateState = 2 ∧ slotReady.isPosted 9 = true
    ∧ slotReady.clRuns mesh0.src = true ∧ slotReady.postLatched mesh0 = false ∧ slotReady.memClean (clMem 0 + 64) 128 := by
  unfold State.memClean; decide +kernel
theorem witness_SlotsMoveTheirBytes_once : 9 ∈ { slotReady with cl.opened := [9] }.cl.opened := by decide +kernel
/-- Its last word lands. -/
def xfer0 : Xfer := { entry := 9, data := List.replicate 128 7, poison := List.replicate 128 true, check := 0, standIn := false, lands := true, pkts := [] }
theorem witness_SlotsMoveTheirBytes_lands : let s := { slotReady with cl.xfers := [xfer0] }
    takeFirst (fun x => decide (x.entry = 9)) s.cl.xfers = some (xfer0, []) ∧ s.clRuns mesh0.dst = true ∧ xfer0.poison.any id = true
    ∧ s.clAvailable mesh0.dst = true ∧ s.aimsPool mesh0.dst mesh0.dstAddr xfer0.data.length = false := by decide +kernel

/-- Spill and returns slots of cluster 127. -/
def spillSlot : SlotRec := { mesh0 with entry := 4094, kind := 5, src := 127, dst := 0, bytes := 4736 }
def returnsSlot : SlotRec := { mesh0 with entry := 4095, kind := 6, src := 0, dst := 127, bytes := 4736 }
/-- The catalogue in force has them. -/
def slotted : State := (under { slots := [spillSlot, returnsSlot] } exe).setFld ctCatStateState 2
theorem witness_SpilledPackets_slots : slotted.queueSlot 5 127 = some spillSlot ∧ slotted.queueSlot 6 127 = some returnsSlot
    ∧ slotted.slotOpens spillSlot = true ∧ slotted.slotOpens returnsSlot = true ∧ slotted.clRuns 127 = true ∧ 64 * cellsOf 112 ≤ returnsSlot.bytes
    ∧ spillSlot.entry ∈ { slotted with cl.opened := [4094] }.cl.opened := by decide +kernel
/-- Queue 511 of cluster 127 has one packet in its bin, and room. -/
def spilled : State :=
  (((slotted.setFld (qmQcfgMaxCells 127 511) 2).modPool 127 fun p => { p with free := [4, 9] }).modQueue 127 511) fun k =>
    { k with bin := [{ q := 511, seq := 7, tag := 0, len := 112, data := [], poison := [], check := 0, pool := none }] }
theorem witness_SpilledPackets : (∃ p, (spilled.queue 127 511).bin = [p] ∧ cellsOf p.len ≤ (spilled.pool 127).free.length
      ∧ queueCells (spilled.queue 127 511) + cellsOf p.len ≤ spilled.fld (qmQcfgMaxCells 127 511))
    ∧ (spilled.queue 127 511).arriving = none := by
  refine ⟨⟨_, rfl, by decide +kernel, by decide +kernel⟩, by decide +kernel⟩
theorem witness_SpilledPackets_others : ∀ q : Fin 512, q ≠ 511 → (spilled.queue 127 q).bin = [] := by decide +kernel

/-! Statements of the stream engines and the stacks. -/

/-- A stream plan of one layer for partition 0. -/
def stream0 : StreamRec :=
  { part := 0, valid := true, layers := 1, hkv := 1, hq := 1, dhead := 64, ctxMax := 256, scale := 0, frames := [], slots := [] }
/-- A KV_APPEND of one position for slot 255. -/
def append0 : SeCmd :=
  { kind := 1, job := 5, slot := 255, layer := 0, first := 0, count := 1, length := 256, ret := 0, reservedZero := true, payload := [], marks := [],
    bad := false, cluster := 3, tick := 0, late := false }
/-- An ATTEND of the same slot. -/
def attend0 : SeCmd := { append0 with kind := 2, length := 128, count := 0 }
/-- A GATHER of adapter slot 8191. -/
def gather0 : SeCmd := { append0 with kind := 3, slot := 8191, length := 0, count := 0, first := 65535 }
/-- Stream engine 15 holds a command; its slot 255 is open, with one page. -/
def streaming (c : SeCmd) : State :=
  let s := (owned (under { streams := [stream0] } exe)).setFld (seSlotStatState 15 255) 2
  let s := s.setFld (seSlotStatPart 15 255) 0
  { s with se.cmds := [(15, [c])], se.slot := [(256 * 15 + 255, { pages := [(0, (1, 5))] })], sh.aslot := [(8191, { st := .free, part := 0 })] }
theorem witness_StreamCommands_append : (streaming append0).streamHead 15 append0 [] 0 stream0 ∧ append0.length = 2 * append0.count * keyBytes stream0
    ∧ (streaming append0).written 15 255 0 = 0 ∧ ∀ j, j < 1 → ((streaming append0).keyAddr 15 255 stream0 0 (0 + j)).isSome = true := by
  unfold State.streamHead; decide +kernel
theorem witness_StreamCommands_attend : (streaming attend0).streamHead 15 attend0 [] 0 stream0 ∧ attend0.length = 2 * stream0.hq * stream0.dhead
    ∧ attend0.count ≤ (streaming attend0).written 15 255 0 := by
  unfold State.streamHead; decide +kernel
theorem witness_StreamCommands_gather : (streaming gather0).seCmds 15 = gather0 :: [] ∧ gather0.tick = (streaming gather0).tick
    ∧ tabGet false (streaming gather0).se.failed 15 = false ∧ (streaming gather0).partOf gather0.cluster = some 0
    ∧ ((streaming gather0).aslot 8191).st ≠ .unassigned ∧ ((streaming gather0).aslot 8191).part = 0 ∧ gather0.slot % 16 = (15 : Fin 16) := by
  decide +kernel
/-- A KV_APPEND with the key and the value of its position. -/
def append1 : SeCmd := { append0 with payload := List.replicate 256 7 }
theorem witness_StreamCommands_stores : append1.payload.length = 2 * keyBytes stream0 ∧ 1 ≤ keyBytes stream0 ∧ keyBytes stream0 ≤ 32768
    ∧ append1.count = 1 ∧ ((streaming append1).keyAddr 15 255 stream0 0 0).isSome = true := by decide +kernel
theorem witness_StacksAreScrubbed : (419 : Int) < 420 ∧ tabGet false exe.se.failed 15 = false
    ∧ tabGet false { exe with se.failed := [(15, true)] }.se.failed 15 = true
    ∧ ¬ (0x30000000 ≤ hbmAddr 15 (64 * exe.fld (seScrubPos 15)) ∧ hbmAddr 15 (64 * exe.fld (seScrubPos 15)) < 0x30000000 + 0x3000 * 83232) := by
  decide +kernel

/-! Statements of repair. -/

theorem witness_FailedCores_hard : (exe.cs 4095).run ≠ .failed ∧ (exe.setFld (clStatusSpares 127) 2).spareLeft 4095 = true
    ∧ (exe.setFld (clStatusSpares 127) 0).spareLeft 4095 = false := by decide +kernel
/-- The die is past step 6, and cluster 127 stands at physical place (15, 7). -/
def booted : State := ((((exe.setFld btBootStep 6).setFld (clStatusMap 127) 0).setFld (clStatusPx 127) 15).setFld (clStatusPy 127) 7)
theorem witness_FailedCores_cluster : 6 ≤ booted.fld btBootStep ∧ booted.fld (clStatusMap 127) = 0 ∧ booted.fld (clStatusPx 127) = 15
    ∧ booted.fld (clStatusPy 127) = 7
    ∧ ∀ x' : Fin 16, x' < 15 → booted.fld (clStatusMap (16 * 7 + x'.val)) ≠ 0 ∨ booted.fld (clStatusPx (16 * 7 + x'.val)) ≠ 15 := by decide +kernel
/-- Core 4095 is suspect, its cluster has spares, its 32 cores are the first. -/
def spare127 : State :=
  (List.range 32).foldl (fun s k => s.setFld (clRemapPcore 127 k) k) (((booted.setFld (clStatusSpares 127) 2)).setFld (clRemapState 127 31) 1)
theorem witness_FailedCores_substitution : spare127.fld (clRemapState (4095 / 32) (4095 % 32)) = 1 ∧ 0 < spare127.fld (clStatusSpares (4095 / 32))
    ∧ tabFind spare127.sh.subst 4095 = none ∧ spare127.fld (clStatusMap (4095 / 32)) = 0
    ∧ (List.range 34).find? (spare127.isSpare (4095 / 32) (if spare127.noReserve 4095 then 18 else 16)) = some 32 := by decide +kernel

/-! Statements of the shelver. -/

/-- A volume in placement with tile 0 begun, written to physical crossbar 83231, the last. -/
def placing0 : State :=
  { (exe.modPhys 83231 fun p => { p with st := .writing, writeFor := .placement, handle := 16383, tile := 0 }) with
    sh.vol := [(16383, { st := .placing, begun := [0], sec := some 0 })] }
theorem witness_CrossbarWork_write : (placing0.phys 83231).st = .writing ∧ (placing0.phys 83231).passed = false
    ∧ (placing0.phys 83231).writeFor = .placement ∧ (placing0.vol 16383).st = .placing ∧ 0 ∈ (placing0.vol 16383).begun
    ∧ (placing0.phys 83231).cause = none := by decide +kernel
theorem witness_CrossbarWork_readback : let s := placing0.modPhys 83231 fun p => { p with st := .fenced, reading := true }
    (s.phys 83231).reading = true ∧ (s.phys 83231).st ≠ .held ∧ (s.vol (s.phys 83231).handle).st = .placing := by decide +kernel
theorem witness_CrossbarWork_twin : let s := exe.modPhys 7 fun p => { p with st := .twinPrep, writeFor := .twin, forXb := 3 }
    s.writeOf 3 .twin = some 7 ∧ (s.phys 7).passed = false := by decide +kernel
theorem witness_CrossbarWork_drift : let s := exe.modPhys (exe.mappedXb 65535) fun p => { p with st := .held, reading := true }
    (s.phys (s.mappedXb 65535)).st = .held ∧ (s.phys (s.mappedXb 65535)).reading = true ∧ (s.phys (s.mappedXb 65535)).cause = none := by decide +kernel
/-- Cluster 0 stands at physical place (16, 0), its core 0 at place 33; crossbar 0 serves; its core has a reserve. -/
def servingXb0 : State :=
  (((exe.setFld (clStatusPx 0) 16).setFld (clRemapPcore 0 0) 33).modPhys 10386 fun p => { p with st := .serving }).modPhys 10403
    fun p => { p with st := .reserve }
theorem witness_CrossbarWork_overdue : (servingXb0.phys (servingXb0.servingXb 0)).st = .serving ∧ tabFind servingXb0.xb.twin 0 = none
    ∧ tabFind servingXb0.sh.twinWanted 0 = none := by decide +kernel
theorem witness_CrossbarWork_reserve : servingXb0.noReserve (xbCore 0) = false := by decide +kernel

/-- A pool section of partition 0 for volumes of shape 9. -/
def section0 : SectionRec :=
  { sec := 0, part := 0, resident := false, shape := 9, tiles := 1, blobBytes := 0, masterAddr := 64, wordAddr := 0, volume := 0, version := 0, slots := [] }
/-- Volume 16383 waits for a section. -/
def demanding : State :=
  { (under { sections := [section0] } exe).setFld shPoolShareLimit 0x3FF with
    sh.vol := [(16383, { st := .staged, shape := 9 })], sh.demands := [16383] }
theorem witness_Demands : demanding.sh.demands = 16383 :: [] ∧ demanding.chooseSection 16383 = some section0 := by decide +kernel
/-- Tile 0 of a shelved volume is to be restored from its peer. -/
def healing (d : List Byte) : State :=
  { under { sections := [section0] } exe with
    sh.vol := [(5, { st := .shelved, peers := [7] })], sh.sec := [(0, { vol := some 5 })], sh.restore := [(0, 0)], sh.tileCheck := [(0, crc32c d)] }
theorem witness_MastersHeal (b d : List Byte) (h : d = bytesAt b 0 tileBytes) :
    (0, 0) ∈ (healing d).sh.restore ∧ (healing d).secRec 0 = some section0
    ∧ (healing d).restoreImage section0 0 (some b) = (healing d, some d) ∧ d.length = tileBytes ∧ section0.masterAddr % 64 = 0 := by
  refine ⟨List.mem_singleton.mpr rfl, rfl, ?_, by rw [h, bytesAt_length], by decide⟩
  simp [State.restoreImage, State.readbackImage, State.libraryImage, State.peerImage, imageGood, healing, section0, SectionRec.xbs,
    State.sect, State.vol, tabGet, tabFind, under, h]

/-- An unsigned manifest: volume 3 version 1 of shape 9, one tile of one layer at precision 1, one shard of no bytes. -/
def manifest0 : List Byte :=
  leBytes 4 0x4D564B53 ++ leBytes 2 1 ++ leBytes 2 0 ++ leBytes 8 3 ++ leBytes 2 1 ++ leBytes 2 1 ++ leBytes 4 9 ++ leBytes 4 1 ++ leBytes 2 1
    ++ leBytes 2 10 ++ leBytes 8 64 ++ leBytes 4 208 ++ leBytes 84 0 ++ leBytes 2 0 ++ leBytes 1 0 ++ leBytes 1 1 ++ leBytes 4 0 ++ leBytes 4 0
    ++ leBytes 4 1 ++ leBytes 64 0
/-- Its staging has been asked for. -/
def staging0 : State :=
  { under { regions := [{ base := 2048, size := 1, kind := 1, owner := 255 }], sections := [section0], precs := [{ shape := 9, layer := 0, engine := 0, prec := 1, phases := 0 }],
            quotas := [{ dirLimit := 1, aslotFirst := 0, aslotCount := 0, libraryMib := 1, adapterMib := [] }] } exe with
    sh.vol := [(0, { stager := some { port := 0, ring := 0, req := 0, user := 0, irq := false }, manifestLen := 208 })] }
theorem witness_Staging_manifest : (staging0.vol 0).st = .absent ∧ (staging0.vol 0).stager ≠ none ∧ (staging0.vol 0).place = false
    ∧ staging0.stageReason (staging0.vol 0).part (manifestOf (bytesAt manifest0 0 (staging0.vol 0).manifestLen)) = 0 := by decide +kernel
set_option exponentiation.threshold 400 in
theorem toNat_mod_bytes (d : BitVec 384) : d.toNat % 256 ^ 48 = d.toNat := by
  exact Nat.mod_eq_of_lt (Nat.lt_of_lt_of_eq d.isLt rfl)
/-- A shard of no bytes as the host sends it: its colophon with the digest of no bytes. -/
def shard0 : List Byte := leBytes 4 0 ++ leBytes 2 0 ++ leBytes 2 0 ++ leBytes 8 0 ++ (leBytes 48 (Config.sha384 []).toNat ++ [])
/-- A volume that awaits it. -/
def awaiting : Volume := { st := .staging, shards := [(0, Config.sha384 [])], libFrames := [2048] }
theorem witness_Staging_frames : awaiting.libFrames = 2048 :: [] ∧ awaiting.shardOff 0 + (shard0.length + 63) ≤ 2 ^ 20 ∧ shard0 ≠ [] := by
  refine ⟨rfl, by simp [shard0, Volume.shardOff, sumNat], by simp [shard0, leBytes]⟩
theorem witness_Staging_shard : awaiting.awaits 0 = true ∧ awaiting.fromHost 0 = true ∧ shardOk awaiting 0 shard0 = true := by
  refine ⟨rfl, rfl, ?_⟩
  have h := numAt_leBytes (leBytes 4 0 ++ leBytes 2 0 ++ leBytes 2 0 ++ leBytes 8 0) [] 48 (Config.sha384 []).toNat
  have l : shard0.length = 64 := by simp [shard0]
  have e : (leBytes 4 0 ++ leBytes 2 0 ++ leBytes 2 0 ++ leBytes 8 0).length = 16 := rfl
  rw [e] at h
  have g := toNat_mod_bytes (Config.sha384 [])
  rw [g] at h
  have f : BitVec.ofNat 384 (numAt shard0 16 48) = Config.sha384 [] := by rw [shard0, h]; simp
  have i : awaiting.shards[0]? = some (0, Config.sha384 []) := rfl
  have n : numAt shard0 4 2 = 0 ∧ numAt shard0 8 8 = 0 := ⟨rfl, rfl⟩
  simp [shardOk, i, l, f, n.1, n.2]
theorem witness_Staging_fails : let v : Volume := { st := .staging, shards := [(0, 0)], attempts := [(0, 3)] }
    v.awaits 0 = true ∧ v.fromHost 0 = true ∧ v.tries 0 = 3 ∧ shardOk v 0 [] = false ∧ v.complete = false := by
  refine ⟨by decide, by decide, by decide, rfl, by decide⟩
/-- An adapter version with no layer of 64 bytes and its colophon. -/
def adapter0 : List Byte := leBytes 8 0 ++ leBytes 4 64 ++ leBytes 52 0
def adapterFile : List Byte := adapter0 ++ (leBytes 8 0 ++ leBytes 8 64 ++ (leBytes 48 (Config.sha384 adapter0).toNat ++ []))
theorem witness_Staging_adapter : let x : ASlot := { st := .writing }
    128 ≤ adapterFile.length ∧ x.passed = false ∧ up.adapterReason x (adapterFile.length - 64) adapterFile = 0 := by
  have l : adapterFile.length = 128 := by simp [adapterFile, adapter0]
  refine ⟨by omega, rfl, ?_⟩
  have a : adapterFile.take 64 = adapter0 := by
    rw [adapterFile, List.take_left' (by simp [adapter0])]
  have b : adapterFile.drop 64 = leBytes 8 0 ++ leBytes 8 64 ++ (leBytes 48 (Config.sha384 adapter0).toNat ++ []) := by
    rw [adapterFile, List.drop_left' (by simp [adapter0])]
  have h := numAt_leBytes (leBytes 8 0 ++ leBytes 8 64) [] 48 (Config.sha384 adapter0).toNat
  have e : (leBytes 8 0 ++ leBytes 8 64).length = 16 := rfl
  have g := toNat_mod_bytes (Config.sha384 adapter0)
  rw [e, g] at h
  have n : numAt (leBytes 8 0 ++ leBytes 8 64 ++ (leBytes 48 (Config.sha384 adapter0).toNat ++ [])) 4 2 = 0
      ∧ numAt (leBytes 8 0 ++ leBytes 8 64 ++ (leBytes 48 (Config.sha384 adapter0).toNat ++ [])) 8 8 = 64 := ⟨rfl, rfl⟩
  have v : numAt adapter0 4 2 = 0 ∧ numAt adapter0 8 4 = 64 := by decide +kernel
  have w : up.gathered 0 = [] := rfl
  rw [l]
  simp only [State.adapterReason, a, b, h, n.1, n.2, v.1, v.2, BitVec.ofNat_toNat, BitVec.setWidth_eq, w]
  decide

theorem witness_Queries : ∀ p f, Accessor.host 3 ≠ .vf p f := by intros; exact Accessor.noConfusion
theorem witness_Queries_absent : (up.vol 0).st = .absent := by decide +kernel
theorem witness_Queries_seen : (staging0.vol 0).st = .absent ∧ (demanding.vol 16383).st ≠ .absent
    ∧ demanding.accSees .custodian (demanding.vol 16383).part = true := by decide +kernel

/-! Statements of calibration, announcements and catalogues. -/

theorem witness_Calibration_idle : servingXb0.stepAt 0 .idle = some 0 ∧ servingXb0.mayStep 0 0 = true := by decide +kernel
/-- Crossbar 0 converts a product with B of 8 periods, one of them needed. -/
def gapped : State := servingXb0.modXrun 0 fun r => { r with conv := some { prod0 with reserved := 8, need := 1 } }
theorem witness_Calibration_gap : { gapped with t := 534, now := 534 }.stepAt 0 .phase = some 468 ∧ (gapped.xrun 0).conv ≠ none
    ∧ { gapped with t := 535, now := 535 }.stepAt 0 .phase = none := by decide +kernel
/-- All periods of the product are needed. -/
def ungapped : State := servingXb0.modXrun 0 fun r => { r with conv := some { prod0 with reserved := 8, need := 8 } }
theorem witness_Calibration_noGap : (ungapped.xrun 0).conv = some { prod0 with reserved := 8, need := 8 }
    ∧ (gapOf { prod0 with reserved := 8, need := 8 } .phase).2 < (gapOf { prod0 with reserved := 8, need := 8 } .phase).1 + 66 := by decide +kernel
/-- 2,048 other crossbars of the row calibrate. -/
def rowBusy : State := { servingXb0 with ca.steps := (List.range 2048).map fun i => (i, 66) }
theorem witness_Calibration_row : rowBusy.stepAt 0 .idle = some 0 ∧ 2048 ≤ rowBusy.rowSteps (rowBusy.servingXb 0) 0 := by decide +kernel
theorem witness_Calibration_measure : 80 ≤ ((servingXb0.modXrun 0 fun r => { r with monSteps := 80 }).xrun 0).monSteps
    ∧ 48 < monitorQ 100000000000 ∧ ¬ 48 < monitorQ 24330240 := by decide +kernel
theorem witness_Calibration_due : (servingXb0.phys (servingXb0.mappedXb 0)).st = .serving
    ∧ (servingXb0.phys (servingXb0.mappedXb 0)).noRecal ≤ servingXb0.now ∧ (servingXb0.phys (servingXb0.mappedXb 0)).cause = none
    ∧ ∀ e ∈ servingXb0.ca.due, e.1 ≠ servingXb0.mappedXb 0 := by decide +kernel
theorem witness_Calibration_recal : let s := exe.modPhys 83231 fun p => { p with st := .held, recal := true, checked := true }
    (s.phys 83231).st = .held ∧ (s.phys 83231).recal = true ∧ (s.phys 83231).cause = none ∧ (s.phys 83231).checked = true := by decide +kernel
theorem witness_Calibration_reserve : servingXb0.xst 10403 = .reserve ∧ servingXb0.reserveDue 10403 640 = true := by decide +kernel
theorem witness_Calibration_snapshot : ∀ n ∈ { exe with ca.changed := [83231] }.ca.changed, exe.memClean (calAddr n) 12288 ∧ exe.anyPoison (calAddr n) 12288 = false := by
  unfold State.memClean; decide +kernel
theorem witness_Calibration_trims : 0 ∈ servingXb0.trimQueue ∧ (∀ c ∈ servingXb0.trimQueue, 0 ≤ c) ∧ 135 ∉ servingXb0.trimQueue := by decide +kernel
theorem witness_Calibration_trimsRead : ∀ i < 612, servingXb0.memClean (calAddr (612 * 0 + i)) 12288
    ∧ servingXb0.anyPoison (calAddr (612 * 0 + i)) 12288 = false := by
  have u : servingXb0.mem.upset = [] := by decide +kernel
  have p : servingXb0.mem.poison = [] := by decide +kernel
  intro i _
  constructor
  · intro w _; rw [u]; rfl
  · simp [State.anyPoison, p, tabGet, tabFind]

/-- Port 3 is the control port and owns partition 15, for which a partial has been staged. -/
def announcing : State :=
  { (((((exe.setFlag (btPartValid 15) true).setFld (btPartHost 15) 3).setFlag (btHostwinControl 3) true).setFld ctCatStatePstate 2).setFld ctCatStatePpart 15)
      with cat.staged := some { partial_ := true, part := 15 } }
theorem witness_Announcements : announcing.mayPart (.host 3) 15 = true ∧ announcing.cat.staged = some { partial_ := true, part := 15 }
    ∧ announcing.stagedFor 15 = true ∧ leadOk (announcing.leadTo 256) = true ∧ leadOk (announcing.leadTo 16777216) = true
    ∧ imageLead announcing.ctg { partial_ := true, part := 15 } ≤ announcing.leadTo 256 ∧ announcing.cat.local_.length < 16
    ∧ announcing.mayDomain (.host 3) = true ∧ announcing.cat.domain.length < 32 ∧ announcing.mayDomain (.host 2) = false
    ∧ announcing.mayPart (.host 2) 15 = false := by decide +kernel

/-- A descriptor of ring pair 255 of a kind, with a body. -/
def desc0 (kind : Nat) (body : List Byte) : Desc :=
  { ring := 255, kind := kind, irq := false, endInput := true, tenant := 3, req := 77, part := 0, deadline := 0, body := body, user := 9, tick := 0, order := 0,
    entry := 4095, openIx := 0 }
/-- Port 3 holds a descriptor. -/
def held (d : Desc) (s : State) : State := s.modHport 3 fun h => { h with store := [d] }
theorem witness_Partials_stage : takeFirst (fun d : Desc => decide (d.kind = 13)) ((held (desc0 13 (leBytes 8 0 ++ leBytes 4 312)) exe).hport 3).store
    = some (desc0 13 (leBytes 8 0 ++ leBytes 4 312), []) ∧ (held (desc0 13 (leBytes 8 0 ++ leBytes 4 312)) exe).partialBusy = false := by decide +kernel
theorem witness_Partials_custodian : exe.partialBusy = false := by decide +kernel
/-- A partial image for partition 15 with an empty SLOTS section. -/
def partial15 : List Byte :=
  let sec := leBytes 2 8 ++ leBytes 2 1 ++ leBytes 4 0 ++ leBytes 4 64 ++ leBytes 4 0
  leBytes 4 0x54434B53 ++ leBytes 2 1 ++ leBytes 1 1 ++ leBytes 1 15 ++ leBytes 16 0 ++ leBytes 4 312 ++ leBytes 2 1 ++ leBytes 2 64 ++ leBytes 2 800
    ++ leBytes 2 0 ++ leBytes 4 1 ++ leBytes 88 0 ++ leBytes 4 8 ++ leBytes 4 192 ++ leBytes 4 16 ++ leBytes 4 (crc32c sec).toNat ++ leBytes 48 0
    ++ sec ++ leBytes 104 0
/-- It is in check, under a catalogue, with a key to check it by. -/
def checking : State :=
  let s := (((under {} exe).setFld ctCatStatePstate 1).setFld ctCatStatePpart 15)
  { s with cat.incoming := partial15, cu.em.keySet := [[1]] }
theorem witness_Partials_body : (match Cat.parseBody partial15 with
    | .error _ => false
    | .ok c => c.partial_ && decide (c.part = 15)
        && (firstOf [if checking.cat.cur.isSome then firstOf [checkOwn checking.ctg c, checkServices (checking.ctg.merge c)] else none,
              checkBase checking.cat.cur.isSome checking.ctg c, checkScope checking.ctg c 15,
              checkImages checking.ctg c, checkRest checking (checking.ctg.merge c)]).isNone) = true := by decide +kernel
theorem witness_Partials_passes (h : sigOk checking.catKeys partial15 = true) :
    ∃ c, checking.checkPartial (checking.fld ctCatStatePpart) checking.cat.incoming = .ok c := by
  have b := witness_Partials_body
  have e : checking.fld ctCatStatePpart = 15 := by decide +kernel
  have i : checking.cat.incoming = partial15 := rfl
  rw [e, i]
  cases hp : Cat.parseBody partial15 with
  | error _ => rw [hp] at b; cases b
  | ok c =>
    rw [hp] at b
    simp only [Bool.and_eq_true, decide_eq_true_eq, Option.isNone_iff_eq_none] at b
    refine ⟨c, ?_⟩
    have parse : Cat.parse checking.catKeys partial15 = .ok c := by simp [Cat.parse, h, hp, Except.mapError]
    unfold State.checkPartial
    rw [parse]
    simp only [b.1.1, Bool.not_true, Bool.false_eq_true, if_false, b.2]
theorem witness_Partials_signed (h : Config.ecdsaOk [1] (Config.sha384 (partial15.take (partial15.length - 104)))
    (bytesAt (partial15.drop (partial15.length - 104)) 8 48) (bytesAt (partial15.drop (partial15.length - 104)) 56 48) = true) :
    sigOk checking.catKeys partial15 = true := by
  have k : checking.catKeys[numAt (partial15.drop (partial15.length - 104)) 0 2]? = some [1] := by decide +kernel
  have l : (decide (104 ≤ partial15.length) && decide (numAt (partial15.drop (partial15.length - 104)) 0 2 < 4)
      && !(([1] : List Byte).all fun b => decide (b = 0))) = true := by decide +kernel
  simp only [sigOk, k, h, l, Bool.and_true]
theorem witness_Partials_fails : ∃ e, { checking with cat.incoming := [] }.checkPartial 15 [] = .error e := ⟨_, rfl⟩
/-- Core 31 of cluster 0 has new code of four bytes in its staging buffer. -/
def swapping : State :=
  let leaf : LeafRec :=
    { cluster := 0, base := 0, jobs := 0, resEnd := 0, latest := 0, regions := [], code := [],
      cores := List.replicate 32 { len := 4, entry := 0, code := 0, check := 0, signals := [] } }
  let k : ClusterRec :=
    { cluster := 0, arb := false, swap := true, poolBase := 0, poolBanks := 0, stageCells := 0, freeCycles := 0, imgAddr := 0, swapAddr := 65536,
      arbBuf := 0, arbPeriod := 0, xe := 0 }
  let s := under { clusters := [k] } (exe.setFlag (clStatusSwapPend 0) true)
  { s with cat.staged := some { partial_ := true, leaves := [leaf] }, cat.imgSent := [(0, 128)] }
theorem witness_Partials_buffer : (match swapping.newLeaf 0, swapping.ctg.clusterRec 0 with
    | some b, some _ => decide (b.cores[31]? ≠ none) && decide (sumNat ((b.cores.take 32).map fun x => x.len) ≤ tabGet 0 swapping.cat.imgSent 0)
    | _, _ => false) = true := by decide +kernel

/-! Statements of serving. -/

/-- Ring pair 255 of port 3 runs with its smallest sizes, the port is ready and owns partition 0 and tenant 3. -/
def ringing : State :=
  let s := ((exe.setFlag (hpStatusReady 3) true).setFld (hpRingStatState 3 255) 1).setFlag (btPartValid 0) true
  ((s.setFld (btPartHost 0) 3).setFld (btTenantRangeFirst 3) 3).setFld (btTenantRangeCount 3) 1
theorem witness_Rings : ringing.mayRing (.host 3) 3 255 = true ∧ ringing.ringOn 3 255 = true ∧ 63 < ringing.ringSize 3 255
    ∧ ringing.fld (hpRingStatState 3 255) = 1 ∧ ringing.ringSize 3 255 ≤ 64 ∧ 0 < ringing.cplSize 3 255
    ∧ (0 + ringing.cplSize 3 255 - ringing.fld (hpCplHeadHead 3 255) % ringing.cplSize 3 255) % ringing.cplSize 3 255 ≤ ringing.cplUsed 3 255
    ∧ ringing.dieRuns = true := by decide +kernel
theorem witness_Rings_enable : let s := ringing.setFld (hpRingStatState 3 255) 0
    s.ringOn 3 255 = false ∧ s.flag (hpStatusReady 3) = true ∧ s.fld (hpRingCfgRq 3 255) ≤ 10 ∧ s.fld (hpRingCfgCq 3 255) ≤ 10 := by decide +kernel

/-- A stream request in entry 4095 of port 3. -/
def req0 : Request :=
  { port := 3, ring := 255, req := 77, tenant := 3, part := 0, svc := 1023, openIx := 0, volId := 0, adapter := 0, vol := none, aslot := none, agen := 0,
    dslot := none, user := 9, irq := false, deadline := none, gens := [], closing := false, chunks := [], nextBuf := 0, oldBuf := none, admitted := false,
    step := none, delivered := 0, suspect := false, ctxLimit := false, ended := none, status := 0, muted := false }
/-- Its service. -/
def service0 : ServiceRec :=
  { service := 1023, part := 0, valid := true, input := true, gen := true, adapt := false, stages := 1, maxUnits := 1, batch := 1, engines := 0,
    maxOpen := 1, shape := 0, chunkMax := 64, unitBytes := 32, cost := 7, inputAddr := 65536, outAddr := 131072, batchAddr := 0, job := 5, layers := [] }
/-- The request is live. -/
def live (r : Request) : State :=
  let s := under { services := [service0] } ringing
  { (s.modRing 3 255 fun q => { q with ids := [(77, .stream 16383)], tail := 1 }) with sv.req := [(16383, r)] }
/-- A CLOSE of it as the host writes it. -/
def closeBytes : List Byte := leBytes 2 4 ++ leBytes 2 3 ++ leBytes 4 77 ++ leBytes 56 0
theorem witness_Descriptors_fetch : (live req0).fetchable 3 255 = true ∧ (live req0).fetchRoom 3 255 (some (bytesAt closeBytes 0 64)) = true
    ∧ (live req0).fetchErr 3 255 (some (bytesAt closeBytes 0 64)) = 0 ∧ (live req0).fetchTurn 3 255 = true := by decide +kernel
/-- Ring pair 254 waits too, and the one served last was 253. -/
def twoRings : State :=
  (((live req0).setFld (hpRingStatState 3 254) 1).modRing 3 254 fun q => { q with tail := 1 }).modHport 3 fun h => { h with last := 253 }
theorem witness_Descriptors_turn : twoRings.fetchTurn 3 254 = true ∧ twoRings.fetchTurn 3 255 = false := by decide +kernel
theorem witness_Descriptors_cancelOpen : let s := (held (desc0 1 []) (live req0)).modRing 3 255 fun q => { q with ids := [] }
    s.mayRing (.host 3) 3 255 = true ∧ (∀ m, (s.ring 3 255).ids.lookup (77 : BitVec 32).toNat ≠ some (.stream m)) ∧ desc0 1 [] ∈ (s.hport 3).store
    ∧ (desc0 1 []).opens 255 (77 : BitVec 32).toNat = true := by
  have e : (((held (desc0 1 []) (live req0)).modRing 3 255 fun q => { q with ids := [] }).ring 3 255).ids = [] := by decide +kernel
  refine ⟨by decide +kernel, fun m => ?_, by decide +kernel, by decide +kernel⟩
  rw [e]
  simp
theorem witness_Descriptors_head : ∀ kind : Fin 5, takeFirst (fun x : Desc => decide (x.kind = kind.val + 1))
    ((held (desc0 (kind.val + 1) []) (live req0)).hport 3).store = some (desc0 (kind.val + 1) [], []) := by decide +kernel
theorem witness_Descriptors_live : (live req0).liveOf 3 255 77 = some (16383, req0) ∧ (live req0).validService 1023 0 = some service0
    ∧ service0.input = true ∧ service0.gen = true ∧ (live req0).rq 16383 = some req0 ∧ req0.ended = none
    ∧ ((live req0).ring 3 255).ids.lookup (77 : BitVec 32).toNat = some (.stream 16383) ∧ (live req0).mayRing (.host 3) 3 255 = true := by decide +kernel
/-- A chunk of it is being read. -/
def reading0 : State :=
  (live { req0 with chunks := [{ buf := 0, len := 64, last := true, user := 9, irq := false, order := 0, ready := false }] }).modRing 3 255 fun q =>
    { q with chunk := some (desc0 2 (leBytes 8 0 ++ leBytes 4 64)) }
theorem witness_Descriptors_chunk : (reading0.ring 3 255).chunk = some (desc0 2 (leBytes 8 0 ++ leBytes 4 64)) ∧ (reading0.liveOf 3 255 77).isSome = true
    ∧ reading0.serviceOf 1023 = some service0 := by decide +kernel

/-- A volume of partition 0 in a state. -/
def holding (st : VolState) (s : State) : State := { s with sh.vol := [(16383, { st := st })] }
theorem witness_StagingDescriptors_fatal : ringing.fatalPart 0 = false ∧ (held (desc0 8 []) ringing).freeHandle = some 0 := by decide +kernel
/-- A directory with n volumes, each staged. -/
def staged : Nat → List (Nat × Volume)
  | 0 => []
  | n + 1 => (n, { st := .staged }) :: staged n
theorem staged_find (n h : Nat) (hh : h < n) : tabFind (staged n) h = some { st := .staged } := by
  induction n with
  | zero => omega
  | succ n ih =>
    simp only [staged, tabFind]
    split
    · rfl
    · exact ih (by omega)
theorem witness_StagingDescriptors_full : { ringing with sh.vol := staged 16384 }.freeHandle = none := by
  refine List.find?_eq_none.mpr fun h hh => ?_
  have e : { ringing with sh.vol := staged 16384 }.vol h = { st := .staged } := by
    simp only [State.vol, tabGet, staged_find 16384 h (List.mem_range.mp hh), Option.getD_some]
  rw [e]
  decide
theorem witness_StagingDescriptors_head : ∀ kind : Fin 13, takeFirst (fun x : Desc => decide (x.kind = kind.val)) ((held (desc0 kind []) ringing).hport 3).store
    = some (desc0 kind [], []) := by decide +kernel
theorem witness_StagingDescriptors_volume : let d := desc0 9 (leBytes 2 16383)
    ((holding .staged (held d ringing)).vol (numAt d.body 0 2)).st = .staged
    ∧ ((holding .shelved (held d ringing)).vol (numAt d.body 0 2)).st = .shelved := by decide +kernel
/-- Partition 0 has adapter slot 8191 with a frame. -/
def adapting : State :=
  { under { quotas := [{ dirLimit := 0, aslotFirst := 8191, aslotCount := 1, libraryMib := 0, adapterMib := List.replicate 16 1 }],
            regions := [{ base := 4096, size := 16, kind := 4, owner := 255 }] } ringing with sh.aslot := [(8191, { st := .free })] }
theorem witness_StagingDescriptors_adapter : let d := desc0 11 (leBytes 8 0 ++ leBytes 4 128 ++ leBytes 4 6)
    (∀ e ∈ adapting.sh.aslot, ¬ (e.2.st = .writing ∧ e.2.part = d.part ∧ e.2.adapter = numAt d.body 12 4))
    ∧ ((adapting.aslotsOf d.part).find? fun a => decide ((adapting.aslot a).st = .free)
        && (adapting.findFrames d.part (a % 16) (Nat.max 1 (ceilDiv (numAt d.body 8 4 - 64) 65536))).isSome) = some 8191
    ∧ tabGet 0 adapting.sh.agen (2 ^ 32 * d.part + numAt d.body 12 4) < 65535 := by decide +kernel
theorem witness_StagingDescriptors_release : let s := { ringing with sh.aslot := [(8191, { st := .current, adapter := 6 })] }
    let d := desc0 12 (leBytes 12 0 ++ leBytes 4 6)
    (s.sh.aslot.find? fun e => decide (e.2.st = .current) && decide (e.2.part = d.part) && decide (e.2.adapter = numAt d.body 12 4)).isSome = true := by
  decide +kernel

/-- A step of the request is in flight in cohort 0, batch slot 0, with no output yet. -/
def stepping : State :=
  live { req0 with step := some { cohort := 0, batch := 0, ends := 9, hold := 0, cost := 7, used := 0, chunk := none, user := 9, irq := false, resv := 1, owed := 0 } }
theorem witness_OutputRecords : (match stepping.admittedAt 1023 0 0 with
    | some (k, r, st) => decide (k = 16383) && !r.muted && r.ended.isNone && decide (st.cost = 7)
    | none => false) = true ∧ stepping.serviceOf 1023 = some service0 := by decide +kernel
theorem witness_OutputRecords_clean : 131072 % 64 = 0 ∧ stepping.memClean 131072 64 ∧ (stepping.hbmData 131072 64).2.1.any id = false
    ∧ (stepping.hbmData 131072 64).1 = stepping.bytes 131072 64 ∧ (stepping.hbmData 131072 64).2.2 = false
    ∧ numAt (stepping.bytes 131072 64) 2 2 = req0.openIx ∧ bitOf (numAt (stepping.bytes 131072 64) 5 1) 1 = false := by
  unfold State.memClean; decide +kernel

/-! Statements of the fabric. -/

/-- Port 7 in a state. -/
def port7 (st : Nat) : State := exe.setFld (fbPortStateState 7) st
/-- A control flit. -/
def flit0 : Flit :=
  { header := codewordHeader 65535, seq := 0, ack := 0, type := 2, cls := 0, vc := 0, first := false, last := false, decoded := true, lcrcOk := true,
    payload := [], poison := [] }
theorem witness_Links : (port7 portUp).linkRuns 7 = true ∧ (port7 portQuarantined).linkRuns 7 = true ∧ flit0.seq = ((port7 portUp).fport 7).expect
    ∧ { flit0 with seq := 65535 }.seq ≠ ((port7 portUp).fport 7).expect ∧ ((port7 portUp).fport 7).nakSent = false ∧ (port7 portUp).fbUp 7 = true
    ∧ ((port7 portUp).fport 7).egress = [] ∧ ((port7 portUp).fport 7).transit = [] := by decide +kernel
theorem witness_Links_framing : framed flit0.header = true ∧ framed { flit0 with header := 0 }.header = false := by decide
theorem witness_Links_replay : let s := (port7 portUp).modFport 7 fun f => { f with replay := [65535], pools := [(9, 1)] }
    (65535 : BitVec 16).toNat ∈ (s.fport 7).replay ∧ (s.fport 7).replayAt = none ∧ tabGet 0 (s.fport 7).pools (9 % 2 ^ 15) ≠ 0 := by decide +kernel
theorem witness_Ports_training : (port7 portTraining).fb.fabRefLost = false ∧ (port7 portTraining).fbState 7 = portTraining
    ∧ (port7 portOff).fbState 7 = portOff ∧ (port7 portOff).fld (fbPlanNeighbourKind 7) = 0
    ∧ (((port7 portTraining).modFport 7 fun f => { f with retraining := true }).fport 7).retraining = true
    ∧ (port7 portIdent).flag (fbSeenNeighbourValid 7) = false ∧ ((port7 portIdent).fport 7).replay.length < 512 := by decide +kernel
/-- What a neighbour of the reset plan says. -/
def ident0 : Ident := { module := 0, port := 0, sync := 0, domain := 0, kind := 0, amode := 0, tickUs := 64, x := 0, y := 0, z := 0 }
theorem witness_Ports_ident : (port7 portIdent).fbState 7 = portIdent ∧ (port7 portIdent).identPlanned 7 ident0 = true
    ∧ (port7 portIdent).expectsSync 7 0 = true ∧ ((port7 portIdent).fport 7).rejoin = false
    ∧ (port7 portIdent).identPlanned 7 { ident0 with module := 4095 } = false
    ∧ ((port7 portIdent).setFld ctSyncModeMode 1).identPlanned 7 ident0 = true ∧ ((port7 portIdent).setFld ctSyncModeMode 1).expectsSync 7 0 = false := by
  decide +kernel
theorem witness_Ports_reference : { exe with fb.fabRefLost := true }.fb.fabRefLost = true ∧ exe.dieRuns = true ∧ exe.fb.fabRefLost = false := by
  decide +kernel

/-- Port 7 is UP, the REMOTE region of partition 0 lies from 4 GiB, clusters 0 to 3 are partition 0's, credit pool 9 feeds queue 511 of cluster 0. -/
def remote : State :=
  owned (under { regions := [{ base := 4096, size := 1, kind := 8, owner := 0 }],
                 credits := [{ pool := 9, source := 0, id := 7, cls := 1, part := 0, cluster := 0, queue := 511, capacity := 4 }] } (port7 portUp))
/-- A packet of 64 bytes for the last word of the region. -/
def packet0 : Packet :=
  { cls := 2, op := 1, dstPart := 0, dest := 0, src := 1, job := 5, pool := 9, tag := 0, tick := 0, offset := 0x100000000 + 2 ^ 20 - 64,
    check := crc32c (List.replicate 64 7), data := List.replicate 64 7, poison := [] }
theorem witness_Packets : remote.delivers 7 packet0 := by unfold State.delivers; decide +kernel
theorem witness_Packets_queue : ((remote.poolsFor 7).find? (fun c => decide (c.pool = packet0.pool))).isSome = true := by decide +kernel
theorem witness_Packets_hbm : isHbm packet0.offset = true ∧ isHbm (packet0.offset + packet0.data.length - 1) = true
    ∧ remote.inOwn packet0.dstPart [8] packet0.offset packet0.data.length = true ∧ packet0.offset % 64 = 0 ∧ packet0.tick = remote.tick % 65536 := by
  decide +kernel
theorem witness_Packets_cluster : let k := { packet0 with offset := clMem 3 + clMemSize - 64 }
    clMem 3 ≤ k.offset ∧ k.offset + k.data.length ≤ clMem 3 + clMemSize ∧ k.data ≠ [] ∧ remote.clAvailable 3 = true ∧ remote.owns k.dstPart 3 = true := by
  decide +kernel
/-- The module is one of two; port 0 leads to the other and has a slot of class 2 for job 5. -/
def answering : State :=
  let s := ((remote.setFld fbCoordDxm1 1).setFld (fbPortStateState 0) portUp).setFlag (fbSlotTableValid 0 255) true
  (s.setFld (fbSlotTableJob 0 255) 5).setFld (fbSlotTableClass 0 255) 2
/-- A READ_REQ for 64 bytes. -/
def readReq0 : Packet :=
  let d := leBytes 6 0 ++ leBytes 2 64
  { packet0 with data := d, check := crc32c d, op := 2 }
theorem witness_Packets_read : answering.delivers 7 readReq0 ∧ 8 ≤ readReq0.data.length ∧ numAt readReq0.data 6 2 = 64
    ∧ isHbm (readReq0.offset + 64 - 1) = true ∧ answering.inOwn readReq0.dstPart [8] readReq0.offset 64 = true
    ∧ answering.memClean readReq0.offset 64 ∧ readReq0.src ≠ answering.ownNumber 7 ∧ answering.route (answering.ownNumber 7) readReq0.src = some (0, 0)
    ∧ answering.fbUp 0 = true ∧ (answering.fport 0).open_ = none ∧ 255 ∈ answering.entriesOf 0
    ∧ answering.fld (fbSlotTableJob 0 255) = readReq0.job ∧ answering.fld (fbSlotTableClass 0 255) = 2
    ∧ answering.flag (fbSlotTableInert 0 255) = false := by
  unfold State.delivers State.memClean; decide +kernel
theorem witness_Packets_shardNone : let s := answering.setFld (fbSlotTableLength 0 255) 1000
    s.delivers 7 packet0 ∧ s.route (s.fld fbCoordModule) packet0.src = some (0, 0) ∧ s.fbUp 0 = true ∧ s.slotOwned 0 = true := by
  unfold State.delivers; decide +kernel
/-- Volume 5 awaits shard 0 of 64 bytes from module 1. -/
def gathering : State :=
  { remote with sh.vol := [(5, { st := .staging, id := 3, version := 1, shards := [(64, 0)], attempts := [(0, 1)], peers := [1] })] }
theorem witness_Packets_shard (h : Config.shardFields packet0.data = (3, 1, 0, 0, [5])) : let f := Config.shardFields packet0.data
    gathering.delivers 7 packet0 ∧ gathering.shardWaits f.1 f.2.1 f.2.2.1 packet0.src = some 5 ∧ packet0.poison.any id = false
    ∧ f.2.2.2.1 = ((tabFind (gathering.vol 5).partials f.2.2.1).getD []).length
    ∧ f.2.2.2.1 + f.2.2.2.2.length < ((gathering.vol 5).shards.getD f.2.2.1 (0, 0)).1 + 64 ∧ (gathering.vol 5).tries f.2.2.1 < 3
    ∧ tabFind (gathering.vol 5).mending f.2.2.1 = none ∧ gathering.holdsShard f.1 f.2.1 f.2.2.1 = none := by
  rw [h]
  unfold State.delivers; decide +kernel
theorem witness_Packets_slot : let s := exe.setFlag (fbSlotTableValid 7 255) true
    s.guarded = false ∧ s.idle = false ∧ s.flag (fbSlotTableValid 7 255) = true ∧ s.fb.out = false := by decide +kernel

/-- Port 3 carries synchronisation in a mode. -/
def syncing (mode : Nat) : State := (exe.setFld (fbPortStateState 3) portUp).setFld ctSyncModeMode mode
theorem witness_Sync_time : (syncing 1).timePort 3 = true ∧ (syncing 1).fld (fbSeenNeighbourModule 3) ∉ (syncing 1).fb.exited := by decide +kernel
theorem witness_Sync_ctick : (syncing 2).ctickPort 3 = true ∧ 0 = (syncing 2).tick % 2 ^ 32 ∧ (syncing 2).ctickEdges = 320
    ∧ ((syncing 2).setFlag ctSyncModeLocked true).flag ctSyncModeLocked = true ∧ (syncing 2).fb.exitAt = none
    ∧ ((syncing 2).fport 3).replay.length < 512 := by decide +kernel
theorem witness_Sync_announce : (syncing 1).syncPort 3 = true ∧ (syncing 1).exitPort 3 = true ∧ (syncing 1).fb.seen.contains (9, 1) = false ∧ (syncing 1).tickReached 256 = false
    ∧ ((syncing 1).tickDue 256 && decide ((syncing 1).tickNs < (syncing 1).t + 250)) = false ∧ (syncing 1).cat.domain.length < 64
    ∧ 9 ∉ (syncing 1).fb.exited := by decide +kernel
theorem witness_Sync_holdover : { syncing 1 with fb.noParent := true }.syncMode = 1 ∧ { syncing 1 with fb.noParent := true }.fb.noParent = true := by
  decide +kernel

/-! Statements of records, heat and power. -/

theorem witness_Records_mirror : exe.dieRuns = true := by decide +kernel
theorem witness_Records_resume : let s := (announcing.setFld ctCatStatePstate 0).setFlag (inPartStateFatal 15) true
    s.portOwns 3 15 = true ∧ s.mayResume 15 = true := by decide +kernel
theorem witness_Records_write : ((regAt (btHostwinReg 0)).map fun d => decide (d.rwt = 0) && decide (d.rw &&& d.w1c = 0) && decide (d.rwl &&& d.w1c = 0)) = some true
    ∧ (btHostwinReg 0) % 8 = 0 ∧ (btHostwinReg 0) < 0x100000 := by decide +kernel
theorem witness_Heat_sample : booted.sampling = true := by decide +kernel
theorem witness_Heat_timers : let s := { exe.setFlag pwStatusFast true with pw.below := 1000, pw.belowRise := 10 }
    1000 ≤ s.pw.below ∧ 10 ≤ s.pw.belowRise ∧ s.flag pwStatusFast = true := by decide +kernel
theorem witness_Heat_critical : let s := { exe.setFlag (pwStageOn 0) true with pw.crit := some 0 }
    s.pw.crit ≠ none ∧ s.flag (pwStageOn 0) = true := by decide +kernel
theorem witness_Heat_throt : 5 ≤ booted.fld btBootStep ∧ booted.cu.throtRaw ≠ true ∧ booted.flag btInputsThrotUnstable = false
    ∧ booted.cu.throtTimes = [] ∧ (booted.setFlag btInputsThrot true).flag btInputsThrot = true ∧ booted.cu.throtStuckDone = false
    ∧ (booted.setFlag btInputsThrotUnstable true).flag btInputsThrotUnstable = true := by decide +kernel
theorem witness_Heat_eye : (if (16 : BitVec 8).toNat < 16 ∨ (39 : BitVec 8).toNat ≤ 38 then min 3 (exe.fld (caLaneStrikes 63) + 1) else 0) ≠ 3
    ∧ (if (15 : BitVec 8).toNat < 16 ∨ (39 : BitVec 8).toNat ≤ 38 then min 3 (exe.fld (caLaneStrikes 63) + 1) else 0) ≠ 3 := by decide +kernel
theorem witness_Supplies_survey : { exe with pw.running := some (95, true, 1) }.pw.running = some ((95 : Fin 96).val, true, 1)
    ∧ exe.pw.running = none ∧ (exe.setFlag svCtrlEn true).flag svCtrlEn = true ∧ (exe.setFlag svCtrlCont false).flag svCtrlCont = false
    ∧ 2 ∉ exe.pw.urgent ∧ 1 ∉ exe.pw.urgent ∧ exe.fld pwBudgetLimit < 4095 := by decide +kernel
theorem witness_Supplies_target : 800 ≤ (824 : BitVec 11).toNat / 25 * 25 ∧ (824 : BitVec 11).toNat / 25 * 25 ≤ 1800 ∧ (799 : BitVec 11).toNat / 25 * 25 < 800
    ∧ exe.fld (pwDomainVoltVmin 7) ≤ (850 : BitVec 10).toNat ∧ 0 < (exe.setFld (pwDomainVoltVmin 7) 700).fld (pwDomainVoltVmin 7) := by decide +kernel
theorem witness_Supplies_stages : (∀ e ∈ exe.pw.latch, e.1 ≠ 1) ∧ (exe.setFlag (pwStageOn 1) true).flag (pwStageOn 1) = true ∧ inputOk true 0 = false
    ∧ exe.clAvailable 127 = true := by decide +kernel

/-! Statements of start-up, the custodian and the pins. -/

theorem witness_Resets_assert : exe.pw.standby = true ∧ exe.flag btInputsModRst = false ∧ exe.cu.modRstTimes = [] := by decide +kernel
theorem witness_Resets_release : let s := exe.setFlag btInputsModRst true
    s.flag btInputsModRst = true ∧ s.cu.resetDue = none ∧ s.fld btBootStep ≠ 17 ∧ s.cu.modRstHeldDone = false := by decide +kernel
theorem witness_Resets_power : { exe with pw.standby := false }.pw.standby = false := rfl
/-- Every sensor of the die is left out of the readings. -/
def cool : State := { (exe.setFld btBootStep 6) with cu.em.sensorExcl := List.range 320 }
theorem witness_Resets_boot : cool.pw.standby = true ∧ cool.coolEnough = true ∧ cool.fld btBootStep = 6 ∧ (exe.setFld btBootStep 8).fld btBootStep = 8
    ∧ (exe.setFld btBootStep 9).fld btBootStep = 9 := by decide +kernel
theorem witness_Resets_link : let s := booted.modHport 3 fun h => { h with perst := false }
    s.dieRuns = true ∧ (s.hport 3).perst = false ∧ 6 ≤ s.fld btBootStep ∧ s.fld btBootStep ≤ 15 := by decide +kernel
theorem witness_Resets_chain : exe.chainOn false = true := by decide +kernel

/-- A request over SMBus in the session. -/
def mgmt0 : Mgmt := { pcie := false, secured := true, lenOk := true }
/-- The session is open. -/
def inSession : State := { exe with cu.session := true }
theorem witness_Vendor : inSession.reached mgmt0 true = true ∧ mgmt0.lenOk = true ∧ inSession.secured mgmt0 = true ∧ exe.secured mgmt0 = false := by
  decide +kernel
/-- A debug token of a day, for the nonce given. -/
def token0 : Token :=
  { magic := 0x54444B53, format := 1, rights := 3, uid := Config.uid, nonce := 7, seconds := 86400, signed := [], r := [], s := [] }
theorem witness_Vendor_token (h : Config.ecdsaOk [1] (Config.sha384 []) [] [] = true) :
    { inSession with cu.nonce := some 7, cu.em.keySet := [[], [], [], [], [1]] }.tokenTest token0 = 0 := by
  simpa [State.tokenTest, token0] using h
theorem witness_Vendor_expiry : { exe with cu.token := some (3, 0, 0) }.cu.token ≠ none := by simp
theorem witness_Standard : exe.reached mgmt0 false = true ∧ exe.cu.pldm = .idle ∧ exe.inRecovery = false := by decide +kernel
theorem witness_Standard_states : let s (p : Pldm) : State := { exe with cu.pldm := p, cu.comp := some .keys, cu.comps := [.keys], cu.ready := [.keys] }
    (s .requested).cu.pldm = .requested ∧ (s .tabled).cu.pldm = .tabled ∧ Component.keys ∈ (s .tabled).cu.comps ∧ (s .tabled).inRecovery = false
    ∧ (s .receiving).cu.comp = some .keys ∧ (s .receiving).cu.update.length = (s .receiving).cu.compSize ∧ (s .applied).cu.ready ≠ []
    ∧ (s .applied).cu.pldm ≠ .idle := by decide +kernel

/-! Worked values of the spec. -/

/-- The sparse vector of the spec's chapter on the crossbars: 77, −128, 5 and −67 at rows 3, 40, 41 and 300. -/
def sparse : List Byte :=
  List.replicate 3 0 ++ [77] ++ List.replicate 36 0 ++ [0x80, 5] ++ List.replicate 258 0 ++ [0xBD]
/-- The levels of its two data columns and of the reference column in those rows. -/
def sparseLevel (r c : Nat) : Nat :=
  if c = refCol 0 then 8
  else match r with
    | 3 => if c = 0 then 13 else 10
    | 40 => if c = 0 then 12 else 6
    | 41 => if c = 0 then 4 else 14
    | 300 => if c = 0 then 10 else 7
    | _ => 0
/-- Its phases in slices 0, 1 and 3, each with activity, range code and the charges of column 0, column 1 and the reference column. -/
theorem test_sparse_vector : (vecPhases .int8 sparse).map (fun p => (p.slice, p.act, rangeCode p.act, columnCharge sparseLevel .int8 sparse p 0,
    columnCharge sparseLevel .int8 sparse p 1, columnCharge sparseLevel .int8 sparse p (refCol 0)))
      = [(0, 5, 1, -13, 3, -8), (1, 4, 1, 43, 44, 32), (3, 4, 1, -21, -9, -16)] := by
  decide +kernel
/-- The ideal codes of those charges, and of the dense vector's (R70). -/
theorem test_ideal_codes : [-13, 3, -8, 43, 44, 32, -21, -9, -16].map (fun q => idealCode q 1) = [-2, 1, -1, 8, 8, 6, -4, -2, -3]
    ∧ idealCode 384 16 = 4 ∧ idealCode 3072 16 = 34 := by decide
/-- The results of the two examples (R77). -/
theorem test_results : outOf 15328 = 5474 ∧ outOf 348160 = 124343 := by decide
/-- The row of R81's table for q = 0.5, an activity of 384 and range code 16: 109 sixteenths. -/
theorem test_tolerance : tolerance16 8 384 16 = 109 := by decide +kernel
/-- The worked check of the address mapping (R44). -/
theorem test_stack_of_address : stackOf 0x1234567890 = 6 ∧ stackOffset 0x1234567890 = 0x123457890 ∧ hbmAddr 6 0x123457890 = 0x1234567890 := by decide
/-- The key of position 1,499 in layer 5 (worked example before R222). -/
theorem test_key_address : pagePositions { stream0 with hkv := 4, hq := 16, dhead := 64, layers := 12 } = 64
    ∧ frameAddr 4 0x14A27 0x3600 = 0x14A2743600 := by decide
/-- The element of the exact engine's example, and its residue (R188). -/
theorem test_exact_element : dotInt [(100, -90), (-7, 33), (45, 127), (-128, -2)] = -3260 ∧ (-3260 : Int) % 255 = 55 := by decide
/-- The seals of the two contributions and of their sum, with K = 3 (R437). -/
theorem test_seals : (vsealVal 3 0 1 (0x0000000000000007FFFFFFFE00000005 : Vec256)).1 = 186
    ∧ (vsealVal 3 0 1 (0x00000002FFFFFFFD0000000400000001 : Vec256)).1 = 120
    ∧ (vsealVal 3 0 1 (0x00000002000000040000000200000006 : Vec256)).1 = 306 := by decide +kernel
/-- The interpolation of R464's example at 64.00 °C and 64.50 °C between the sets at 50 °C and 70 °C. -/
theorem test_interpolation : [(-5, 3), (12, 4), (-20, 10), (3, -1), (-2, -6)].map (fun e => (interp 512 1 2 e.1 e.2, interp 516 1 2 e.1 e.2))
    = [(1, 1), (6, 6), (1, 2), (0, 0), (-5, -5)] := by decide
/-- The lowest voltages of 1,200, 1,600 and 1,800 MHz (R497). -/
theorem test_vmin : vmin 1200 = 700 ∧ vmin 1600 = 800 ∧ vmin 1800 = 850 := by decide
/-- With physical column 5 failed, logical columns 0 to 4 stay and 5 to 8 move one place (R24). -/
theorem test_shift : (List.range 9).map (shiftColumn (5, 17)) = [some 0, some 1, some 2, some 3, some 4, some 6, some 7, some 8, some 9] := by decide
/-- THROTTLE 64 idles every fourth tick (R509). -/
theorem test_idle : (List.range 12).filter (idleAt (2 ^ 32) 64 1000 <| 1000 + ·) = [3, 7, 11] := by decide +kernel
/-- The check value of the nine ASCII digits, which CRC-32C's definition fixes (R11 names the code). -/
theorem test_crc32c : crc32c [0x31, 0x32, 0x33, 0x34, 0x35, 0x36, 0x37, 0x38, 0x39] = 0xE3069283 := by decide +kernel
/-- The bank of words a vector of zeros converts: none, and the product's exact zeros (R63, R79). -/
theorem test_zero_vector : vecPhases .int8 [] = [] := by decide +kernel

/-! What the model does in one step. -/

/-- g0 reads zero whatever is written to it (R98). -/
theorem test_g0_discards : ∃ t, exec (.scalarArithmetic 0 .add 0 1 (.imm 7)) exe = .next t ∧ t.gpr 0 0 = 0 := ⟨_, rfl, by decide +kernel⟩
/-- A sum wraps (R100). -/
theorem test_add_wraps : ∃ t, exec (.scalarArithmetic 0 .add 2 0 (.imm 0xFFFFFFFFFFFFFFFF)) exe = .next t ∧ t.gpr 0 2 = 0xFFFFFFFFFFFFFFFF :=
  ⟨_, rfl, by decide +kernel⟩
/-- TSIG saturates at 0xFFFF (R119). -/
theorem test_signal_saturates : ∃ t, exec (.tsig 0 255 2) (exe.setFld (clTokenCount 0 255) 0xFFFE) = .next t ∧ t.fld (clTokenCount 0 255) = 0xFFFF :=
  ⟨_, rfl, by decide +kernel⟩
/-- The write of a reserved address changes nothing (R14). -/
theorem test_misaligned_write : exec (.registerWrite .custodian 4 8 1) up = .next up := by rfl
/-- Reset: the tick is 64 µs long, the engines saturate and are idle (reset of XE_MODE), nothing is listed (R12). -/
theorem test_reset : State.reset.fld ctTickLenUs = 64 ∧ State.reset.reg (xeModeReg 127) = 3 ∧ State.reset.fld (xeModeState 127) = 0 ∧ State.reset.mem.bytes = [] := by decide +kernel

/-! Words and commands: no row of the opcode table has bits, and what is not well formed is refused by name. -/

theorem test_no_word_spells_a_command : decodeTableWord 32 0 = none := rfl
theorem test_wf_block_length : (Instr.blk 0 .toScratch 1 2 8388609 true).wellFormed = false ∧ (Instr.blk 0 .toScratch 1 2 8388608 true).wellFormed = true := by
  decide
theorem test_wf_branch : (Instr.branch 0 (.cond .add 1 2 0)).wellFormed = false ∧ (Instr.branch 0 (.jump 32768)).wellFormed = false
    ∧ (Instr.branch 0 (.call 1 32768)).wellFormed = false ∧ (Instr.branch 0 (.cond .eq 1 2 32767)).wellFormed = true := by decide
theorem test_wf_vector : (Instr.vectorArithmetic 0 (.cvt .f32) .f32 false 1 2 3).wellFormed = false := by decide
theorem test_wf_times : (Instr.twait 0 0 0 1000001).wellFormed = false ∧ (Instr.tmark 0 1000001).wellFormed = false
    ∧ (Instr.qpush 0 1 0 2 65536 0).wellFormed = false := by decide
theorem test_wf_accessors : (Instr.hpDoorbell (.vf 0 0) 0 0 0).wellFormed = false ∧ (Instr.hpDoorbell (.vf 0 255) 0 0 0).wellFormed = true := by decide
theorem test_wf_register_write : (Instr.registerWrite .custodian 4 8 0).wellFormed = false ∧ (Instr.registerWrite .custodian 0 2 0).wellFormed = false
    ∧ (Instr.registerWrite .custodian (2 ^ 40) 8 0).wellFormed = false ∧ (Instr.registerWrite .custodian 4 4 0).wellFormed = true := by decide
theorem test_wf_messages : (Instr.credit 0 0 0 65536).wellFormed = false ∧ (Instr.poolAdv 0 32768 0 false).wellFormed = false
    ∧ (Instr.poolRet 0 32768 0).wellFormed = false ∧ (Instr.ident 0 { ident0 with module := 4096 }).wellFormed = false
    ∧ (Instr.announce 0 4096 0 2 0 0).wellFormed = false ∧ (Instr.exit 0 0 256 0).wellFormed = false
    ∧ (Instr.ctick 0 0 (2 ^ 32) 0).wellFormed = false ∧ (Instr.flitReceive 0 { flit0 with seq := 65536 }).wellFormed = false
    ∧ (Instr.ctickSend 0 65536).wellFormed = false := by decide
theorem test_wf_time : (Instr.time 0 { n := 256, nLast := 0, t1Prev := 0, t2Last := 0, depth := 0, pri := 0, root := 0, tick := 0, bound := 0, cum := 0, tickUs := 64, arrive := 0 }).wellFormed
    = false := by decide
theorem test_wf_packets : (Instr.queuePacket 0 packet0).wellFormed = false ∧ (Instr.write 0 { packet0 with poison := [false, false] }).wellFormed = true
    ∧ (Instr.readReq 0 { packet0 with poison := [false, false] }).wellFormed = false
    ∧ (Instr.readResp 0 { packet0 with poison := [false, false] }).wellFormed = false
    ∧ (Instr.shardReq 0 packet0).wellFormed = false ∧ (Instr.shardData 0 packet0).wellFormed = false ∧ (Instr.shardNone 0 packet0).wellFormed = false := by
  decide +kernel
theorem test_wf_counts : (Instr.sensorSample []).wellFormed = false ∧ (Instr.recalibration 0 0 [] [] 0 0 true).wellFormed = false
    ∧ (Instr.exactJobComplete 0 [{ row := 4096, col := 0, persistent := false }]).wellFormed = false ∧ (Instr.hbmStackHot 0 32768).wellFormed = false := by decide
theorem test_wf_management : (Instr.readLog mgmt0 0 65536).wellFormed = false ∧ (Instr.setAlert mgmt0 256).wellFormed = false
    ∧ (Instr.mctpControl mgmt0 256 0).wellFormed = false ∧ (Instr.getPldmCommands mgmt0 256).wellFormed = false
    ∧ (Instr.getSensorReading mgmt0 65536).wellFormed = false ∧ (Instr.getStateSensorReadings mgmt0 65536).wellFormed = false
    ∧ (Instr.updateComponent mgmt0 .keys (2 ^ 32)).wellFormed = false := by decide

end Sys2Proof.Tests
end

section
/-! PROOFS. The shelver's query registers (R50, R280): the word with which a query is answered, what the answer leaves as it was, and
the fields each of the three queries puts into it. -/
namespace Sys2Proof.Machine
open Sys2Proof

/-! Fields of a word packed from a lower and an upper part. -/

/-- The lower part of a packed number reads back. -/
theorem bitsOf_mul_two_pow_add_low (k : Nat) {n q : Nat} (hq : q < 2 ^ n) : bitsOf (k * 2 ^ n + q) 0 n = q := by
  rw [bitsOf, Nat.shiftRight_zero, Nat.mul_comm, Nat.mul_add_mod, Nat.mod_eq_of_lt hq]

/-- A field above the lower part of a packed number is a field of the upper part. -/
theorem bitsOf_mul_two_pow_add_high (k lo w : Nat) {n q : Nat} (hq : q < 2 ^ n) :
    bitsOf (k * 2 ^ n + q) (n + lo) w = bitsOf k lo w := by
  have hn : (k * 2 ^ n + q) >>> n = k := by
    rw [Nat.shiftRight_eq_div_pow, Nat.mul_comm, Nat.mul_add_div (Nat.two_pow_pos n), Nat.div_eq_of_lt hq, Nat.add_zero]
  rw [bitsOf, Nat.shiftRight_add, hn, bitsOf]

theorem mul_two_pow_add_lt {k m n q : Nat} (hk : k < 2 ^ m) (hq : q < 2 ^ n) : k * 2 ^ n + q < 2 ^ (m + n) := by
  calc k * 2 ^ n + q < k * 2 ^ n + 2 ^ n := Nat.add_lt_add_left hq _
    _ = (k + 1) * 2 ^ n := (Nat.succ_mul k _).symm
    _ ≤ 2 ^ m * 2 ^ n := Nat.mul_le_mul_right _ hk
    _ = 2 ^ (m + n) := (Nat.pow_add 2 m n).symm

/-! The answered word: READY above 63 bits of fields. -/

theorem bitsOf_ready (y : Nat) (hy : y < 2 ^ 63) : bitsOf (BitVec.ofNat 64 (2 ^ 63 + y)).toNat 63 1 = 1 := by
  simp only [bitsOf, BitVec.toNat_ofNat, Nat.shiftRight_eq_div_pow]
  omega

/-- READY does not reach into the fields below it. -/
theorem bitsOf_below_ready (y : Nat) {lo w : Nat} (h : lo + w ≤ 63) :
    bitsOf (BitVec.ofNat 64 (2 ^ 63 + y)).toNat lo w = bitsOf y lo w := by
  apply Nat.eq_of_testBit_eq
  intro i
  rw [testBit_bitsOf, testBit_bitsOf, BitVec.toNat_ofNat, Nat.testBit_mod_two_pow]
  by_cases hi : i < w
  · rw [Nat.testBit_two_pow_add_gt (by omega)]
    simp [hi, show lo + i < 64 by omega]
  · simp [hi]

/-! What an answer does to the state. -/

section Answer
variable (s : State) {acc : Accessor} (hacc : ∀ p f, acc ≠ .vf p f) (o : Nat)
include hacc

/-- A port's or the custodian's answer is one write, of the copy of the register that is its own. -/
theorem State.answer_eq_setReg (w : Nat) : s.answer acc o w = s.setReg (instOff (accNum acc) o) (BitVec.ofNat 64 w) := by
  cases acc with
  | vf p f => exact absurd rfl (hacc p f)
  | custodian => rfl
  | host p => rfl

theorem State.reg_answer_same (w : Nat) : (s.answer acc o w).reg (instOff (accNum acc) o) = BitVec.ofNat 64 w := by
  rw [s.answer_eq_setReg hacc, State.reg_setReg_same]

theorem State.answer_frame (w : Nat) :
    sameControlSpaceBut s (s.answer acc o w) (instOff (accNum acc) o) ∧ (s.answer acc o w).mem = s.mem
      ∧ (s.answer acc o w).sh = s.sh := by
  rw [s.answer_eq_setReg hacc]
  exact ⟨fun _ h => State.reg_setReg_ne s _ h, State.setReg_mem .., State.setReg_sh ..⟩

/-- An answer of result fields k above a query of n bits has READY set and keeps the query. -/
theorem State.answer_ready_query {k m n q : Nat} (hk : k < 2 ^ m) (hq : q < 2 ^ n) (hmn : m + n = 63) :
    bitsOf ((s.answer acc o (2 ^ 63 + (k * 2 ^ n + q))).reg (instOff (accNum acc) o)).toNat 63 1 = 1
      ∧ bitsOf ((s.answer acc o (2 ^ 63 + (k * 2 ^ n + q))).reg (instOff (accNum acc) o)).toNat 0 n = q := by
  rw [s.reg_answer_same hacc]
  exact ⟨bitsOf_ready _ (hmn ▸ mul_two_pow_add_lt hk hq),
    (bitsOf_below_ready _ (by omega)).trans (bitsOf_mul_two_pow_add_low k hq)⟩

/-- A field above the query of an answer is a field of its result. -/
theorem State.answer_result_field {k n q lo w : Nat} (hq : q < 2 ^ n) (h : n + lo + w ≤ 63) :
    bitsOf ((s.answer acc o (2 ^ 63 + (k * 2 ^ n + q))).reg (instOff (accNum acc) o)).toNat (n + lo) w = bitsOf k lo w := by
  rw [s.reg_answer_same hacc, bitsOf_below_ready _ h, bitsOf_mul_two_pow_add_high k lo w hq]

end Answer

/-! SH_VOLUME_STATE. -/

theorem bitNat_lt (b : Bool) : bitNat b < 2 := by cases b <;> decide

theorem volCode_lt (st : VolState) : volCode st < 16 := by cases st <;> decide

/-- Bits [62:14] of SH_VOLUME_STATE for a volume that the accessor sees, VISIBLE to RES. -/
def volumeFields (x : Volume) : Nat :=
  2 ^ 48 + volCode x.st * 2 ^ 44 + x.reason % 16 * 2 ^ 40 + x.part % 16 * 2 ^ 36 + x.version % 65536 * 2 ^ 20 + bitNat x.lib * 2 ^ 19
    + bitNat x.pin * 2 ^ 18 + x.done.length % 2 ^ 17 * 2 + bitNat x.resident

theorem volumeFields_lt (x : Volume) : volumeFields x < 2 ^ 49 := by
  have := volCode_lt x.st
  have := bitNat_lt x.lib
  have := bitNat_lt x.pin
  have := bitNat_lt x.resident
  unfold volumeFields
  omega

theorem volumeFields_fields (x : Volume) :
    bitsOf (volumeFields x) 48 1 = 1 ∧ bitsOf (volumeFields x) 44 4 = volCode x.st ∧ bitsOf (volumeFields x) 20 16 = x.version % 65536 := by
  have := volCode_lt x.st
  have := bitNat_lt x.lib
  have := bitNat_lt x.pin
  have := bitNat_lt x.resident
  simp only [bitsOf, Nat.shiftRight_eq_div_pow, volumeFields]
  omega

/-- Bits [62:14] of the accessor's SH_VOLUME_STATE for a handle. -/
def State.volumeResult (s : State) (acc : Accessor) (h : Nat) : Nat :=
  if (s.vol h).st ≠ .absent ∧ s.accSees acc (s.vol h).part then volumeFields (s.vol h) else 0

theorem State.volumeResult_lt (s : State) (acc : Accessor) (h : Nat) : s.volumeResult acc h < 2 ^ 49 := by
  unfold State.volumeResult
  split
  · exact volumeFields_lt _
  · decide

theorem State.volumeResult_hidden (s : State) (acc : Accessor) (h : Nat)
    (hid : (s.vol h).st = .absent ∨ s.accSees acc (s.vol h).part = false) : s.volumeResult acc h = 0 :=
  if_neg fun ⟨hst, hsee⟩ => hid.elim hst fun hf => Bool.false_ne_true (hf.symm.trans hsee)

theorem State.volumeResult_seen (s : State) (acc : Accessor) (h : Nat) (hst : (s.vol h).st ≠ .absent)
    (hsee : s.accSees acc (s.vol h).part = true) : s.volumeResult acc h = volumeFields (s.vol h) :=
  if_pos ⟨hst, hsee⟩

theorem exec_shVolumeStateQuery (s : State) (acc : Accessor) (v : W64) :
    exec (.shVolumeStateQuery acc v) s = .next (s.answer acc shVolumeStateReg
      (2 ^ 63 + (s.volumeResult acc (bitsOf v.toNat 0 14) * 2 ^ 14 + bitsOf v.toNat 0 14))) := by
  change execShVolumeStateQuery acc v s = _
  simp only [execShVolumeStateQuery, State.volumeResult, volumeFields]
  congr 2
  split <;> omega

/-! SH_LOAN_COUNT and SH_MAP_QUERY. -/

theorem aslotCode_lt (st : ASlotState) : aslotCode st < 8 := by cases st <;> decide

theorem xstCode_lt (st : XState) : xstCode st < 8 := by cases st <;> decide

/-- A result that lies above the n bits of the query makes the answered word. -/
theorem next_answer_of_result {s : State} {acc : Accessor} {o m n r q : Nat} (h : ∃ k < 2 ^ m, r = k * 2 ^ n) :
    ∃ k < 2 ^ m, Host.Outcome.next (φ := Fault) (ρ := Refusal) (s.answer acc o (2 ^ 63 + r + q))
      = .next (s.answer acc o (2 ^ 63 + (k * 2 ^ n + q))) := by
  obtain ⟨k, hk, rfl⟩ := h
  exact ⟨k, hk, by rw [Nat.add_assoc]⟩

/-- What the accessor may not see reads all zeros, which lie above the query too. -/
theorem ite_zero_above {m n r : Nat} (c : Prop) [Decidable c] (h : ∃ k < 2 ^ m, r = k * 2 ^ n) :
    ∃ k < 2 ^ m, (if c then r else 0) = k * 2 ^ n := by
  split
  · exact h
  · exact ⟨0, Nat.two_pow_pos m, (Nat.zero_mul _).symm⟩

/-- KIND and INDEX together are the 15 bits of the query. -/
theorem bitsOf_kind_index (v : Nat) : bitsOf v 14 1 * 2 ^ 14 + bitsOf v 0 14 = bitsOf v 0 15 := by
  simp only [bitsOf, Nat.shiftRight_eq_div_pow]
  omega

/-- VISIBLE, ASTATE, GEN and LOANS of SH_LOAN_COUNT lie in 48 bits above its query. -/
theorem loanFields_above {ast : Nat} (gen loans : Nat) (hast : ast < 8) :
    ∃ k < 2 ^ 48, 2 ^ 62 + ast * 2 ^ 59 + gen % 65536 * 2 ^ 43 + loans % 2 ^ 24 * 2 ^ 19 = k * 2 ^ 15 :=
  ⟨2 ^ 47 + ast * 2 ^ 44 + gen % 65536 * 2 ^ 28 + loans % 2 ^ 24 * 2 ^ 4, by omega, by omega⟩

theorem exec_shLoanCountQuery (s : State) (acc : Accessor) (v : W64) :
    ∃ k < 2 ^ 48, exec (.shLoanCountQuery acc v) s
      = .next (s.answer acc shLoanCountReg (2 ^ 63 + (k * 2 ^ 15 + bitsOf v.toNat 0 15))) := by
  change ∃ k < 2 ^ 48, execShLoanCountQuery acc v s = _
  simp only [execShLoanCountQuery, Nat.add_assoc _ (_ * 2 ^ 14), bitsOf_kind_index]
  apply next_answer_of_result
  split
  case isTrue => exact ite_zero_above _ (by simpa using loanFields_above (ast := 0) _ _ (by decide))
  case isFalse => exact ite_zero_above _ (loanFields_above _ _ (aslotCode_lt _))

/-- The result fields of SH_MAP_QUERY, each below its width, lie in 47 bits above its query. -/
theorem mapFields_above {st wr tw px pc stale sec : Nat} (hst : st < 8) (hwr : wr < 2 ^ 17) (htw : tw < 32) (hpx : px < 32)
    (hpc : pc < 64) (hstale : stale < 2) (hsec : sec < 512) :
    ∃ k < 2 ^ 47, 2 ^ 62 + st * 2 ^ 59 + wr * 2 ^ 42 + tw * 2 ^ 37 + px * 2 ^ 32 + pc * 2 ^ 26 + stale * 2 ^ 25 + sec * 2 ^ 16
      = k * 2 ^ 16 :=
  ⟨2 ^ 46 + st * 2 ^ 43 + wr * 2 ^ 26 + tw * 2 ^ 21 + px * 2 ^ 16 + pc * 2 ^ 10 + stale * 2 ^ 9 + sec, by omega, by omega⟩

theorem exec_shMapQuery (s : State) (acc : Accessor) (v : W64) :
    ∃ k < 2 ^ 47, exec (.shMapQuery acc v) s
      = .next (s.answer acc shMapQueryReg (2 ^ 63 + (k * 2 ^ 16 + bitsOf v.toNat 0 16))) := by
  change ∃ k < 2 ^ 47, execShMapQuery acc v s = _
  apply next_answer_of_result
  refine ite_zero_above _ (mapFields_above (xstCode_lt _) ?writes ?twin ?pxb ?pcore (bitNat_lt _) ?sec)
  case writes => exact Nat.lt_of_le_of_lt (Nat.min_le_right _ _) (by decide)
  case twin => split <;> omega
  case pxb => omega
  case pcore => exact Nat.mod_lt _ (by decide)
  case sec => exact Nat.mod_lt _ (by decide)

/-! The three queries together. -/

/-- Settles O43: each answer is one write of the accessor's own copy of the register, and its word is READY above the result above the query. -/
theorem queriesAnswerInTheirOwnInstance : Obligations.QueriesAnswerInTheirOwnInstance := by
  intro s acc v hacc h
  have hh : h < 2 ^ 14 := bitsOf_lt _ _ _
  refine ⟨⟨_, exec_shVolumeStateQuery s acc v, ?_⟩, ?_, ?_⟩
  · obtain ⟨hready, hquery⟩ := s.answer_ready_query hacc shVolumeStateReg (s.volumeResult_lt acc h) hh rfl
    have hfield (lo w : Nat) := s.answer_result_field hacc shVolumeStateReg (k := s.volumeResult acc h) (lo := lo) (w := w) hh
    refine ⟨hready, hquery, fun hid => ?_, fun hst hsee => ?_, s.answer_frame hacc _ _⟩
    · rw [hfield 0 49 (by omega), s.volumeResult_hidden acc h hid]
      rfl
    · obtain ⟨hvisible, hstate, hversion⟩ := volumeFields_fields (s.vol h)
      rw [← s.volumeResult_seen acc h hst hsee] at hvisible hstate hversion
      exact ⟨(hfield 48 1 (by omega)).trans hvisible, (hfield 44 4 (by omega)).trans hstate,
        (hfield 20 16 (by omega)).trans hversion⟩
  · obtain ⟨k, hk, hexec⟩ := exec_shLoanCountQuery s acc v
    obtain ⟨hready, hquery⟩ := s.answer_ready_query hacc shLoanCountReg hk (bitsOf_lt v.toNat 0 15) rfl
    exact ⟨_, hexec, hready, hquery, s.answer_frame hacc _ _⟩
  · obtain ⟨k, hk, hexec⟩ := exec_shMapQuery s acc v
    obtain ⟨hready, hquery⟩ := s.answer_ready_query hacc shMapQueryReg hk (bitsOf_lt v.toNat 0 16) rfl
    exact ⟨_, hexec, hready, hquery, s.answer_frame hacc _ _⟩

end Sys2Proof.Machine
end

section
/-! PROOFS. Phases, charges and codes of a crossbar (R60 to R70, R79): the phases that the greedy split forms, the bound they put on a
column's charge and on its ideal code, and a vector without phases. -/
namespace Sys2Proof.Machine
open Sys2Proof

/-! The phases of a vector (R62 to R64). -/

/-- A phase of slice i over rows with slice values m: its activity is the sum over the rows it drives and lies from 1 to 384 (R64). -/
structure Phase.Formed (m : Nat → Nat) (i : Nat) (p : Phase) : Prop where
  slice_eq : p.slice = i
  act_eq : p.act = (p.rows.map m).sum
  act_pos : 1 ≤ p.act
  act_le : p.act ≤ 384

/-- Closing the phase under construction forms one. -/
theorem Phase.formed_of_rows {m : Nat → Nat} {rows : List Nat} {acc : Nat} (i num : Nat) (hsum : acc = (rows.map m).sum)
    (hpos : 1 ≤ acc) (hle : acc ≤ 384) : Phase.Formed m i ⟨i, num, rows.reverse, acc⟩ where
  slice_eq := rfl
  act_eq := by rw [List.map_reverse, List.sum_reverse]; exact hsum
  act_pos := hpos
  act_le := hle

theorem splitRows_formed {m : Nat → Nat} {i : Nat} {p : Phase} (l : List (Nat × Nat)) (num : Nat) (rows : List Nat) (acc : Nat)
    (hl : ∀ e ∈ l, e.2 = m e.1 ∧ e.2 ≤ 384) (hsum : acc = (rows.map m).sum) (hle : acc ≤ 384)
    (hp : p ∈ splitRows i l num rows acc) : p.Formed m i := by
  induction l generalizing num rows acc with
  | nil =>
    rw [splitRows] at hp
    split at hp
    case isTrue => exact absurd hp List.not_mem_nil
    case isFalse h => exact List.eq_of_mem_singleton hp ▸ Phase.formed_of_rows i num hsum (by omega) hle
  | cons e l ih =>
    obtain ⟨r, a⟩ := e
    obtain ⟨⟨ha, hale⟩, hl⟩ := List.forall_mem_cons.mp hl
    simp only at ha hale
    rw [splitRows] at hp
    split at hp
    case isTrue h =>
      rcases List.mem_cons.mp hp with rfl | hp
      · exact Phase.formed_of_rows i num hsum (by omega) hle
      · exact ih (num + 1) [r] a hl (by simpa using ha) hale hp
    case isFalse h => exact ih num (r :: rows) (acc + a) hl (by simp [hsum, ha, Nat.add_comm]) (by omega) hp

theorem sliceOf_lt (x : Int) (i : Nat) : sliceOf x i < 4 := bitsOf_lt _ _ _

theorem slicePhases_formed {f : InFmt} {v : List Byte} {i : Nat} {p : Phase} (hp : p ∈ slicePhases f v i) :
    p.Formed (fun r => sliceOf (element f v r) i) i := by
  refine splitRows_formed _ 0 [] 0 (fun e he => ?_) rfl (Nat.zero_le _) hp
  obtain ⟨r, -, rfl⟩ := List.mem_map.mp (List.mem_filter.mp he).1
  have := sliceOf_lt (element f v r) i
  exact ⟨rfl, by simp only; omega⟩

theorem vecPhases_eq_flatMap (f : InFmt) (v : List Byte) :
    vecPhases f v = (List.range (sliceCount f)).flatMap (slicePhases f v) := List.flatMap_eq_foldl.symm

theorem vecPhases_formed {f : InFmt} {v : List Byte} {p : Phase} (hp : p ∈ vecPhases f v) :
    p.Formed (fun r => sliceOf (element f v r) p.slice) p.slice := by
  rw [vecPhases_eq_flatMap] at hp
  obtain ⟨i, -, hp⟩ := List.mem_flatMap.mp hp
  have h := slicePhases_formed hp
  exact h.slice_eq.symm ▸ h

/-! A column's charge (R61). -/

theorem natAbs_foldl_le {g : Int → Nat → Int} {k : Nat} {b : Nat → Nat} (h : ∀ q r, (g q r).natAbs ≤ q.natAbs + k * b r)
    (l : List Nat) (q : Int) : (l.foldl g q).natAbs ≤ q.natAbs + k * (l.map b).sum := by
  induction l generalizing q with
  | nil => exact Nat.le_add_right _ _
  | cons r l ih =>
    have hr := h q r
    have hl := ih (g q r)
    rw [List.foldl_cons, List.map_cons, List.sum_cons, Nat.mul_add]
    omega

/-- With levels of at most 15 the charge is at most 15 for each unit of activity (R66). -/
theorem columnCharge_natAbs_le {level : Nat → Nat → Nat} {f : InFmt} {v : List Byte} {p : Phase} {c : Nat}
    (hp : p.Formed (fun r => sliceOf (element f v r) p.slice) p.slice) (hlevel : ∀ r, level r c ≤ 15) :
    (columnCharge level f v p c).natAbs ≤ 15 * p.act := by
  rw [hp.act_eq, ← Nat.zero_add (15 * _)]
  refine natAbs_foldl_le (fun q r => ?_) p.rows 0
  have hm : sliceOf (element f v r) p.slice * level r c ≤ 15 * sliceOf (element f v r) p.slice := by
    rw [Nat.mul_comm]
    exact Nat.mul_le_mul_right _ (hlevel r)
  dsimp only
  split <;> omega

/-! Rounding and the ideal code (R70). -/

/-- Rounding gives the quotient, or the next integer where the remainder is at least half the divisor. -/
theorem divRNE_cases (n : Int) (d : Nat) : divRNE n d = n / d ∨ (divRNE n d = n / d + 1 ∧ (d : Int) ≤ 2 * (n % d)) := by
  unfold divRNE
  dsimp only
  split
  case isTrue => exact .inl rfl
  case isFalse hhalf =>
    have hhalf := Int.not_lt.mp hhalf
    split
    case isTrue => exact .inr ⟨rfl, hhalf⟩
    case isFalse =>
      split
      case isTrue => exact .inl rfl
      case isFalse => exact .inr ⟨rfl, hhalf⟩

theorem le_divRNE {n k : Int} {d : Nat} (hd : 0 < d) (h : k * d ≤ n) : k ≤ divRNE n d := by
  have hq : k ≤ n / d := Int.le_ediv_of_mul_le (by omega) h
  rcases divRNE_cases n d with hdown | ⟨hup, -⟩ <;> omega

theorem divRNE_le {n k : Int} {d : Nat} (hd : 0 < d) (h : n ≤ k * d) : divRNE n d ≤ k := by
  have hd' : (0 : Int) < d := by omega
  rcases Int.lt_or_eq_of_le h with hlt | rfl
  · have hq : n / d < k := Int.ediv_lt_of_lt_mul hd' hlt
    rcases divRNE_cases n d with hdown | ⟨hup, -⟩ <;> omega
  · rcases divRNE_cases (k * d) d with hdown | ⟨-, hhalf⟩
    · exact Int.le_of_eq (hdown.trans (Int.mul_ediv_cancel k (by omega)))
    · rw [Int.mul_emod_left] at hhalf
      omega

theorem clamp_of_mem {lo hi x : Int} (hlo : lo ≤ x) (hhi : x ≤ hi) : clamp lo hi x = x := by
  rw [clamp, if_neg (by omega), if_neg (by omega)]

/-- A charge within 360 times the range code is within the converter's range: its code is not clamped (R66, R70). -/
theorem idealCode_of_natAbs_le {q : Int} {h : Nat} (hpos : 1 ≤ h) (hq : q.natAbs ≤ 360 * h) :
    idealCode q h = divRNE (q * 7) (40 * h) := by
  have hlo : -63 ≤ divRNE (q * 7) (40 * h) := le_divRNE (by omega) (by omega)
  have hhi : divRNE (q * 7) (40 * h) ≤ 63 := divRNE_le (by omega) (by omega)
  exact clamp_of_mem (by omega) hhi

/-- Settles O28: every phase of the greedy split has an activity from 1 to 384, and that bounds the charge by what the range code can convert. -/
theorem phasesStayInConverterRange : Obligations.PhasesStayInConverterRange := by
  intro f v p hp
  have hform := vecPhases_formed hp
  have hpos := hform.act_pos
  have hle := hform.act_le
  have hrange : 1 ≤ rangeCode p.act ∧ rangeCode p.act ≤ 16 ∧ 15 * p.act ≤ 360 * rangeCode p.act := by
    unfold rangeCode
    omega
  obtain ⟨hr1, hr16, hfull⟩ := hrange
  refine ⟨hpos, hle, rfl, hr1, hr16, fun level c hlevel => ?_⟩
  have hcharge := columnCharge_natAbs_le (c := c) hform hlevel
  exact ⟨hcharge, hfull, idealCode_of_natAbs_le hr1 (Nat.le_trans hcharge hfull)⟩

/-! A vector of zeros (R63, R79). -/

theorem sliceOf_zero (i : Nat) : sliceOf 0 i = 0 := by simp [sliceOf, bitsOf]

theorem vecPhases_of_zeros {f : InFmt} {v : List Byte} (h : ∀ r, r < 512 → element f v r = 0) : vecPhases f v = [] := by
  have hslice (i : Nat) : slicePhases f v i = [] := by
    have hrows : (((List.range 512).map fun r => (r, sliceOf (element f v r) i)).filter fun e => decide (e.2 ≠ 0)) = [] := by
      refine List.filter_eq_nil_iff.mpr fun e he => ?_
      obtain ⟨r, hr, rfl⟩ := List.mem_map.mp he
      simp [h r (List.mem_range.mp hr), sliceOf_zero]
    rw [slicePhases, hrows]
    rfl
  rw [vecPhases_eq_flatMap, List.flatMap_eq_nil_iff]
  exact fun i _ => hslice i

/-- Without phases no period adds to the partial sums (R77). -/
theorem State.partialSums_of_no_phases (s : State) (x : Nat) {p : Product} (h : vecPhases p.fmt p.vec = []) :
    s.partialSums x p = List.replicate (weightCols p.prec) 0 := by
  rw [State.partialSums, h]
  rfl

theorem outOf_zero : outOf 0 = 0 := by decide

/-- Settles O29: zeros drive no row, so there is no phase and every partial sum stays 0. -/
theorem zeroVectorGivesExactZeros : Obligations.ZeroVectorGivesExactZeros := by
  intro s x p hkind hverdict hzero
  have hphases := vecPhases_of_zeros hzero
  refine ⟨hphases, ?_⟩
  rw [State.productOut, hkind, hverdict]
  simp only [s.partialSums_of_no_phases x hphases, List.map_replicate, outOf_zero]

end Sys2Proof.Machine
end

section
/-! PROOFS. The index check and its re-evaluation (R80 to R88, R431, R436): codes of −64, what a second conversion writes, and how it settles
the check. -/
namespace Sys2Proof.Machine
open Sys2Proof

/-! Saturating counters. -/

/-- A saturating counter reads its count held at the largest value of its field. -/
theorem State.fld_incSat_same (s : State) {f : Fld} (n : Nat) (h : f.lo + f.w ≤ 64) :
    (s.incSat f n).fld f = min (s.fld f + n) (2 ^ f.w - 1) := by
  have := Nat.two_pow_pos f.w
  rw [State.incSat, s.fld_setFld_same f _ h]
  exact Nat.mod_eq_of_lt (Nat.lt_of_le_of_lt (Nat.min_le_right _ _) (by omega))

/-! Codes of −64 (R88). -/

theorem underrange_pos {codes : List Int} {g c : Nat} (hc : c = idxCol g ∨ c = refCol g ∨ (64 * g ≤ c ∧ c < 64 * g + 64))
    (hcode : codes.getD c 0 = -64) : 0 < underrange codes g := by
  refine List.countP_pos_iff.mpr ⟨c, List.mem_append.mpr ?_, decide_eq_true hcode⟩
  rcases hc with hidx | href | hdata
  · exact .inr (by simp [hidx])
  · exact .inr (by simp [href])
  · exact .inl (List.mem_map.mpr ⟨c - 64 * g, List.mem_range.mpr (by omega), by omega⟩)

theorem groupFails_of_underrange {codes : List Int} {idxOff g : Nat} (vals : List Int) (quality : Nat) (p : Phase)
    (hu : 0 < underrange codes g) : groupFails codes vals quality idxOff p g = !bitOf idxOff g := by
  rw [groupFails, decide_eq_true hu, Bool.or_true, Bool.and_true]

theorem underrange_le_periodUnderrange (codes : List Int) {g : Nat} (hg : g < 8) : underrange codes g ≤ periodUnderrange codes := by
  obtain ⟨before, after, hsplit⟩ := List.append_of_mem (List.mem_map_of_mem (f := underrange codes) (List.mem_range.mpr hg))
  rw [periodUnderrange, sumNat, ← List.sum_eq_foldl_nat, hsplit, List.sum_append_nat, List.sum_cons]
  omega

theorem State.fld_countUnderrange (s : State) (x : Nat) (codes : List Int) :
    (s.countUnderrange x codes).fld (xbCheckUnderrange (xbCluster x) (xbSlot x))
      = min (s.fld (xbCheckUnderrange (xbCluster x) (xbSlot x)) + periodUnderrange codes)
          (2 ^ (xbCheckUnderrange (xbCluster x) (xbSlot x)).w - 1) :=
  s.fld_incSat_same _ (by decide : 48 + 8 ≤ 64)

/-- Settles O30: the code is one of the group's 66, so the group's UNDERRANGE count is at least 1, and so is the period's. -/
theorem underrangeFailsTheGroup : Obligations.UnderrangeFailsTheGroup := by
  intro codes vals quality idxOff p g c hc hcode
  have hu := underrange_pos hc hcode
  have hfails := groupFails_of_underrange (idxOff := idxOff) vals quality p hu
  refine ⟨hu, fun hon => by simp [hfails, hon], fun hoff => by simp [hfails, hoff], fun s x hg => ?_⟩
  have hsum := underrange_le_periodUnderrange codes hg
  rw [s.fld_countUnderrange]
  omega

/-! Writes to the registers of a cluster's window. -/

/-- t is s but for registers at offsets from b on. -/
structure State.RegsFrom (b : Nat) (s t : State) : Prop where
  rest : t = { s with regs := t.regs }
  below : ∀ o < b, t.reg o = s.reg o

namespace State.RegsFrom
variable {b : Nat} {s t : State}

theorem core_eq (h : RegsFrom b s t) : t.core = s.core := by rw [h.rest]
theorem mem_eq (h : RegsFrom b s t) : t.mem = s.mem := by rw [h.rest]
theorem xb_eq (h : RegsFrom b s t) : t.xb = s.xb := by rw [h.rest]
theorem cl_eq (h : RegsFrom b s t) : t.cl = s.cl := by rw [h.rest]

theorem refl (b : Nat) (s : State) : RegsFrom b s s := ⟨rfl, fun _ _ => rfl⟩

theorem setFld (h : RegsFrom b s t) {f : Fld} (hf : b ≤ f.off) (v : Nat) : RegsFrom b s (t.setFld f v) where
  rest := by
    conv => lhs; rw [h.rest]
    rfl
  below o ho := (t.reg_setFld_ne f v (by omega)).trans (h.below o ho)

theorem incSat (h : RegsFrom b s t) {f : Fld} (hf : b ≤ f.off) (n : Nat) : RegsFrom b s (t.incSat f n) := h.setFld hf _

end State.RegsFrom

/-- The check's counts stand in the window of the crossbar's cluster (R81). -/
theorem State.RegsFrom.countFails {s t : State} {x : Nat} (h : RegsFrom (clBase (xbCluster x)) s t) (ph : Phase) (vals : List Int)
    (fails : List Nat) : RegsFrom (clBase (xbCluster x)) s (t.countFails x ph vals fails) := by
  have hcheck : clBase (xbCluster x) ≤ xbCheckReg (xbCluster x) (xbSlot x) := Nat.le_add_right_of_le (Nat.le_add_right _ _)
  have hlast : clBase (xbCluster x) ≤ xbLastCheckReg (xbCluster x) (xbSlot x) := Nat.le_add_right_of_le (Nat.le_add_right _ _)
  have hcount := h.incSat (f := xbCheckCheckFails (xbCluster x) (xbSlot x)) hcheck fails.length
  unfold State.countFails
  cases fails.getLast? with
  | none => exact hcount
  | some g =>
    exact ((((((hcount.setFld hlast _).setFld hlast _).setFld hlast _).setFld hlast _).setFld hlast _).setFld hlast _).setFld hlast _

/-! What conversions, checks and the policy read. -/

theorem State.servingXb_congr {s t : State} (hregs : t.regs = s.regs) (hxb : t.xb = s.xb) (x : Nat) : t.servingXb x = s.servingXb x := by
  simp only [State.servingXb, State.mappedXb, State.corePhys, State.pcoreOf, State.physCluster, State.fld_congr hregs, hxb]

theorem State.prodCodes_congr {s t : State} (hregs : t.regs = s.regs) (hxb : t.xb = s.xb) (x : Nat) (p : Product) (ph : Phase)
    (base : Nat) : t.prodCodes x p ph base = s.prodCodes x p ph base := by
  have hlevel : t.level = s.level := by unfold State.level; rw [hxb]
  rw [State.prodCodes, State.prodCodes, State.servingXb_congr hregs hxb, hlevel]

theorem State.prodValues_congr {s t : State} (hregs : t.regs = s.regs) (hxb : t.xb = s.xb) (x : Nat) (codes : List Int) :
    t.prodValues x codes = s.prodValues x codes := by
  have hcorr : t.corr = s.corr := by unfold State.corr; rw [hxb]
  rw [State.prodValues, State.prodValues, State.servingXb_congr hregs hxb, hcorr]

theorem State.failGroups_congr {s t : State} {x : Nat}
    (h : t.reg (xbStatReg (xbCluster x) (xbSlot x)) = s.reg (xbStatReg (xbCluster x) (xbSlot x))) (ph : Phase) (codes vals : List Int) :
    t.failGroups x ph codes vals = s.failGroups x ph codes vals := by
  simp only [State.failGroups, State.fld, xbStatQuality, xbStatIdxOff, h]

theorem find?_eq_of_forall_mem {α : Type} {p q : α → Bool} {l : List α} (h : ∀ a ∈ l, p a = q a) : l.find? p = l.find? q := by
  induction l with
  | nil => rfl
  | cons a l ih =>
    obtain ⟨ha, hl⟩ := List.forall_mem_cons.mp h
    rw [List.find?_cons, List.find?_cons, ha, ih hl]

/-- The policy of a crossbar's partition stands in registers below the clusters' windows (R434). -/
theorem State.policyOf_congr {s t : State} (h : ∀ o < 0x1000000, t.reg o = s.reg o) (x : Nat) : t.policyOf x = s.policyOf x := by
  have hpart : t.partOf (xbCluster x) = s.partOf (xbCluster x) := by
    refine find?_eq_of_forall_mem fun n hn => ?_
    have hn := List.mem_range.mp hn
    have hfld (f : Fld) (hf : f.off = btPartReg n) : t.fld f = s.fld f := by
      rw [State.fld, State.fld, hf, h (btPartReg n) (by unfold btPartReg; omega)]
    rw [State.owns, State.owns, State.flag, State.flag, hfld (btPartValid n) rfl, hfld (btPartFirst n) rfl, hfld (btPartCount n) rfl]
  unfold State.policyOf
  rw [hpart]
  split
  case h_1 n hn =>
    have hn : n < 16 := List.mem_range.mp (List.mem_of_find?_eq_some hn)
    simp only [State.fld, inPolicyPolicy, h (inPolicyReg n) (by unfold inPolicyReg; omega)]
  case h_2 => rfl

/-! RE_EVALUATION (R85, R431). -/

/-- The state in which the second conversion of a phase is checked: its time has passed, its free values are drawn, its codes of −64 are
counted (R88, R431). -/
def State.reconverted (s : State) (x : Nat) (p : Product) (ph : Phase) : State :=
  ((s.advance (Nat.min (p.t0 + 6 + 66 * (p.need + redoCount p) + 66) (s.tickNs - 1000))).draw 528).countUnderrange x
    (s.prodCodes x p ph s.free)

/-- The second conversion writes no register outside XB_CHECK, moves the clock and draws free values. -/
theorem State.reconverted_frame (s : State) (x : Nat) (p : Product) (ph : Phase) :
    (s.reconverted x p ph).core = s.core ∧ (s.reconverted x p ph).mem = s.mem ∧ (s.reconverted x p ph).xb = s.xb
      ∧ (s.reconverted x p ph).cl = s.cl
      ∧ ∀ o, o ≠ xbCheckReg (xbCluster x) (xbSlot x) → (s.reconverted x p ph).reg o = s.reg o := by
  simp only [State.reconverted, State.countUnderrange, State.incSat_core, State.incSat_mem, State.incSat_xb, State.incSat_cl,
    State.draw_core, State.draw_mem, State.draw_xb, State.draw_cl, State.advance_core, State.advance_mem, State.advance_xb,
    State.advance_cl, true_and]
  intro o ho
  rw [State.incSat, State.reg_setFld_ne _ _ _ ho]
  exact State.reg_congr (by rw [State.draw_regs, State.advance_regs]) o

/-- TRANSIENTS lies apart from UNDERRANGE. -/
theorem State.reconverted_fld_transients (s : State) (x : Nat) (p : Product) (ph : Phase) :
    (s.reconverted x p ph).fld (xbCheckTransients (xbCluster x) (xbSlot x)) = s.fld (xbCheckTransients (xbCluster x) (xbSlot x)) := by
  refine (State.fld_setFld_apart _ (xbCheckUnderrange _ _) (xbCheckTransients _ _) _ rfl (by decide : 32 + 16 ≤ 64)
    (.inl (by decide : 32 + 16 ≤ 48))).trans ?_
  exact State.fld_congr (by rw [State.draw_regs, State.advance_regs]) _

/-- How the groups that fail again settle the check, lowest first: none, and the error was a transient; otherwise the disagreement of the
first persists (R85, R431). -/
def State.settleCheck (s : State) (x : Nat) (p : Product) (k : Nat) (ph : Phase) (base : Nat) (vals : List Int) : List Nat → State
  | [] => (s.incSat (xbCheckTransients (xbCluster x) (xbSlot x)) 1).modXrun x fun r =>
      { r with conv := some { p with redo := (k, base) :: p.redo }, failing := none }
  | g :: rest => (s.countFails x ph vals (g :: rest)).persistDisagree x p k ph base g

/-- RE_EVALUATION that ends before the guard band settles the check by the groups that fail on the codes of the second conversion. -/
theorem exec_reEvaluation {s : State} {x : XbId} {p : Product} {k : Nat} {ph : Phase} (hconv : (s.xrun x).conv = some p)
    (hfailing : (s.xrun x).failing = some k) (hph : (vecPhases p.fmt p.vec)[k]? = some ph)
    (htime : p.t0 + 6 + 66 * (p.need + redoCount p) + 1000 < s.tickNs) :
    exec (.reEvaluation x) s = .next ((s.reconverted x p ph).settleCheck x p k ph s.free (s.prodValues x (s.prodCodes x p ph s.free))
      (s.failGroups x ph (s.prodCodes x p ph s.free) (s.prodValues x (s.prodCodes x p ph s.free)))) := by
  change execReEvaluation x s = _
  have hregs (m n : Nat) : ((s.advance m).draw n).regs = s.regs := by rw [State.draw_regs, State.advance_regs]
  have hxb (m n : Nat) : ((s.advance m).draw n).xb = s.xb := by rw [State.draw_xb, State.advance_xb]
  obtain ⟨-, -, -, -, hreg⟩ := s.reconverted_frame x p ph
  have hfails (codes vals : List Int) : (s.reconverted x p ph).failGroups x ph codes vals = s.failGroups x ph codes vals :=
    State.failGroups_congr (hreg _ (by unfold xbStatReg xbCheckReg; omega)) ph codes vals
  simp only [execReEvaluation, hconv, hfailing, hph, if_neg (Nat.not_le.mpr htime), State.prodCodes_congr (hregs _ _) (hxb _ _),
    State.prodValues_congr (hregs _ _) (hxb _ _)]
  unfold State.reconverted at hfails ⊢
  rw [hfails]
  generalize s.failGroups x ph _ _ = fails
  cases fails <;> rfl

/-! A disagreement that persists (R434, R436). -/

/-- The dispute that a disagreement leaves in the crossbar's arbitration latch (R431, R434). -/
def State.disputeOf (s : State) (x : Nat) (p : Product) (k base g : Nat) : Dispute :=
  { prod := { p with settled := k :: p.settled }, period := k, base, group := g, policy := s.policyOf x }

/-- With a free latch and room in the engine's queue the dispute takes the latch and the crossbar joins the queue (R436). -/
theorem State.persistDisagree_joins (s : State) {x : Nat} (p : Product) (k : Nat) (ph : Phase) (base g : Nat)
    (hlatch : (s.xrun x).dispute = none) (hroom : (s.xe (xbCluster x)).arb.length < 8) :
    ((s.persistDisagree x p k ph base g).xrun x).dispute = some (s.disputeOf x p k base g)
      ∧ ((s.persistDisagree x p k ph base g).xrun x).failing = none
      ∧ ((s.persistDisagree x p k ph base g).xe (xbCluster x)).arb = (s.xe (xbCluster x)).arb ++ [x]
      ∧ (s.persistDisagree x p k ph base g).core = s.core ∧ (s.persistDisagree x p k ph base g).mem = s.mem := by
  have hnone : (s.xrun x).dispute.isSome = false := by rw [hlatch]; rfl
  simp only [State.persistDisagree, hnone, Bool.false_or, decide_eq_true_eq, if_neg (Nat.not_le.mpr hroom), Bool.false_eq_true, if_false,
    State.xrun_modXrun_same, State.modXrun_core, State.modXe_core, State.incSat_core, State.modXrun_mem, State.modXe_mem,
    State.incSat_mem, and_true, true_and]
  refine ⟨rfl, ?_⟩
  have harb (u : State) (f : XbRun → XbRun) : (u.modXrun x f).xe (xbCluster x) = u.xe (xbCluster x) := by
    rw [State.xe, State.modXrun_cl, State.xe]
  rw [harb, State.xe_modXe_same, State.xe, State.incSat_cl, State.xe]

/-- Settles O32: the check is settled by the codes of the second conversion; the counts that precede it leave the crossbar, the engine and the
policy as they were. -/
theorem reEvaluationSettlesTheCheck : Obligations.ReEvaluationSettlesTheCheck := by
  intro s x p k ph hconv hfailing hph htime codes fails
  have hexec := exec_reEvaluation hconv hfailing hph htime
  obtain ⟨hcore, hmem, hxb, hcl, hreg⟩ := s.reconverted_frame x p ph
  refine ⟨fun hpass => ⟨_, hexec, ?_⟩, fun g rest hfail hlatch hroom => ?_⟩
  · have hs : s.failGroups x ph codes (s.prodValues x codes) = [] := hpass
    rw [hs, State.settleCheck, State.xrun_modXrun_same, State.modXrun_core, State.incSat_core, State.modXrun_mem, State.incSat_mem]
    refine ⟨rfl, rfl, ?_, hcore, hmem⟩
    rw [State.fld_congr (State.modXrun_regs ..), State.fld_incSat_same _ _ (by decide : 32 + 16 ≤ 64), s.reconverted_fld_transients]
  · have hs : s.failGroups x ph codes (s.prodValues x codes) = g :: rest := hfail
    have hcount := (State.RegsFrom.refl (clBase (xbCluster x)) (s.reconverted x p ph)).countFails ph (s.prodValues x codes) (g :: rest)
    rw [hs, State.settleCheck] at hexec
    generalize (s.reconverted x p ph).countFails x ph (s.prodValues x codes) (g :: rest) = u at hexec hcount
    have hxrun : u.xrun x = s.xrun x := by rw [State.xrun, hcount.xb_eq, hxb, State.xrun]
    have hxe : u.xe (xbCluster x) = s.xe (xbCluster x) := by rw [State.xe, hcount.cl_eq, hcl, State.xe]
    have hpolicy : u.policyOf x = s.policyOf x := State.policyOf_congr (fun o ho => by
      have hwindow : o < clBase (xbCluster x) := by unfold clBase; omega
      rw [hcount.below o hwindow, hreg o (by unfold xbCheckReg; omega)]) x
    obtain ⟨hdispute, hfree, harb, hcore', hmem'⟩ :=
      u.persistDisagree_joins p k ph s.free g (hxrun ▸ hlatch) (hxe ▸ hroom)
    refine ⟨_, _, hexec, hdispute, rfl, rfl, hpolicy, hfree, hxe ▸ harb, ?_, ?_⟩
    · rw [hcore', hcount.core_eq, hcore]
    · rw [hmem', hcount.mem_eq, hmem]

end Sys2Proof.Machine
end

section
/-! PROOFS. The issue of a product (R72, R73, R104): the instruction of a core that is ready, the product an XISSUE makes, and where the
crossbar puts it. -/
namespace Sys2Proof.Machine
open Sys2Proof

/-! An instruction of a core that is ready. -/

theorem foldl_eq_self {α β : Type} {f : α → β → α} {a : α} {l : List β} (h : ∀ b ∈ l, f a b = a) : l.foldl f a = a := by
  induction l with
  | nil => rfl
  | cons b l ih =>
    obtain ⟨hb, hl⟩ := List.forall_mem_cons.mp h
    rw [List.foldl_cons, hb, ih hl]

/-- A ready core's instruction acts on the state in which its address has moved on (R73, R114, R429). -/
theorem State.issue_of_ready {s : State} {c : Nat} (h : s.ready c) (f : State → State) :
    s.issue c f = (f (s.fetched c)).onward c := by
  obtain ⟨hrun, hia, hupset, hdue⟩ := h
  have hdues : s.dueXbs c = s := foldl_eq_self fun j hj => hdue ⟨j, List.mem_range.mp hj⟩
  have hresume : s.resume c = s := by rw [State.resume, hrun]
  have hfetch : s.fetchWord c = s := by simp only [State.fetchWord, hupset]
  simp only [State.issue, hdues, hresume, hfetch, if_pos hrun, if_neg (Nat.not_le.mpr hia)]
  rfl

/-- What an instruction does to its core's state shows after the address has moved on and the core has turned onward. -/
theorem coreMoves_onward {s w : State} {c : Nat} {f : CoreSt → CoreSt} (hc : w.cs c = f { s.cs c with ia := (s.cs c).ia + 1 })
    (hne : ∀ c', c' ≠ c → w.cs c' = s.cs c') : coreMoves s (w.onward c) c (s.moved c f) :=
  ⟨by rw [State.onward, State.cs_modCore_same, hc, State.moved], fun c' h => (w.cs_modCore_ne _ h).trans (hne c' h)⟩

theorem State.cs_fetched_same (s : State) (c : Nat) : (s.fetched c).cs c = { s.cs c with ia := (s.cs c).ia + 1 } :=
  s.cs_modCore_same ..

theorem State.cs_fetched_ne (s : State) {c c' : Nat} (h : c' ≠ c) : (s.fetched c).cs c' = s.cs c' := s.cs_modCore_ne _ h

theorem State.cs_congr {s t : State} (h : t.core = s.core) (c : Nat) : t.cs c = s.cs c := by rw [State.cs, State.cs, h]

/-- An instruction that leaves the cores as it finds them only moves its core's address on. -/
theorem coreMoves_of_core_eq {s w : State} {c : Nat} (h : w.core = (s.fetched c).core) : coreMoves s (w.onward c) c (s.moved c id) :=
  coreMoves_onward ((State.cs_congr h c).trans (s.cs_fetched_same c)) fun c' hc => (State.cs_congr h c').trans (s.cs_fetched_ne hc)

/-- Registers are as they were when nothing of the core file but the cores' states has changed. -/
theorem sameRegs_of_core {s t : State} {st : Tab CoreSt} (h : t.core = { s.core with st }) : sameRegs s t := by
  refine ⟨fun c r => ?_, fun c v => ?_⟩
  · simp only [State.gpr, State.gprP, h, and_self]
  · simp only [State.vr, State.vrP, h, and_self]

theorem State.core_onward {s w : State} {st : Tab CoreSt} (c : Nat) (h : w.core = { s.core with st }) :
    ∃ st', (w.onward c).core = { s.core with st := st' } :=
  ⟨_, by rw [State.onward, State.modCore, h]⟩

/-! Data scratch without bit errors. -/

theorem State.scratchErrors_of_clean {s : State} {c a n : Nat} (h : s.scratchClean c a n) : s.scratchErrors c a n = s :=
  foldl_eq_self fun w hw => by simp only [h w hw]

/-! The product and its place (R72, R73, R104). -/

/-- The product that XISSUE makes: its vector is latched and its slot looked at when it starts (R103, R104). -/
def State.issuedProduct (s : State) (c : Nat) (vec : GReg) (fmt : InFmt) (res : GReg) (acc : Bool) : Product :=
  { core := c, job := (s.cs c).job.toNat, fmt, vecAddr := (s.gpr c vec).toNat, vec := [], vecPoison := false,
    res := (s.gpr c res).toNat, acc, d := (s.cs c).phase.toNat + 1, t0 := 0, need := 0,
    reserved := sliceCount fmt * ((s.cs c).phase.toNat + 1), kind := .normal, prec := 0, base := 0, redo := [], settled := [],
    suspect := false, hold := false, earliest := 0, verdict := none, allPoison := false }

/-- The product as it stands in conversion once it has started on a crossbar: with its vector, and with what its slot makes of it (R72, R96). -/
def State.startedProduct (s : State) (x t0 : Nat) (p : Product) : Product :=
  let v := s.scratch p.core p.vecAddr (vecBytes p.fmt)
  let kind : ProductKind := if s.slotPrec x = 0 then .empty else if s.slotTier x = 2 then .fenced else .normal
  { p with
    t0, vec := v, vecPoison := s.scratchP p.core p.vecAddr (vecBytes p.fmt), kind,
    need := if kind = .normal then (vecPhases p.fmt v).length else 0, prec := s.slotPrec x, base := s.free }

section Issue
variable {s : State} {x : Nat} {p : Product}

theorem State.startProduct_of_clean (t0 : Nat) (h : s.scratchClean p.core p.vecAddr (vecBytes p.fmt)) :
    s.startProduct x t0 p = (s.modXrun x fun r => { r with conv := some (s.startedProduct x t0 p), heldLast := false }).draw
      (528 * (s.startedProduct x t0 p).need) := by
  rw [State.startProduct, State.scratchErrors_of_clean h]
  rfl

theorem State.issueProduct_of_idle (h : (s.xrun x).conv = none) : s.issueProduct x p = s.startProduct x s.t p := if_pos h

theorem State.issueProduct_of_busy (h : (s.xrun x).conv ≠ none) (hq : (s.xrun x).queued = none) :
    s.issueProduct x p = s.modXrun x fun r => { r with queued := some { p with t0 := s.t } } :=
  (if_neg h).trans (if_pos hq)

theorem State.issueProduct_of_full (h : (s.xrun x).conv ≠ none) (hq : (s.xrun x).queued ≠ none) :
    s.issueProduct x p
      = (s.modXrun x fun r => { r with stalled := some { p with t0 := s.t } }).modCore p.core fun k => { k with run := .waiting (.xissue x) } :=
  (if_neg h).trans (if_neg hq)

/-- On an idle crossbar the product is in conversion from the time of the issue, and the cores are as they were (R73). -/
theorem State.issueProduct_starts (h : (s.xrun x).conv = none) (hclean : s.scratchClean p.core p.vecAddr (vecBytes p.fmt)) :
    ((s.issueProduct x p).xrun x).conv = some (s.startedProduct x s.t p) ∧ (s.issueProduct x p).core = s.core := by
  rw [State.issueProduct_of_idle h, State.startProduct_of_clean s.t hclean, State.draw_core, State.modXrun_core]
  refine ⟨?_, rfl⟩
  rw [State.xrun, State.draw_xb, ← State.xrun, State.xrun_modXrun_same]

/-- Behind a product in conversion the product is queued, and the cores are as they were (R73). -/
theorem State.issueProduct_queues (h : (s.xrun x).conv ≠ none) (hq : (s.xrun x).queued = none) :
    (s.issueProduct x p).xrun x = { s.xrun x with queued := some { p with t0 := s.t } } ∧ (s.issueProduct x p).core = s.core := by
  rw [State.issueProduct_of_busy h hq, State.xrun_modXrun_same, State.modXrun_core]
  exact ⟨rfl, rfl⟩

/-- Behind a queued product the issue stalls, and its core waits (R73). -/
theorem State.issueProduct_stalls (h : (s.xrun x).conv ≠ none) (hq : (s.xrun x).queued ≠ none) :
    (s.issueProduct x p).xrun x = { s.xrun x with stalled := some { p with t0 := s.t } }
      ∧ (s.issueProduct x p).cs p.core = { s.cs p.core with run := .waiting (.xissue x) }
      ∧ ∀ c, c ≠ p.core → (s.issueProduct x p).cs c = s.cs c := by
  have hcs (f : XbRun → XbRun) (c : Nat) : (s.modXrun x f).cs c = s.cs c := rfl
  rw [State.issueProduct_of_full h hq, State.cs_modCore_same, hcs]
  refine ⟨?_, rfl, fun c hc => by rw [State.cs_modCore_ne _ _ hc, hcs]⟩
  rw [State.xrun, State.modCore_xb, ← State.xrun, State.xrun_modXrun_same]

/-- Wherever the product goes, control space, memory and the core file but the cores' states are as they were. -/
theorem State.issueProduct_frame (h : s.scratchClean p.core p.vecAddr (vecBytes p.fmt)) :
    (s.issueProduct x p).regs = s.regs ∧ (s.issueProduct x p).mem = s.mem ∧ ∃ st, (s.issueProduct x p).core = { s.core with st } := by
  by_cases hconv : (s.xrun x).conv = none
  · rw [State.issueProduct_of_idle hconv, State.startProduct_of_clean _ h]
    exact ⟨rfl, rfl, _, rfl⟩
  · by_cases hqueued : (s.xrun x).queued = none
    · rw [State.issueProduct_of_busy hconv hqueued]
      exact ⟨rfl, rfl, _, rfl⟩
    · rw [State.issueProduct_of_full hconv hqueued]
      exact ⟨rfl, rfl, _, rfl⟩

end Issue

/-- The state in which XISSUE meets its crossbar: the address has moved on and one more product is counted (R104). -/
def State.counted (s : State) (c x : Nat) : State := (s.fetched c).incWrap (xbUsageProducts (xbCluster x) (xbSlot x)) 1

/-- An XISSUE with a job, clean operands and extents within data scratch meets its crossbar (R104, R111, R118). -/
theorem exec_xissue {s : State} {c : CoreId} {j : Fin 16} {vec res : GReg} {fmt : InFmt} {acc : Bool} (hready : s.ready c)
    (hjob : (s.cs c).job ≠ 0) (hvec : s.gprP c vec = false) (hres : s.gprP c res = false)
    (hvecIn : (s.gpr c vec).toNat + vecBytes fmt ≤ 65536)
    (hresIn : (s.gpr c res).toNat + 4 * weightCols (s.slotPrec (coreXb c j)) ≤ 65536) :
    exec (.xissue c j vec fmt res acc) s
      = .next (((s.counted c (coreXb c j)).issueProduct (coreXb c j) (s.issuedProduct c vec fmt res acc)).onward c) := by
  change execXissue c j vec fmt res acc s = _
  have hin {a n : Nat} (h : a + n ≤ 65536) : inExtent (a : Int) n 65536 = true := by
    simp only [inExtent, Bool.and_eq_true, decide_eq_true_eq]
    omega
  have hprec : (s.fetched c).slotPrec (coreXb c j) = s.slotPrec (coreXb c j) := rfl
  have hgpr (r : GReg) : (s.fetched c).gpr c r = s.gpr c r := rfl
  have hgprP (r : GReg) : (s.fetched c).gprP c r = s.gprP c r := rfl
  have hcs (f : Fld) : ((s.fetched c).incWrap f 1).cs c = { s.cs c with ia := (s.cs c).ia + 1 } := s.cs_fetched_same c
  rw [execXissue, State.issue_of_ready hready, State.needJob, s.cs_fetched_same, if_neg hjob]
  simp only [hprec, hgpr, hgprP, hvec, hres, Bool.or_self, hin hvecIn, hin hresIn, Bool.not_true, Bool.false_eq_true, if_false, hcs]
  rfl

/-- The count of products wraps (R104). -/
theorem State.counted_fld_products (s : State) (c x : Nat) :
    (s.counted c x).fld (xbUsageProducts (xbCluster x) (xbSlot x)) = (s.fld (xbUsageProducts (xbCluster x) (xbSlot x)) + 1) % 2 ^ 32 :=
  (s.fetched c).fld_setFld_same (xbUsageProducts (xbCluster x) (xbSlot x)) _ (by decide : 0 + 32 ≤ 64)

/-- Settles O17: by what the crossbar does with the product that XISSUE makes. -/
theorem arrayIssueStartsQueuesOrStalls : Obligations.ArrayIssueStartsQueuesOrStalls := by
  intro s c j vec fmt res acc hready hjob hvec hres hvecIn hresIn hclean x isNew
  let u := s.counted c x
  let p := s.issuedProduct c vec fmt res acc
  have hcleanU : u.scratchClean p.core p.vecAddr (vecBytes p.fmt) := hclean
  obtain ⟨hregs, hmem, st, hcore⟩ := State.issueProduct_frame (x := x) hcleanU
  obtain ⟨st', hcore'⟩ := State.core_onward (s := s) c hcore
  refine ⟨_, exec_xissue hready hjob hvec hres hvecIn hresIn, (State.fld_congr hregs _).trans (s.counted_fld_products c x),
    sameRegs_of_core hcore', hmem, (congrArg CoreFile.scratch hcore' :), fun hconv => ?_, fun hconv hqueued => ?_,
    fun hconv hqueued => ?_⟩
  · obtain ⟨hstarted, hsame⟩ := State.issueProduct_starts (s := u) hconv hcleanU
    exact ⟨u.startedProduct x u.t p, hstarted, ⟨rfl, rfl, rfl, rfl, rfl, rfl, rfl, rfl⟩, rfl, coreMoves_of_core_eq hsame⟩
  · obtain ⟨hqueue, hsame⟩ := State.issueProduct_queues (s := u) (p := p) hconv hqueued
    exact ⟨{ p with t0 := u.t }, hqueue, ⟨rfl, rfl, rfl, rfl, rfl, rfl, rfl, rfl⟩, coreMoves_of_core_eq hsame⟩
  · obtain ⟨hstalled, hwaits, hothers⟩ := State.issueProduct_stalls (s := u) (p := p) hconv hqueued
    exact ⟨{ p with t0 := u.t }, hstalled, ⟨rfl, rfl, rfl, rfl, rfl, rfl, rfl, rfl⟩,
      coreMoves_onward (s.cs_fetched_same c ▸ hwaits) fun c' h => (hothers c' h).trans (s.cs_fetched_ne h)⟩

end Sys2Proof.Machine
end

section
/-! PROOFS. Records and the exact engines (R446 to R452): what posting a record leaves as it was, and that of the engines nothing but the marks
on their jobs. -/
namespace Sys2Proof.Machine
open Sys2Proof

/-! The registers of the exact engines (R46). -/

/-- Is the offset one of an exact engine's registers: of the engine's block in a cluster's window? -/
def engineReg (o : Nat) : Prop := ∃ l, clBase l + 0x8000 ≤ o ∧ o < clBase l + 0xc000

theorem not_engineReg_of_lt {o : Nat} (h : o < 0x1000000) : ¬ engineReg o := by
  rintro ⟨l, hlo, -⟩
  unfold clBase at hlo
  omega

/-- The other blocks of a cluster's window lie apart from the engines' registers. -/
theorem not_engineReg_window (l : Nat) {k : Nat} (hk : k < 0x8000 ∨ (0xc000 ≤ k ∧ k < 0x10000)) : ¬ engineReg (clBase l + k) := by
  rintro ⟨m, hlo, hhi⟩
  unfold clBase at hlo hhi
  omega

theorem State.reg_setFld_engineReg (s : State) {f : Fld} (hf : ¬ engineReg f.off) (v : Nat) {o : Nat} (ho : engineReg o) :
    (s.setFld f v).reg o = s.reg o :=
  s.reg_setFld_ne f v fun h => hf (h ▸ ho)

/-! The record queue and those who are told of it (R450 to R452). -/

/-- t is s but for the registers below the clusters' windows, the vectors sent, what integrity holds and what the custodian holds. -/
structure State.Noted (s t : State) : Prop where
  rest : t = { s with regs := t.regs, sv := t.sv, ig := t.ig, cu := t.cu }
  above : ∀ o, 0x1000000 ≤ o → t.reg o = s.reg o

namespace State.Noted
variable {s t u : State}

theorem refl (s : State) : Noted s s := ⟨rfl, fun _ _ => rfl⟩

theorem trans (h : Noted s t) (k : Noted t u) : Noted s u where
  rest := by
    have hu := k.rest
    rw [h.rest] at hu
    exact hu
  above o ho := (k.above o ho).trans (h.above o ho)

theorem cl_eq (h : Noted s t) : t.cl = s.cl := by rw [h.rest]
theorem xb_eq (h : Noted s t) : t.xb = s.xb := by rw [h.rest]
theorem mem_eq (h : Noted s t) : t.mem = s.mem := by rw [h.rest]

/-- Nothing is noted in control space. -/
theorem of_regs_eq (hrest : t = { s with sv := t.sv, ig := t.ig, cu := t.cu }) : Noted s t where
  rest := by
    have hregs : t.regs = s.regs := by rw [hrest]
    rw [hregs]
    exact hrest
  above o _ := State.reg_congr (by rw [hrest]) o

theorem setReg (h : Noted s t) {o : Nat} (ho : o < 0x1000000) (v : W64) : Noted s (t.setReg o v) :=
  h.trans ⟨rfl, fun o' ho' => t.reg_setReg_ne v (by omega)⟩

theorem setFld (h : Noted s t) {f : Fld} (hf : f.off < 0x1000000) (v : Nat) : Noted s (t.setFld f v) := h.setReg hf _

theorem incSat (h : Noted s t) {f : Fld} (hf : f.off < 0x1000000) (n : Nat) : Noted s (t.incSat f n) := h.setFld hf _

theorem setWords (h : Noted s t) {o : Nat} (ws : List W64) (ho : o + 8 * ws.length ≤ 0x1000000) : Noted s (t.setWords o ws) := by
  refine List.foldlRecOn ws.zipIdx _ h fun u hu e he => hu.setReg ?_ _
  have := List.snd_lt_of_mem_zipIdx he
  omega

/-- A record goes into its ring entry or into IN_ERR_LAST (R450). -/
theorem enqueue (h : Noted s t) {ws : List W64} (hws : ws.length = 4) : Noted s (t.enqueue ws) := by
  have hseq := h.setFld (f := inErrHeadWr) (by decide) (t.fld inErrHeadWr + 1)
  unfold State.enqueue
  dsimp only
  split
  · exact ((hseq.setWords (o := inErrLastReg 0) ws (by rw [hws]; decide)).incSat (f := inErrStatOverflow) (by decide) 1).trans
      (of_regs_eq rfl)
  · refine (hseq.setWords ws ?_).incSat (f := inErrStatPending) (by decide) 1
    unfold inErrRecordReg
    omega

theorem notify (h : Noted s t) (w0 : W64) (sev : Nat) : Noted s (t.notify w0 sev) := by
  refine List.foldlRecOn (List.range 4) _ h fun u hu p _ => hu.trans ?_
  dsimp only
  repeat' split
  all_goals exact of_regs_eq rfl

end State.Noted

/-! Escalation (R446, R447). -/

/-- Escalation leaves a record as it is, or raises its domain. -/
theorem State.escalate_cases (s : State) (k : Nat) (r : Rec) (raised : Bool) :
    s.escalate k r raised = (r, raised) ∨ r.domain < (s.escalate k r raised).1.domain := by
  induction k generalizing r raised with
  | zero => exact .inl rfl
  | succ k ih =>
    rw [State.escalate]
    split
    case isFalse => exact .inl rfl
    case isTrue h =>
      have hlt : r.domain < 4 := by simp_all
      have hraise : r.domain < (raiseRec r).domain := by
        unfold raiseRec
        split <;> simp only [*] <;> omega
      rcases ih (raiseRec r) true with heq | hup
      · exact .inr (heq ▸ hraise)
      · exact .inr (Nat.lt_trans hraise hup)

theorem raiseRec_part (r : Rec) : (raiseRec r).part = r.part := by
  unfold raiseRec
  split <;> rfl

theorem State.escalate_part (s : State) (k : Nat) (r : Rec) (raised : Bool) : (s.escalate k r raised).1.part = r.part := by
  induction k generalizing r raised with
  | zero => rfl
  | succ k ih =>
    rw [State.escalate]
    split
    · rw [ih, raiseRec_part]
    · rfl

/-- The record as it is posted, and whether it was raised (R447). -/
def State.raisedRec (s : State) (r : Rec) : Rec × Bool := if r.test then s.escalate 5 r false else (r, false)

theorem State.raisedRec_part (s : State) (r : Rec) : (s.raisedRec r).1.part = r.part := by
  unfold State.raisedRec
  split
  · exact s.escalate_part 5 r false
  · rfl

/-- A record of a cluster's domain or of one beyond it is raised beyond the cluster, if at all. -/
theorem State.raisedRec_domain (s : State) {r : Rec} (h : 2 ≤ r.domain) (hr : (s.raisedRec r).2 = true) :
    3 ≤ (s.raisedRec r).1.domain := by
  unfold State.raisedRec at hr ⊢
  split at hr
  case isTrue ht =>
    rw [if_pos ht]
    rcases s.escalate_cases 5 r false with heq | hup
    · rw [heq] at hr
      exact absurd hr Bool.false_ne_true
    · omega
  case isFalse => exact absurd hr Bool.false_ne_true

/-- What a raised record does in the domain that it reached (R447). -/
def State.reach (s : State) (r : Rec) (raised : Bool) : State :=
  if raised then
    match r.domain with
    | 1 => s.suspectCore (r.unit / 512 * 32 + r.unit % 512)
    | 2 => s.latchCluster (r.unit / 512)
    | _ => s
  else s

/-- Beyond the domain that it reached, a record only shows in IN_PART_STATE and in what integrity holds (R447 to R449). -/
theorem State.Noted.recAct (s : State) {r : Rec} (raised : Bool) (hpart : ∀ n, r.part = some n → n < 16) :
    Noted (s.reach r raised) (s.recAct r raised) := by
  have hoff {n : Nat} (hn : r.part = some n) : inPartStateReg n < 0x1000000 := by
    have := hpart n hn
    unfold inPartStateReg
    omega
  have hcount (u : State) : Noted u
      (if raised then (match r.part with | some n => u.incSat (inPartStateRaised n) 1 | none => u) else u) := by
    repeat' split
    · exact (refl u).incSat (hoff ‹_›) 1
    all_goals exact refl u
  have hfatal (u : State) : Noted u
      (if r.sev = 4 then
        match r.part with
        | some n =>
          let v := u.incSat (inPartStateFatals n) 1
          if n ∈ v.ig.partFatal then v else { v with ig := { v.ig with partFatal := n :: v.ig.partFatal } }
        | none => u
      else if r.sev = 5 then { u with ig := { u.ig with fatalNow := true } } else u) := by
    split
    · split
      case h_1 n hn =>
        have hinc := (refl u).incSat (f := inPartStateFatals n) (hoff hn) 1
        dsimp only
        split
        · exact hinc
        · exact hinc.trans (of_regs_eq rfl)
      case h_2 => exact refl u
    · split
      · exact of_regs_eq rfl
      · exact refl u
  exact (hcount _).trans (hfatal _)

theorem State.Noted.alert {s t : State} (h : Noted s t) (cause : Nat) : Noted s (t.alert cause) := h.trans (of_regs_eq rfl)

theorem State.Noted.opened {s t : State} (h : Noted s t) (l : List OpenRec) :
    Noted s { t with ig := { t.ig with open_ := l } } := h.trans (of_regs_eq rfl)

/-- A record is queued, told of and opened before it acts (R446, R450 to R452). -/
theorem State.post_eq_recAct (s : State) (r : Rec) :
    ∃ u, Noted s u ∧ s.post r = u.recAct (s.raisedRec r).1 (s.raisedRec r).2 := by
  unfold State.post
  extract_lets e r' ws opens queued notified alerted ig opened
  have hnotified : Noted s notified := ((Noted.refl s).enqueue rfl).notify _ _
  have halerted : Noted s alerted := by
    unfold alerted
    split
    · exact hnotified.alert 1
    · exact hnotified
  have hopened : Noted s opened := by
    unfold opened
    split
    · exact halerted.opened _
    · exact halerted
  exact ⟨opened, hopened, rfl⟩

/-- A record of a cluster's domain or of one beyond it is only queued, told of and counted. -/
theorem State.post_noted (s : State) {r : Rec} (hdomain : 2 ≤ r.domain) (hpart : ∀ n, r.part = some n → n < 16) :
    Noted s (s.post r) := by
  obtain ⟨u, hu, hpost⟩ := s.post_eq_recAct r
  have hact := Noted.recAct u (s.raisedRec r).2 (r := (s.raisedRec r).1) (by rwa [s.raisedRec_part])
  have hreach : u.reach (s.raisedRec r).1 (s.raisedRec r).2 = u := by
    unfold State.reach
    split
    case isFalse => rfl
    case isTrue hr =>
      have := s.raisedRec_domain hdomain hr
      split
      · omega
      · omega
      · rfl
  rw [hreach] at hact
  exact hpost ▸ hu.trans hact

theorem State.partOf_lt {s : State} {l n : Nat} (h : s.partOf l = some n) : n < 16 :=
  List.mem_range.mp (List.mem_of_find?_eq_some h)

/-! The engines. -/

/-- The engines' jobs, arbitrations and registers are as they were. -/
structure State.SameEngines (s t : State) : Prop where
  xe : t.cl.xe = s.cl.xe
  reg : ∀ o, engineReg o → t.reg o = s.reg o

namespace State.SameEngines
variable {s t u : State}

theorem refl (s : State) : SameEngines s s := ⟨rfl, fun _ _ => rfl⟩

theorem trans (h : SameEngines s t) (k : SameEngines t u) : SameEngines s u :=
  ⟨k.xe.trans h.xe, fun o ho => (k.reg o ho).trans (h.reg o ho)⟩

theorem xe_eq (h : SameEngines s t) (l : Nat) : t.xe l = s.xe l := by rw [State.xe, h.xe, State.xe]

theorem of_noted (h : Noted s t) : SameEngines s t where
  xe := by rw [h.cl_eq]
  reg o ho := h.above o (Nat.not_lt.mp fun hlt => not_engineReg_of_lt hlt ho)

theorem of_regs_eq (hxe : t.cl.xe = s.cl.xe) (hregs : t.regs = s.regs) : SameEngines s t := ⟨hxe, fun o _ => State.reg_congr hregs o⟩

theorem setFld (h : SameEngines s t) {f : Fld} (hf : ¬ engineReg f.off) (v : Nat) : SameEngines s (t.setFld f v) :=
  h.trans ⟨rfl, fun _ ho => t.reg_setFld_engineReg hf v ho⟩

/-- A record of a cluster is charged to it and not to its engine. -/
theorem postCluster (h : SameEngines s t) (v : State) (l sev kind sub job detail : Nat) :
    SameEngines s (t.post (recCluster v l sev kind sub job detail)) :=
  h.trans (of_noted (t.post_noted (Nat.le_refl 2) fun _ hn => State.partOf_lt hn))

theorem readErrors (h : SameEngines s t) (l job a n : Nat) : SameEngines s (t.readErrors l job a n) := by
  refine List.foldlRecOn _ _ h fun u hu w _ => hu.trans ?_
  dsimp only
  split
  · exact refl u
  · split
    all_goals
      refine SameEngines.postCluster ?_ ..
      exact of_regs_eq rfl rfl

theorem refuseAccess (h : SameEngines s t) (c sub a : Nat) : SameEngines s (t.refuseAccess c sub a) :=
  (h.trans (of_regs_eq (t := t.setLatch c) rfl rfl)).postCluster _ _ _ _ _ _ _

theorem wakeToken (h : SameEngines s t) (l k c : Nat) : SameEngines s (t.wakeToken l k c) := by
  refine h.trans ?_
  unfold State.wakeToken
  dsimp only
  repeat' split
  all_goals exact of_regs_eq rfl rfl

/-- A signal counts in its cluster's token counters and wakes cores (R119, R120). -/
theorem signal (h : SameEngines s t) (l n : Nat) {k : Nat} (hk : k < 256) (p : Bool) : SameEngines s (t.signal l k n p) := by
  have hoff : ¬ engineReg (clTokenReg l k) := by
    rw [clTokenReg, Nat.add_assoc]
    exact not_engineReg_window l (.inl (by omega))
  have hcount : SameEngines s (t.incSat (clTokenCount l k) n) := h.setFld hoff _
  refine List.foldlRecOn _ _ ?_ fun u hu i _ => hu.wakeToken ..
  split
  · exact hcount.setFld hoff _
  · exact hcount

end State.SameEngines

end Sys2Proof.Machine
end

section
/-! PROOFS. The jobs of the exact engine (R169 to R174): how ESUB accepts one, how the engine starts it, and what its completion leaves of the
engine. -/
namespace Sys2Proof.Machine
open Sys2Proof

/-! What XE_MODE shows. -/

@[simp] theorem State.showXe_core (s : State) (l : Nat) : (s.showXe l).core = s.core := by
  unfold State.showXe
  extract_lets depth
  have hdepth : depth.core = s.core := State.setFld_core ..
  split
  · exact hdepth
  · exact (State.setFld_core ..).trans hdepth

@[simp] theorem State.showXe_mem (s : State) (l : Nat) : (s.showXe l).mem = s.mem := by
  unfold State.showXe
  extract_lets depth
  have hdepth : depth.mem = s.mem := State.setFld_mem ..
  split
  · exact hdepth
  · exact (State.setFld_mem ..).trans hdepth

@[simp] theorem State.showXe_cl (s : State) (l : Nat) : (s.showXe l).cl = s.cl := by
  unfold State.showXe
  extract_lets depth
  have hdepth : depth.cl = s.cl := State.setFld_cl ..
  split
  · exact hdepth
  · exact (State.setFld_cl ..).trans hdepth

@[simp] theorem State.showXe_xe (s : State) (l m : Nat) : (s.showXe l).xe m = s.xe m := by rw [State.xe, State.showXe_cl, State.xe]

theorem State.reg_showXe_ne (s : State) {l o : Nat} (h : o ≠ xeModeReg l) : (s.showXe l).reg o = s.reg o := by
  have hdepth : (s.setFld (xeModeQdepth l) (s.xe l).queue.length).reg o = s.reg o := s.reg_setFld_ne _ _ h
  unfold State.showXe
  dsimp only
  split
  · exact hdepth
  · exact (State.reg_setFld_ne _ _ _ h).trans hdepth

/-- QDEPTH is the number of jobs waiting; STATE lies apart from it (R171). -/
theorem State.fld_showXe_qdepth (s : State) (l : Nat) :
    (s.showXe l).fld (xeModeQdepth l) = (s.xe l).queue.length % 2 ^ (xeModeQdepth l).w := by
  have hdepth := s.fld_setFld_same (xeModeQdepth l) (s.xe l).queue.length (by decide : 8 + 8 ≤ 64)
  unfold State.showXe
  dsimp only
  split
  · exact hdepth
  · exact (State.fld_setFld_apart _ (xeModeState l) (xeModeQdepth l) _ rfl (by decide : 8 + 8 ≤ 64)
      (.inr (by decide : 4 + 2 ≤ 8))).trans hdepth

/-! ESUB (R170). -/

section Fetched
variable (s : State) (c : Nat)

@[simp] theorem State.fetched_mem : (s.fetched c).mem = s.mem := rfl
@[simp] theorem State.fetched_gpr (k : Nat) (r : GReg) : (s.fetched c).gpr k r = s.gpr k r := rfl
@[simp] theorem State.fetched_gprP (k : Nat) (r : GReg) : (s.fetched c).gprP k r = s.gprP k r := rfl
@[simp] theorem State.fetched_scratchP (k a n : Nat) : (s.fetched c).scratchP k a n = s.scratchP k a n := rfl
@[simp] theorem State.fetched_fld (f : Fld) : (s.fetched c).fld f = s.fld f := rfl
@[simp] theorem State.fetched_xe (l : Nat) : (s.fetched c).xe l = s.xe l := rfl
@[simp] theorem State.fetched_segmentsOk (l : Nat) (d : XeDesc) : (s.fetched c).segmentsOk l d = s.segmentsOk l d := rfl
@[simp] theorem State.fetched_destBad (l : Nat) (d : XeDesc) :
    (s.fetched c).destBad l ((s.fetched c).jobRows l d) = s.destBad l (s.jobRows l d) := rfl

end Fetched

/-- The eight words of a job descriptor in data scratch (R172). -/
def State.descWords (s : State) (c a : Nat) : List W64 :=
  (List.range 8).map fun i => BitVec.ofNat 64 (numAt (s.scratch c a 64) (8 * i) 8)

/-- The job that an accepted ESUB posts (R170). -/
def State.esubJob (s : State) (c a : Nat) : XeJob :=
  { words := s.descWords c a, job := (s.cs c).job.toNat, core := c, poisonAll := (s.cs c).latch }

/-- The state in which the job stands at the end of its engine's queue. -/
def State.jobQueued (s : State) (l : Nat) (j : XeJob) : State := (s.modXe l fun e => { e with queue := e.queue ++ [j] }).showXe l

theorem State.jobQueued_xe (s : State) (l : Nat) (j : XeJob) :
    (s.jobQueued l j).xe l = { s.xe l with queue := (s.xe l).queue ++ [j] } := by
  rw [State.jobQueued, State.showXe_xe, State.xe_modXe_same]

theorem State.jobQueued_fld_qdepth (s : State) (l : Nat) (j : XeJob) :
    (s.jobQueued l j).fld (xeModeQdepth l) = ((s.xe l).queue.length + 1) % 2 ^ (xeModeQdepth l).w := by
  rw [State.jobQueued, State.fld_showXe_qdepth, State.xe_modXe_same, List.length_append, List.length_singleton]

/-- An ESUB of a valid descriptor, of a core that has a job, with an engine that works and has room, is accepted (R118, R170 to R173). -/
theorem exec_esub {s : State} {c : CoreId} {rd desc : GReg} (hready : s.ready c) (hjob : (s.cs c).job ≠ 0)
    (hp : s.gprP c desc = false) (hin : (s.gpr c desc).toNat + 64 ≤ 65536)
    (hclean : s.scratchClean c (s.gpr c desc).toNat 64) (hmarks : s.scratchP c (s.gpr c desc).toNat 64 = false)
    (hworks : (s.xe (c.val / 32)).failed = false) (hstate : s.fld (xeModeState (c.val / 32)) ≠ 3)
    (hvalid : descValid (s.descWords c (s.gpr c desc).toNat) = true)
    (hsegs : s.segmentsOk (c.val / 32) (descOf (s.descWords c (s.gpr c desc).toNat)) = true)
    (hdest : s.destBad (c.val / 32) (s.jobRows (c.val / 32) (descOf (s.descWords c (s.gpr c desc).toNat))) = false)
    (hroom : (s.xe (c.val / 32)).queue.length < 16) :
    exec (.esub c rd desc) s
      = .next ((((s.fetched c).jobQueued (c.val / 32) (s.esubJob c (s.gpr c desc).toNat)).setGpr c rd
          (BitVec.ofNat 64 (2 ^ 63)) false).onward c) := by
  change execEsub c rd desc s = _
  have hext : inExtent ((s.gpr c desc).toNat : Int) 64 65536 = true := by
    simp only [inExtent, Bool.and_eq_true, decide_eq_true_eq]
    omega
  have hcleanF : (s.fetched c).scratchClean c (s.gpr c desc).toNat 64 := hclean
  have hwords (a : Nat) :
      ((List.range 8).map fun i => BitVec.ofNat 64 (numAt ((s.fetched c).scratch c a 64) (8 * i) 8)) = s.descWords c a := rfl
  have hjobF : ((s.fetched c).cs c).job = (s.cs c).job := by rw [s.cs_fetched_same]
  have hlatchF : ((s.fetched c).cs c).latch = (s.cs c).latch := by rw [s.cs_fetched_same]
  rw [execEsub, State.issue_of_ready hready, State.needJob, hjobF, if_neg hjob, State.jobQueued, State.esubJob]
  simp only [State.fetched_gpr, State.fetched_gprP, State.fetched_xe, State.fetched_fld, State.fetched_scratchP, State.fetched_segmentsOk,
    State.fetched_destBad, hjobF, hlatchF, hp, hworks, hstate, hext, State.scratchErrors_of_clean hcleanF, hmarks, hwords, hvalid, hsegs,
    hdest, Nat.not_le.mpr hroom, decide_false, Bool.or_self, Bool.not_true, Bool.false_eq_true, if_false]

theorem State.gprP_setGpr_ne (s : State) (c : Nat) (r : GReg) (v : W64) (p : Bool) (c' : Nat) (r' : GReg) (h : ¬ (c' = c ∧ r' = r)) :
    (s.setGpr c r v p).gprP c' r' = s.gprP c' r' := by
  by_cases h0 : r = 0
  · rw [State.setGpr, if_pos h0]
  · by_cases h1 : r' = 0
    · simp only [State.gprP, h1, if_true]
    · rw [State.setGpr, if_neg h0, State.gprP, State.gprP, if_neg h1, if_neg h1]
      exact tabGet_tabSet_ne _ _ _ p (gregKey_ne h)

/-- An instruction's write to a general register, after which its core turns onward. -/
theorem holds_onward_setGpr (s : State) (c : Nat) (r : GReg) (v : Nat) (p : Bool) :
    holds ((s.setGpr c r (BitVec.ofNat 64 v) p).onward c) c (.g r) v p := by
  change if r = 0 then (s.setGpr c r (BitVec.ofNat 64 v) p).gpr c r = 0
    else (s.setGpr c r (BitVec.ofNat 64 v) p).gpr c r = BitVec.ofNat 64 v ∧ (s.setGpr c r (BitVec.ofNat 64 v) p).gprP c r = p
  split
  case isTrue h => rw [h, State.gpr_zero]
  case isFalse h => exact ⟨s.gpr_setGpr_same c r _ p h, s.gprP_setGpr_same c r _ p h⟩

/-- Such an instruction changes one register; the cores' memories are as they were, and its core has moved on. -/
theorem setGpr_onward_frame {s w : State} {c : Nat} (r : GReg) (v : W64) (p : Bool) (hcore : w.core = (s.fetched c).core) :
    sameRegsBut s ((w.setGpr c r v p).onward c) c (.g r) ∧ sameCoreMems s ((w.setGpr c r v p).onward c)
      ∧ coreMoves s ((w.setGpr c r v p).onward c) c (s.moved c id) := by
  have hregs : sameRegs s w := sameRegs_of_core hcore
  obtain ⟨hgpr, hvr⟩ := hregs
  refine ⟨⟨fun c' r' h => ?_, fun c' v' _ => ?_⟩, ?_, ?_⟩
  · have hne : ¬ (c' = c ∧ r' = r) := fun ⟨hc, hr⟩ => h ⟨hc, hr ▸ rfl⟩
    exact ⟨(w.gpr_setGpr_ne c r v p c' r' hne).trans (hgpr c' r').1, (w.gprP_setGpr_ne c r v p c' r' hne).trans (hgpr c' r').2⟩
  · have hset : ((w.setGpr c r v p).vr c' v' = w.vr c' v') ∧ (w.setGpr c r v p).vrP c' v' = w.vrP c' v' := by
      unfold State.setGpr
      split <;> exact ⟨rfl, rfl⟩
    exact ⟨hset.1.trans (hvr c' v').1, hset.2.trans (hvr c' v').2⟩
  · have hset : sameCoreMems w (w.setGpr c r v p) := by
      unfold State.setGpr
      split <;> exact ⟨rfl, rfl, rfl, rfl⟩
    have hs : sameCoreMems s w := by
      unfold sameCoreMems
      rw [hcore]
      exact ⟨rfl, rfl, rfl, rfl⟩
    obtain ⟨h1, h2, h3, h4⟩ := hset
    obtain ⟨k1, k2, k3, k4⟩ := hs
    exact ⟨h1.trans k1, h2.trans k2, h3.trans k3, h4.trans k4⟩
  · have hcs (c' : Nat) : (w.setGpr c r v p).cs c' = (s.fetched c).cs c' := (w.setGpr_cs c r v p c').trans (State.cs_congr hcore c')
    exact coreMoves_onward ((hcs c).trans (s.cs_fetched_same c)) fun c' hc => (hcs c').trans (s.cs_fetched_ne hc)

/-! What a job leaves of the engine while it runs (R174 to R193). -/

namespace State.SameEngines
variable {s t : State}

theorem operandErrors (s : State) (l job : Nat) (d : XeDesc) : SameEngines s (s.operandErrors l job d) := by
  unfold State.operandErrors
  extract_lets rows readA readD readB
  have hrows {u : State} (hu : SameEngines s u) (a stride n b : Nat) : SameEngines s (rows u a stride n b) :=
    List.foldlRecOn _ _ hu fun v hv i _ => hv.readErrors ..
  split
  case h_1 => exact (refl s).readErrors ..
  case h_2 =>
    have hA : SameEngines s readA := hrows (refl s) ..
    have hD : SameEngines s readD := by
      unfold readD
      split
      · exact hrows hA ..
      · exact hA
    have hB : SameEngines s readB := hrows hD ..
    repeat' split
    · exact (hB.readErrors ..).readErrors ..
    · exact hB
    · exact hD

theorem storeMem (h : SameEngines s t) (a : Nat) (d : List Byte) (bp : List Bool) : SameEngines s (t.storeMem a d bp) :=
  h.trans (of_regs_eq rfl rfl)

theorem poisonRows (h : SameEngines s t) (l : Nat) (d : XeDesc) (g : Segment) : SameEngines s (t.poisonRows l d g) :=
  List.foldlRecOn _ _ h fun _ hu _ _ => hu.trans (of_regs_eq rfl rfl)

theorem storeRows (h : SameEngines s t) (l : Nat) (rows : List OutRow) :
    SameEngines s (rows.foldl (fun u w => u.storeMem (clMem l + w.off) w.bytes w.poison) t) :=
  List.foldlRecOn _ _ h fun _ hu _ _ => hu.storeMem ..

theorem adaptSegment (h : SameEngines s t) (l : Nat) (d : XeDesc) (job core : Nat) (all : Bool) (i : Nat) :
    SameEngines s (t.adaptSegment l d job core all i).1 := by
  unfold State.adaptSegment
  extract_lets g read head rows readAdapter readRows bf seg out
  have hread : SameEngines s read := h.readErrors ..
  have hreadAdapter : SameEngines s readAdapter := (hread.readErrors ..).readErrors ..
  have hreadRows : SameEngines s readRows := List.foldlRecOn _ _ hreadAdapter fun u hu e _ => (hu.readErrors ..).readErrors ..
  repeat' split
  · dsimp only
    exact (hread.poisonRows l d g).postCluster ..
  · dsimp only
    exact hread.refuseAccess ..
  · dsimp only
    exact hreadRows.storeRows l out

theorem adaptRun (h : SameEngines s t) (l : Nat) (d : XeDesc) (job core : Nat) (all : Bool) :
    SameEngines s (t.adaptRun l d job core all).1 :=
  List.foldlRecOn (motive := fun e : State × Bool => SameEngines s e.1) _ _ h fun _ hu i _ => hu.adaptSegment l d job core all i

theorem runJob (h : SameEngines s t) (l : Nat) (j : XeJob) (faults : List ResidueFault) : SameEngines s (t.runJob l j faults).1 := by
  unfold State.runJob
  extract_lets d all intSat fp8Sat bad rows stored sat
  split
  · exact h.adaptRun ..
  · have hstored : SameEngines s stored := h.storeRows l rows
    unfold sat
    split
    · exact hstored.trans (of_regs_eq rfl rfl)
    · exact hstored

end State.SameEngines

/-! EXACT_JOB_START and EXACT_JOB_COMPLETE (R169, R171, R174). -/

/-- The state in which the job at the head of the queue runs. -/
def State.jobStarted (s : State) (l : Nat) (j : XeJob) (rest : List XeJob) : State :=
  (s.modXe l fun e => { e with queue := rest, running := some j }).showXe l

theorem exec_exactJobStart {s : State} {l : ClusterId} {j : XeJob} {rest : List XeJob} (hidle : (s.xe l).running = none)
    (hqueue : (s.xe l).queue = j :: rest) (hworks : (s.xe l).failed = false) :
    exec (.exactJobStart l) s = .next (s.jobStarted l j rest) := by
  change execExactJobStart l s = _
  simp only [execExactJobStart, hidle, hqueue, hworks, Bool.false_eq_true, if_false]
  rfl

/-- The state in which a job without residue faults has been written, and whether a word of it is poisoned (R174, R184). -/
def State.jobWritten (s : State) (l : Nat) (j : XeJob) : State × Bool := (s.operandErrors l j.job (descOf j.words)).runJob l j []

/-- The state in which the engine is free of the job it has written (R174). -/
def State.jobLeft (s : State) (l : Nat) (j : XeJob) : State :=
  ((s.jobWritten l j).1.modXe l fun e => { e with running := none }).showXe l

/-- The state in which a written job has signalled its token and is counted (R174). -/
def State.jobDone (s : State) (l : Nat) (j : XeJob) : State :=
  ((s.jobLeft l j).signal l (descOf j.words).token 1 (s.jobWritten l j).2).incWrap (xeJobsDone l) 1

theorem exec_exactJobComplete {s : State} {l : ClusterId} {j : XeJob} (hruns : (s.xe l).running = some j)
    (hworks : (s.xe l).failed = false) : exec (.exactJobComplete l []) s = .next ((s.jobDone l j).residueFail l) := by
  change execExactJobComplete l [] s = _
  simp only [execExactJobComplete, hruns, hworks, ite_self, List.foldl_nil, Bool.false_eq_true, if_false]
  rfl

theorem State.jobWritten_sameEngines (s : State) (l : Nat) (j : XeJob) : SameEngines s (s.jobWritten l j).1 :=
  (SameEngines.operandErrors s l j.job (descOf j.words)).runJob l j []

theorem State.jobLeft_xe (s : State) (l : Nat) (j : XeJob) : (s.jobLeft l j).xe l = { s.xe l with running := none } := by
  rw [State.jobLeft, State.showXe_xe, State.xe_modXe_same, (s.jobWritten_sameEngines l j).xe_eq]

theorem engineReg_xeJobsReg (l : Nat) : engineReg (xeJobsReg l) := ⟨l, by unfold xeJobsReg; omega⟩

theorem State.jobLeft_fld_done (s : State) (l : Nat) (j : XeJob) : (s.jobLeft l j).fld (xeJobsDone l) = s.fld (xeJobsDone l) := by
  have hne : xeJobsReg l ≠ xeModeReg l := by unfold xeJobsReg xeModeReg; omega
  have hreg : (s.jobLeft l j).reg (xeJobsReg l) = s.reg (xeJobsReg l) := by
    rw [State.jobLeft, State.reg_showXe_ne _ hne]
    exact (s.jobWritten_sameEngines l j).reg _ (engineReg_xeJobsReg l)
  exact congrArg (fun r : W64 => bitsOf r.toNat 32 32) hreg

theorem State.jobLeft_signal (s : State) (l : Nat) (j : XeJob) (p : Bool) :
    SameEngines (s.jobLeft l j) ((s.jobLeft l j).signal l (descOf j.words).token 1 p) :=
  (SameEngines.refl _).signal l 1 (bitsOf_lt _ _ 8 : (descOf j.words).token < 2 ^ 8) p

theorem State.jobDone_xe (s : State) (l : Nat) (j : XeJob) : (s.jobDone l j).xe l = { s.xe l with running := none } := by
  rw [State.jobDone, State.xe, State.incWrap_cl, ← State.xe, (s.jobLeft_signal l j _).xe_eq, s.jobLeft_xe]

theorem State.jobDone_fld_done (s : State) (l : Nat) (j : XeJob) :
    (s.jobDone l j).fld (xeJobsDone l) = (s.fld (xeJobsDone l) + 1) % 2 ^ (xeJobsDone l).w := by
  have hsignal := (s.jobLeft_signal l j (s.jobWritten l j).2).reg _ (engineReg_xeJobsReg l)
  have hfld : ((s.jobLeft l j).signal l (descOf j.words).token 1 (s.jobWritten l j).2).fld (xeJobsDone l) = s.fld (xeJobsDone l) :=
    (congrArg (fun r : W64 => bitsOf r.toNat 32 32) hsignal).trans (s.jobLeft_fld_done l j)
  rw [State.jobDone, State.incWrap, hfld]
  exact State.fld_setFld_same _ _ _ (by decide : 32 + 32 ≤ 64)

/-- With fewer than three persistent disagreements the engine does not fail (R187). -/
theorem State.residueFail_of_few (s : State) {l : Nat} (h : (s.xe l).persist.length < 3) : s.residueFail l = s :=
  if_neg fun ⟨hthree, _⟩ => Nat.not_le.mpr h hthree

/-- Settles O26: a job is put at the end of the queue and taken from its head; whatever it writes and whatever records it posts, its engine
and the count of its jobs are as they were until it is free. -/
theorem engineTakesJobsInOrder : Obligations.EngineTakesJobsInOrder := by
  refine ⟨?_, ?_, ?_⟩
  · intro s c rd desc hready hjob hp hin hclean hmarks l ws hworks hstate hvalid hsegs hdest hroom
    have hcore : ((s.fetched c).jobQueued l (s.esubJob c (s.gpr c desc).toNat)).core = (s.fetched c).core := State.showXe_core ..
    have hmem : ((s.fetched c).jobQueued l (s.esubJob c (s.gpr c desc).toNat)).mem = s.mem := State.showXe_mem ..
    have hxe := (s.fetched c).jobQueued_xe l (s.esubJob c (s.gpr c desc).toNat)
    have hdepth := (s.fetched c).jobQueued_fld_qdepth l (s.esubJob c (s.gpr c desc).toNat)
    have hexec := exec_esub (rd := rd) hready hjob hp hin hclean hmarks hworks hstate hvalid hsegs hdest hroom
    generalize (s.fetched c).jobQueued l (s.esubJob c (s.gpr c desc).toNat) = u at *
    obtain ⟨hregs, hmems, hmoves⟩ := setGpr_onward_frame rd (BitVec.ofNat 64 (2 ^ 63)) false hcore
    have hxeT : ((u.setGpr c rd (BitVec.ofNat 64 (2 ^ 63)) false).onward c).xe l = u.xe l := by
      rw [State.xe, State.onward, State.modCore_cl, State.setGpr_cl, State.xe]
    have hfldT : ((u.setGpr c rd (BitVec.ofNat 64 (2 ^ 63)) false).onward c).fld (xeModeQdepth l) = u.fld (xeModeQdepth l) :=
      State.fld_congr (by rw [State.onward, State.modCore_regs, State.setGpr_regs]) _
    refine ⟨_, hexec, holds_onward_setGpr .., ?_, ?_, hfldT.trans hdepth, hregs, hmems, hmoves, ?_⟩
    · rw [hxeT, hxe]
      rfl
    · rw [hxeT, hxe]
      rfl
    · rw [State.onward, State.modCore_mem, State.setGpr_mem, hmem]
  · intro s l j rest hidle hqueue hworks
    refine ⟨_, exec_exactJobStart hidle hqueue hworks, ?_, ?_, State.showXe_mem .., State.showXe_core ..⟩
    · rw [State.jobStarted, State.showXe_xe, State.xe_modXe_same]
    · rw [State.jobStarted, State.showXe_xe, State.xe_modXe_same]
  · intro s l j hruns hworks hfew
    have hxe := s.jobDone_xe l j
    have hfail : (s.jobDone l j).residueFail l = s.jobDone l j := State.residueFail_of_few _ (by rw [hxe]; exact hfew)
    refine ⟨_, exec_exactJobComplete hruns hworks, ?_⟩
    rw [hfail, hxe]
    exact ⟨rfl, rfl, s.jobDone_fld_done l j⟩

end Sys2Proof.Machine
end

section
/-! PROOFS. Arbitration (R195 to R200, R432 to R434): what a record and the release of a held product leave of it, how the verdict is counted, and
how ARBITRATION ends a dispute. -/
namespace Sys2Proof.Machine
open Sys2Proof

/-! What is not arbitration. -/

theorem State.xe_congr {s t : State} (h : t.cl = s.cl) (l : Nat) : t.xe l = s.xe l := by rw [State.xe, h, State.xe]

theorem State.xe_modXe_ne (s : State) {l m : Nat} (f : XeSt → XeSt) (h : m ≠ l) : (s.modXe l f).xe m = s.xe m :=
  tabGet_tabSet_ne _ _ _ _ h

theorem State.modXe_arbData (s : State) (l : Nat) (f : XeSt → XeSt) : (s.modXe l f).cl.arbData = s.cl.arbData := rfl

/-- The arbitrations are as they were, with the engines' registers, the verdicts to come and memory. -/
structure State.SameArbitration (s t : State) : Prop where
  mem : t.mem = s.mem
  effects : t.xb.effects = s.xb.effects
  dispute : ∀ x, (t.xrun x).dispute = (s.xrun x).dispute
  arbData : t.cl.arbData = s.cl.arbData
  arb : ∀ l, (t.xe l).arb = (s.xe l).arb
  persist : ∀ l, (t.xe l).persist = (s.xe l).persist
  reg : ∀ o, engineReg o → t.reg o = s.reg o

namespace State.SameArbitration
variable {s t u : State}

theorem refl (s : State) : SameArbitration s s := ⟨rfl, rfl, fun _ => rfl, rfl, fun _ => rfl, fun _ => rfl, fun _ _ => rfl⟩

theorem trans (h : SameArbitration s t) (k : SameArbitration t u) : SameArbitration s u where
  mem := k.mem.trans h.mem
  effects := k.effects.trans h.effects
  dispute x := (k.dispute x).trans (h.dispute x)
  arbData := k.arbData.trans h.arbData
  arb l := (k.arb l).trans (h.arb l)
  persist l := (k.persist l).trans (h.persist l)
  reg o ho := (k.reg o ho).trans (h.reg o ho)

theorem of_reg_eq (hmem : t.mem = s.mem) (hxb : t.xb = s.xb) (hcl : t.cl = s.cl) (hreg : ∀ o, engineReg o → t.reg o = s.reg o) :
    SameArbitration s t where
  mem := hmem
  effects := by rw [hxb]
  dispute x := by rw [State.xrun, hxb, State.xrun]
  arbData := by rw [hcl]
  arb l := by rw [State.xe_congr hcl]
  persist l := by rw [State.xe_congr hcl]
  reg := hreg

/-- Only the cores and what is outside the chain have changed. -/
theorem of_eqs (hmem : t.mem = s.mem) (hxb : t.xb = s.xb) (hcl : t.cl = s.cl) (hregs : t.regs = s.regs) : SameArbitration s t :=
  of_reg_eq hmem hxb hcl fun o _ => State.reg_congr hregs o

theorem of_noted (h : Noted s t) : SameArbitration s t := of_reg_eq h.mem_eq h.xb_eq h.cl_eq (SameEngines.of_noted h).reg

theorem setFld (h : SameArbitration s t) {f : Fld} (hf : ¬ engineReg f.off) (v : Nat) : SameArbitration s (t.setFld f v) :=
  h.trans (of_reg_eq rfl rfl rfl fun _ ho => t.reg_setFld_engineReg hf v ho)

theorem modCore (h : SameArbitration s t) (c : Nat) (f : CoreSt → CoreSt) : SameArbitration s (t.modCore c f) :=
  h.trans (of_eqs rfl rfl rfl rfl)

theorem draw (h : SameArbitration s t) (n : Nat) : SameArbitration s (t.draw n) := h.trans (of_eqs rfl rfl rfl rfl)

/-- A change of a crossbar's products that keeps its dispute. -/
theorem modXrun (h : SameArbitration s t) (x : Nat) {f : XbRun → XbRun} (hf : ∀ r, (f r).dispute = r.dispute) :
    SameArbitration s (t.modXrun x f) := by
  refine h.trans ⟨rfl, rfl, fun y => ?_, rfl, fun _ => rfl, fun _ => rfl, fun _ _ => rfl⟩
  by_cases hy : y = x
  · rw [hy, State.xrun_modXrun_same, hf]
  · rw [State.xrun_modXrun_ne _ _ hy]

/-- A change of an engine's jobs. -/
theorem modXe (h : SameArbitration s t) (l : Nat) {f : XeSt → XeSt} (harb : ∀ e, (f e).arb = e.arb)
    (hpersist : ∀ e, (f e).persist = e.persist) : SameArbitration s (t.modXe l f) := by
  refine h.trans ⟨rfl, rfl, fun _ => rfl, rfl, fun m => ?_, fun m => ?_, fun _ _ => rfl⟩
  all_goals
    by_cases hm : m = l
    · simp only [hm, State.xe_modXe_same, harb, hpersist]
    · rw [State.xe_modXe_ne _ _ hm]

/-! Records. -/

theorem suspectCore (h : SameArbitration s t) (c : Nat) : SameArbitration s (t.suspectCore c) := by
  have hoff : ¬ engineReg (clRemapReg (c / 32) (c % 32)) := by
    rw [clRemapReg, Nat.add_assoc]
    exact not_engineReg_window _ (.inl (by omega))
  unfold State.suspectCore
  split
  · exact h.setFld hoff 1
  · exact h

/-- A latched cluster's engine keeps its arbitrations: its jobs alone are marked (R447). -/
theorem latchCluster (h : SameArbitration s t) (l : Nat) : SameArbitration s (t.latchCluster l) := by
  have hlatch : SameArbitration s ((List.range 32).foldl (fun u k => u.setLatch (32 * l + k)) t) :=
    List.foldlRecOn _ _ h fun _ hu _ _ => hu.modCore ..
  unfold State.latchCluster
  extract_lets latched
  exact hlatch.modXe l (fun _ => rfl) fun _ => rfl

theorem reach (h : SameArbitration s t) (r : Rec) (raised : Bool) : SameArbitration s (t.reach r raised) := by
  unfold State.reach
  repeat' split
  · exact h.suspectCore _
  · exact h.latchCluster _
  all_goals exact h

theorem post (h : SameArbitration s t) {r : Rec} (hpart : ∀ n, r.part = some n → n < 16) : SameArbitration s (t.post r) := by
  obtain ⟨u, hu, hpost⟩ := t.post_eq_recAct r
  have hact := Noted.recAct u (t.raisedRec r).2 (r := (t.raisedRec r).1) (by rwa [t.raisedRec_part])
  exact hpost ▸ ((h.trans (of_noted hu)).reach _ _).trans (of_noted hact)

/-! The release of a held product (R434). -/

theorem scratchErrors (h : SameArbitration s t) (c a n : Nat) : SameArbitration s (t.scratchErrors c a n) := by
  refine List.foldlRecOn _ _ h fun u hu w _ => hu.trans ?_
  dsimp only
  repeat' split
  · exact refl u
  all_goals
    refine SameArbitration.post ?_ fun _ hn => State.partOf_lt hn
    exact of_eqs rfl rfl rfl rfl

theorem writeResults (h : SameArbitration s t) (p : Product) (out : List Int) (poison : Bool) :
    SameArbitration s (t.writeResults p out poison) := by
  unfold State.writeResults
  extract_lets old vals bytes marks sat stored
  have hstored : SameArbitration s stored := h.trans (of_eqs rfl rfl rfl rfl)
  split
  · exact hstored.modCore ..
  · exact hstored

theorem wakeXb (h : SameArbitration s t) (c x : Nat) : SameArbitration s (t.wakeXb c x) := by
  unfold State.wakeXb
  dsimp only
  repeat' split
  · exact h.modCore ..
  · exact h
  · exact h.modCore ..
  · exact h
  · exact h

theorem settleEnd (h : SameArbitration s t) (c : Nat) : SameArbitration s (t.settleEnd c) := by
  unfold State.settleEnd
  repeat' split
  · exact h
  · exact h.modCore ..
  · exact h
  · exact h.modCore ..
  · exact h

end State.SameArbitration

/-- The registers of a crossbar lie apart from the engines' (R46). -/
theorem not_engineReg_xb (x : Nat) : ¬ engineReg (xbUsageReg (xbCluster x) (xbSlot x)) ∧ ¬ engineReg (xbStatReg (xbCluster x) (xbSlot x)) := by
  have hslot : xbSlot x < 512 := Nat.mod_lt _ (by decide)
  rw [xbUsageReg, xbStatReg, Nat.add_assoc, Nat.add_assoc]
  exact ⟨not_engineReg_window _ (.inr (by omega)), not_engineReg_window _ (.inr (by omega))⟩

namespace State.SameArbitration
variable {s t : State}

theorem deliverProduct (h : SameArbitration s t) (x : Nat) (p : Product) : SameArbitration s (t.deliverProduct x p) := by
  obtain ⟨husage, hstat⟩ := not_engineReg_xb x
  unfold State.deliverProduct
  extract_lets l k latched poison read written drawn empty posted lastN budget
  have hread : SameArbitration s read := by
    unfold read
    split
    · exact h.scratchErrors ..
    · exact h
  have hwritten : SameArbitration s written := hread.writeResults ..
  have hdrawn : SameArbitration s drawn := by
    unfold drawn
    split
    · exact hwritten.draw _
    · exact hwritten
  have hempty : SameArbitration s empty := by
    unfold empty
    split
    · exact hdrawn.modCore ..
    · exact hdrawn
  have hposted : SameArbitration s posted := by
    unfold posted
    split
    · exact hempty
    · exact hempty.post fun _ hn => State.partOf_lt hn
  have hlastN : SameArbitration s lastN := hposted.setFld husage _
  have hbudget : SameArbitration s budget := by
    unfold budget
    split
    · exact hlastN.setFld husage _
    · exact hlastN
  split
  · exact hbudget.setFld hstat _
  · exact hbudget

theorem releaseHeld (h : SameArbitration s t) (x : Nat) (p : Product) : SameArbitration s (t.releaseHeld x p) := by
  unfold State.releaseHeld
  extract_lets released
  have hreleased : SameArbitration s released := by
    refine SameArbitration.modXrun (h.deliverProduct x p) x ?_
    exact fun _ => rfl
  exact (hreleased.wakeXb ..).settleEnd _

theorem handOver (h : SameArbitration s t) (x : Nat) (exactOut : Option (List (Nat × Int))) (poison : Bool) :
    SameArbitration s (t.handOver x exactOut poison) := by
  unfold State.handOver
  extract_lets r
  repeat' split
  · exact h.releaseHeld ..
  · refine SameArbitration.modXrun h x ?_
    exact fun _ => rfl
  · exact h
  · exact h

end State.SameArbitration

/-! The end of an arbitration (R195, R197, R433). -/

/-- The state in which a crossbar's latch is free, its engine has turned to the next request, and the verdict waits for the boundary. -/
def State.arbEnded (s : State) (x verdict g : Nat) : State :=
  ((s.modXe (xbCluster x) fun e => { e with arb := e.arb.erase x }).modXrun x fun r => { r with dispute := none }).addEffect x verdict g

theorem State.SameArbitration.endArb (s : State) (x : Nat) (d : Dispute) (verdict : Nat) (dd di : Int) (test : Bool) :
    SameArbitration (s.arbEnded x verdict d.group) (s.endArb x d verdict dd di test) := by
  unfold State.endArb
  extract_lets l turned ended detail
  exact (refl ended).post fun _ hn => State.partOf_lt hn

theorem State.arbEnded_xe (s : State) (x verdict g : Nat) :
    (s.arbEnded x verdict g).xe (xbCluster x) = { s.xe (xbCluster x) with arb := (s.xe (xbCluster x)).arb.erase x } :=
  s.xe_modXe_same (xbCluster x) fun e => { e with arb := e.arb.erase x }

theorem State.arbEnded_xrun (s : State) (x verdict g : Nat) : (s.arbEnded x verdict g).xrun x = { s.xrun x with dispute := none } :=
  State.xrun_modXrun_same (s.modXe (xbCluster x) fun e => { e with arb := e.arb.erase x }) x fun r => { r with dispute := none }

/-! The count of a verdict (R432, R433). -/

/-- u is s with verdict v counted for the engine of cluster l; its arbitrations, the crossbars and memory are as they were. -/
structure State.Judged (s u : State) (l v : Nat) : Prop where
  mem : u.mem = s.mem
  xb : u.xb = s.xb
  arbData : u.cl.arbData = s.cl.arbData
  arb : (u.xe l).arb = (s.xe l).arb
  data : u.fld (xeArbStatDataWrong l)
    = min (s.fld (xeArbStatDataWrong l) + bitNat (decide (v = 1 ∨ v = 3))) (2 ^ (xeArbStatDataWrong l).w - 1)
  index : u.fld (xeArbStatIndexWrong l)
    = min (s.fld (xeArbStatIndexWrong l) + bitNat (decide (v = 2 ∨ v = 3))) (2 ^ (xeArbStatIndexWrong l).w - 1)

/-- An event that counts once where c holds. -/
def State.countIf (s : State) (c : Prop) [Decidable c] (f : Fld) : State := if c then s.incSat f 1 else s

section Count
variable (s : State) (c : Prop) [Decidable c] (f : Fld)

theorem State.countIf_frame : (s.countIf c f).mem = s.mem ∧ (s.countIf c f).xb = s.xb ∧ (s.countIf c f).cl = s.cl := by
  unfold State.countIf
  split
  · exact ⟨State.incSat_mem .., State.incSat_xb .., State.incSat_cl ..⟩
  · exact ⟨rfl, rfl, rfl⟩

/-- A field holds no more than its largest value. -/
theorem State.fld_eq_min_max : s.fld f = min (s.fld f) (2 ^ f.w - 1) :=
  (Nat.min_eq_left (Nat.le_sub_one_of_lt (s.fld_lt f))).symm

theorem State.fld_countIf_same (h : f.lo + f.w ≤ 64) :
    (s.countIf c f).fld f = min (s.fld f + bitNat (decide c)) (2 ^ f.w - 1) := by
  unfold State.countIf bitNat
  split
  case isTrue hc => rw [s.fld_incSat_same 1 h, decide_eq_true hc, if_pos rfl]
  case isFalse hc => rw [decide_eq_false hc, if_neg Bool.false_ne_true, Nat.add_zero, ← s.fld_eq_min_max]

theorem State.fld_countIf_apart (g : Fld) (ho : g.off = f.off) (h : g.lo + g.w ≤ 64) (ha : g.lo + g.w ≤ f.lo ∨ f.lo + f.w ≤ g.lo) :
    (s.countIf c f).fld g = s.fld g := by
  unfold State.countIf
  split
  · exact s.fld_setFld_apart f g _ ho h ha
  · rfl

end Count

/-- XE_ARB_STAT counts a verdict by its code: 1 and 3 for the data, 2 and 3 for the index, 4 for neither (R432). -/
def State.verdictCounted (s : State) (l v : Nat) : State :=
  ((s.countIf (v = 1 ∨ v = 3) (xeArbStatDataWrong l)).countIf (v = 2 ∨ v = 3) (xeArbStatIndexWrong l)).countIf (v = 4)
    (xeArbStatBothWithin l)

theorem State.verdictCounted_judged (s : State) (l v : Nat) : Judged s (s.verdictCounted l v) l v := by
  let u := s.countIf (v = 1 ∨ v = 3) (xeArbStatDataWrong l)
  let w := u.countIf (v = 2 ∨ v = 3) (xeArbStatIndexWrong l)
  obtain ⟨hmem1, hxb1, hcl1⟩ := s.countIf_frame (v = 1 ∨ v = 3) (xeArbStatDataWrong l)
  obtain ⟨hmem2, hxb2, hcl2⟩ := u.countIf_frame (v = 2 ∨ v = 3) (xeArbStatIndexWrong l)
  obtain ⟨hmem3, hxb3, hcl3⟩ := w.countIf_frame (v = 4) (xeArbStatBothWithin l)
  have hcl : (s.verdictCounted l v).cl = s.cl := hcl3.trans (hcl2.trans hcl1)
  have hdata : (s.verdictCounted l v).fld (xeArbStatDataWrong l) = u.fld (xeArbStatDataWrong l) :=
    (w.fld_countIf_apart _ (xeArbStatBothWithin l) (xeArbStatDataWrong l) rfl (by decide : 40 + 8 ≤ 64) (.inr (by decide : 24 + 8 ≤ 40))).trans
      (u.fld_countIf_apart _ (xeArbStatIndexWrong l) (xeArbStatDataWrong l) rfl (by decide : 40 + 8 ≤ 64) (.inr (by decide : 32 + 8 ≤ 40)))
  have hindex : (s.verdictCounted l v).fld (xeArbStatIndexWrong l) = w.fld (xeArbStatIndexWrong l) :=
    w.fld_countIf_apart _ (xeArbStatBothWithin l) (xeArbStatIndexWrong l) rfl (by decide : 32 + 8 ≤ 64) (.inr (by decide : 24 + 8 ≤ 32))
  have hindex1 : u.fld (xeArbStatIndexWrong l) = s.fld (xeArbStatIndexWrong l) :=
    s.fld_countIf_apart _ (xeArbStatDataWrong l) (xeArbStatIndexWrong l) rfl (by decide : 32 + 8 ≤ 64) (.inl (by decide : 32 + 8 ≤ 40))
  refine ⟨hmem3.trans (hmem2.trans hmem1), hxb3.trans (hxb2.trans hxb1), by rw [hcl], by rw [State.xe_congr hcl], ?_, ?_⟩
  · rw [hdata]
    exact s.fld_countIf_same _ _ (by decide : 40 + 8 ≤ 64)
  · rw [hindex, ← hindex1]
    exact u.fld_countIf_same _ _ (by decide : 32 + 8 ≤ 64)

/-- Without a verdict (code 6) neither the data nor the index is counted as wrong (R198, R200). -/
theorem State.Judged.of_none {s u : State} {l : Nat} (hmem : u.mem = s.mem) (hxb : u.xb = s.xb) (harbData : u.cl.arbData = s.cl.arbData)
    (harb : (u.xe l).arb = (s.xe l).arb) (hdata : u.fld (xeArbStatDataWrong l) = s.fld (xeArbStatDataWrong l))
    (hindex : u.fld (xeArbStatIndexWrong l) = s.fld (xeArbStatIndexWrong l)) : Judged s u l 6 where
  mem := hmem
  xb := hxb
  arbData := harbData
  arb := harb
  data := hdata.trans (s.fld_eq_min_max _)
  index := hindex.trans (s.fld_eq_min_max _)

/-- What the shelver holds has no part in it. -/
theorem State.Judged.setSh {s u : State} {l v : Nat} (h : Judged s u l v) (k : ShelverFile) : Judged s { u with sh := k } l v :=
  ⟨h.mem, h.xb, h.arbData, h.arb, h.data, h.index⟩

/-- A poisoned master is counted (R198). -/
theorem State.masterPoisoned_judged (s : State) (l : Nat) : Judged s (s.incSat (xeArbStatPoisonedMaster l) 1) l 6 :=
  .of_none (State.incSat_mem ..) (State.incSat_xb ..) (congrArg ClusterFile.arbData (State.incSat_cl ..))
    (congrArg XeSt.arb (State.xe_congr (State.incSat_cl ..) l))
    (s.fld_setFld_apart (xeArbStatPoisonedMaster l) (xeArbStatDataWrong l) _ rfl (by decide : 40 + 8 ≤ 64) (.inr (by decide : 16 + 8 ≤ 40)))
    (s.fld_setFld_apart (xeArbStatPoisonedMaster l) (xeArbStatIndexWrong l) _ rfl (by decide : 32 + 8 ≤ 64) (.inr (by decide : 16 + 8 ≤ 32)))

/-- A persistent residue disagreement is shown and counted in XE_RESIDUE_ERR, joins the engine's latest, and is recorded (R186, R187). -/
theorem State.residueEvent_persistent (s : State) (l job row col : Nat) :
    Judged s (s.residueEvent l job { row, col, persistent := true }) l 6
      ∧ ((s.residueEvent l job { row, col, persistent := true }).xe l).persist.length ≤ (s.xe l).persist.length + 1 := by
  have hne : xeArbStatReg l ≠ xeResidueErrReg l := by unfold xeArbStatReg xeResidueErrReg; omega
  unfold State.residueEvent
  extract_lets shown d flagged counted noted
  have hreg : flagged.reg (xeArbStatReg l) = s.reg (xeArbStatReg l) :=
    ((((State.reg_setFld_ne _ _ _ hne).trans (State.reg_setFld_ne _ _ _ hne)).trans (State.reg_setFld_ne _ _ _ hne)).trans
      (State.reg_setFld_ne _ _ _ hne)).trans (State.reg_setFld_ne _ _ _ hne)
  have hle := Nat.le_refl (xeResidueErrReg l)
  have hregs : RegsFrom (xeResidueErrReg l) s flagged :=
    (((((RegsFrom.refl _ s).setFld hle _).setFld hle _).setFld hle _).setFld hle _).incSat hle 1
  have hxe : flagged.xe l = s.xe l := State.xe_congr hregs.cl_eq l
  have hcounted : counted.xe l = { s.xe l with
      persist := flagged.tick :: (s.xe l).persist.filter fun t => decide (flagged.tick < t + 1048576) } := by
    unfold counted
    rw [State.xe_modXe_same, hxe]
  have hpost : Noted counted (counted.post (recCluster counted l 3 3 0 job (d ||| 1))) :=
    counted.post_noted (Nat.le_refl 2) fun _ hn => State.partOf_lt hn
  rw [if_pos rfl]
  generalize counted.post (recCluster counted l 3 3 0 job (d ||| 1)) = u at hpost
  have hregU : u.reg (xeArbStatReg l) = s.reg (xeArbStatReg l) :=
    (hpost.above _ (by unfold xeArbStatReg clBase; omega)).trans ((State.reg_congr (State.modXe_regs ..) _).trans hreg)
  have hxeU : u.xe l = counted.xe l := State.xe_congr hpost.cl_eq l
  refine ⟨.of_none (hpost.mem_eq.trans ((State.modXe_mem ..).trans hregs.mem_eq))
    (hpost.xb_eq.trans ((State.modXe_xb ..).trans hregs.xb_eq)) ?_ ?_ ?_ ?_, ?_⟩
  · rw [hpost.cl_eq, State.modXe_arbData, hregs.cl_eq]
  · rw [hxeU, hcounted]
  · exact congrArg (fun r : W64 => bitsOf r.toNat 40 8) hregU
  · exact congrArg (fun r : W64 => bitsOf r.toNat 32 8) hregU
  · rw [hxeU, hcounted]
    exact Nat.succ_le_succ (List.length_filter_le ..)

/-! The verdict (R195, R432 to R434). -/

/-- The differences of the second conversion of a disputed phase from the exact charges of the group block (R432). -/
def State.diffsAgainst (s : State) (x : Nat) (d : Dispute) (ph : Phase) (blk : List Byte) : Int × Int :=
  verdictDiffs (s.prodValues x (s.prodCodes x d.prod ph d.base)) (exactCharge d.prod.prec d.group blk d.prod.fmt d.prod.vec ph)
    (rangeCode ph.act) d.group

/-- The verdict of R432 on them. -/
def State.verdictAgainst (s : State) (x : Nat) (d : Dispute) (ph : Phase) (blk : List Byte) : Nat :=
  verdictOf (s.fld (xbStatQuality (xbCluster x) (xbSlot x))) ph.act (rangeCode ph.act) (s.diffsAgainst x d ph blk).1
    (s.diffsAgainst x d ph blk).2

/-- The arbitration of a dispute has ended with a verdict: the verdict is counted, the dispute is over, and what follows is no arbitration. -/
def State.EndsWith (s : State) (x verdict g : Nat) (t : State) : Prop :=
  ∃ u, Judged s u (xbCluster x) verdict ∧ SameArbitration (u.arbEnded x verdict g) t

theorem State.giveVerdict_ends (s : State) (x : Nat) (d : Dispute) (ph : Phase) (blk : List Byte) :
    s.EndsWith x (s.verdictAgainst x d ph blk) d.group (s.giveVerdict x d ph blk) := by
  refine ⟨_, s.verdictCounted_judged (xbCluster x) (s.verdictAgainst x d ph blk), ?_⟩
  unfold State.giveVerdict
  extract_lets l h p vals e v dataCounted indexCounted counted ended
  have hended : SameArbitration (counted.arbEnded x v d.group) ended := .endArb ..
  split
  · exact hended.handOver ..
  · exact hended

/-- Data that is poisoned gives no verdict, which is code 6 (R198). -/
theorem State.noVerdict_poisoned_ends (s : State) (x : Nat) (d : Dispute) : s.EndsWith x 6 d.group (s.noVerdict x d true) := by
  unfold State.noVerdict
  extract_lets l poisoned sh counted ended handed
  have hpoisoned : Judged s poisoned l 6 := s.masterPoisoned_judged l
  have hcounted : Judged s counted l 6 := by
    unfold counted
    rw [if_pos rfl]
    split
    · exact hpoisoned.setSh _
    · exact hpoisoned
  have hended : SameArbitration (counted.arbEnded x 6 d.group) ended := .endArb ..
  rw [if_pos rfl]
  refine ⟨counted, hcounted, ?_⟩
  unfold handed
  split
  · exact hended.handOver ..
  · exact hended

/-- An engine whose integer path cannot be trusted gives none either, and outlives it with fewer than two persistent disagreements before
(R187, R200). -/
theorem State.noVerdict_residue_ends (s : State) (x : Nat) (d : Dispute) (hfew : (s.xe (xbCluster x)).persist.length < 2) :
    s.EndsWith x 6 d.group (s.noVerdict x d false) := by
  obtain ⟨hjudged, hlength⟩ := s.residueEvent_persistent (xbCluster x) d.prod.job 0 0
  unfold State.noVerdict
  extract_lets l poisoned sh counted ended handed
  have hcounted : counted = s.residueEvent l d.prod.job { row := 0, col := 0, persistent := true } := if_neg Bool.false_ne_true
  rw [← hcounted] at hjudged hlength
  have hended : SameArbitration (counted.arbEnded x 6 d.group) ended := .endArb ..
  have hhanded : SameArbitration (counted.arbEnded x 6 d.group) handed := by
    unfold handed
    split
    · exact hended.handOver ..
    · exact hended
  have hpersist : (handed.xe l).persist = (counted.xe l).persist := by rw [hhanded.persist, State.arbEnded_xe]
  rw [if_neg Bool.false_ne_true, State.residueFail_of_few _ (by rw [hpersist]; exact Nat.lt_of_le_of_lt hlength (Nat.succ_lt_succ hfew))]
  exact ⟨counted, hjudged, hhanded⟩

/-! ARBITRATION. -/

theorem State.readErrors_of_clean {s : State} {l a n : Nat} (job : Nat) (h : s.memClean (clMem l + a) n) : s.readErrors l job a n = s :=
  foldl_eq_self fun w hw => by simp only [h w hw]

/-- The state in which ARB_BUF may be filled again. -/
def State.arbBufFree (s : State) (l : Nat) : State := { s with cl := { s.cl with arbData := tabSet false s.cl.arbData l false } }

/-- How the engine settles the request at the head of its queue: by its data, where that and its integer path can be trusted (R195, R198,
R200). -/
def State.settleDispute (s : State) (l x : Nat) (d : Dispute) (ph : Phase) (engineOk : Bool) : State :=
  let a := clMem l + s.fld (xeArbCfgArbBuf l)
  if s.anyPoison a blockBytes then (s.arbBufFree l).noVerdict x d true
  else if engineOk then (s.arbBufFree l).giveVerdict x d ph (s.bytes a blockBytes)
  else (s.arbBufFree l).noVerdict x d false

theorem exec_arbitration {s : State} {l : ClusterId} (engineOk : Bool) {x : Nat} {rest : List Nat} {d : Dispute} {ph : Phase}
    (hhead : (s.xe l).arb = x :: rest) (hguard : s.guarded = false) (hworks : (s.xe l).failed = false)
    (hdata : tabGet false s.cl.arbData l = true) (hdispute : (s.xrun x).dispute = some d)
    (hph : (vecPhases d.prod.fmt d.prod.vec)[d.period]? = some ph) (hclean : s.memClean (clMem l + s.fld (xeArbCfgArbBuf l)) blockBytes) :
    exec (.arbitration l engineOk) s = .next (s.settleDispute l x d ph engineOk) := by
  change execArbitration l engineOk s = _
  have hgo : ¬ ((s.guarded || (s.xe l).failed || !(tabGet false s.cl.arbData l)) = true) := by simp [hguard, hworks, hdata]
  have hread : (s.arbBufFree l).readErrors l d.prod.job ((s.arbBufFree l).fld (xeArbCfgArbBuf l)) blockBytes = s.arbBufFree l :=
    State.readErrors_of_clean _ hclean
  unfold execArbitration
  rw [hhead]
  dsimp only
  rw [if_neg hgo, hdispute]
  dsimp only
  rw [hph]
  unfold State.arbBufFree at hread
  dsimp only
  rw [hread]
  rfl

/-- What an ended arbitration leaves of its engine, its crossbar and memory. -/
theorem State.EndsWith.frame {s t : State} {x v g : Nat} (h : s.EndsWith x v g t) :
    (t.xrun x).dispute = none ∧ (t.xe (xbCluster x)).arb = (s.xe (xbCluster x)).arb.erase x ∧ t.cl.arbData = s.cl.arbData
      ∧ t.xb.effects = s.xb.effects ++ [(x, v, g)] ∧ t.mem = s.mem := by
  obtain ⟨u, hjudged, hsame⟩ := h
  refine ⟨?_, ?_, hsame.arbData.trans hjudged.arbData, ?_, hsame.mem.trans hjudged.mem⟩
  · rw [hsame.dispute, State.arbEnded_xrun]
  · rw [hsame.arb, State.arbEnded_xe, hjudged.arb]
  · rw [hsame.effects, ← hjudged.xb]
    rfl

theorem engineReg_xeArbStatReg (l : Nat) : engineReg (xeArbStatReg l) := ⟨l, by unfold xeArbStatReg; omega⟩

/-- What an ended arbitration counts. -/
theorem State.EndsWith.counts {s t : State} {x v g : Nat} (h : s.EndsWith x v g t) :
    t.fld (xeArbStatDataWrong (xbCluster x))
        = min (s.fld (xeArbStatDataWrong (xbCluster x)) + bitNat (decide (v = 1 ∨ v = 3))) (2 ^ (xeArbStatDataWrong (xbCluster x)).w - 1)
      ∧ t.fld (xeArbStatIndexWrong (xbCluster x))
        = min (s.fld (xeArbStatIndexWrong (xbCluster x)) + bitNat (decide (v = 2 ∨ v = 3))) (2 ^ (xeArbStatIndexWrong (xbCluster x)).w - 1) := by
  obtain ⟨u, hjudged, hsame⟩ := h
  have hreg : t.reg (xeArbStatReg (xbCluster x)) = u.reg (xeArbStatReg (xbCluster x)) := hsame.reg _ (engineReg_xeArbStatReg _)
  exact ⟨(congrArg (fun r : W64 => bitsOf r.toNat 40 8) hreg).trans hjudged.data,
    (congrArg (fun r : W64 => bitsOf r.toNat 32 8) hreg).trans hjudged.index⟩

/-- The code with which the request at the head is settled: 6 without a verdict. -/
def State.settledCode (s : State) (l x : Nat) (d : Dispute) (ph : Phase) (engineOk : Bool) : Nat :=
  let a := clMem l + s.fld (xeArbCfgArbBuf l)
  if (s.anyPoison a blockBytes || !engineOk) = true then 6 else s.verdictAgainst x d ph (s.bytes a blockBytes)

theorem State.settleDispute_ends {s : State} {l x : Nat} (d : Dispute) (ph : Phase) {engineOk : Bool} (hl : xbCluster x = l)
    (hfew : s.anyPoison (clMem l + s.fld (xeArbCfgArbBuf l)) blockBytes = true ∨ engineOk = true ∨ (s.xe l).persist.length < 2) :
    (s.arbBufFree l).EndsWith x (s.settledCode l x d ph engineOk) d.group (s.settleDispute l x d ph engineOk) := by
  unfold State.settleDispute State.settledCode
  extract_lets a
  by_cases hpoison : s.anyPoison a blockBytes = true
  · rw [if_pos (by rw [hpoison, Bool.true_or]), if_pos hpoison]
    exact (s.arbBufFree l).noVerdict_poisoned_ends x d
  · have hclean : s.anyPoison a blockBytes = false := Bool.eq_false_iff.mpr hpoison
    rw [hclean, Bool.false_or, if_neg Bool.false_ne_true]
    cases engineOk with
    | true =>
      rw [if_neg (by decide), if_pos rfl]
      exact (s.arbBufFree l).giveVerdict_ends x d ph (s.bytes a blockBytes)
    | false =>
      have hpersist : (s.xe (xbCluster x)).persist.length < 2 := hl ▸ (hfew.resolve_left hpoison).resolve_left Bool.false_ne_true
      rw [if_pos (by decide), if_neg Bool.false_ne_true]
      exact (s.arbBufFree l).noVerdict_residue_ends x d hpersist

/-- Settles O33: whether a verdict is given or not, it is counted, the arbitration of the request at the head is ended, and what follows (the
record, the release of a held product) is no arbitration. -/
theorem arbitrationEndsTheDispute : Obligations.ArbitrationEndsTheDispute := by
  intro s l engineOk x rest d ph hhead hl hguard hworks hdata hdispute hph a none_ h e v hclean hfew
  have hends := State.settleDispute_ends d ph hl hfew
  have hv : s.settledCode l x d ph engineOk = v := by
    unfold State.settledCode State.verdictAgainst
    rw [hl]
    rfl
  rw [hv] at hends
  obtain ⟨hfree, harb, hbuf, heffects, hmem⟩ := hends.frame
  obtain ⟨hdataWrong, hindexWrong⟩ := hends.counts
  rw [hl] at harb hdataWrong hindexWrong
  refine ⟨_, exec_arbitration engineOk hhead hguard hworks hdata hdispute hph hclean, hfree, ?_, ?_, heffects, hdataWrong, hindexWrong, hmem⟩
  · have hqueue : ((s.arbBufFree l).xe l).arb = x :: rest := hhead
    rw [harb, hqueue, List.erase_cons_head]
  · rw [hbuf]
    exact tabGet_tabSet_same false s.cl.arbData l false

end Sys2Proof.Machine
end

section
/-! PROOFS. Memory and the stream engines while a word is reported (R206, R208, R249, R272): what a record outside the chain, a completion entry, a
class 3 packet and an arrival that ends leave as they were, and that no read or write of HBM plants a bit error. -/
namespace Sys2Proof.Machine
open Sys2Proof

/-! Records outside the chain (R446). -/

theorem State.Noted.se_eq {s t : State} (h : Noted s t) : t.se = s.se := by rw [h.rest]

/-- A record of the module's domain or of a unit outside the chain is not raised. -/
theorem State.raisedRec_outside (s : State) {r : Rec} (hdomain : 4 ≤ r.domain) : s.raisedRec r = (r, false) := by
  unfold State.raisedRec
  split
  · rw [State.escalate, if_neg (by simp [Nat.not_lt.mpr hdomain])]
  · rfl

theorem State.post_eq_recAct_outside (s : State) {r : Rec} (hdomain : 4 ≤ r.domain) :
    ∃ u, Noted s u ∧ s.post r = u.recAct r false := by
  obtain ⟨u, hu, hpost⟩ := s.post_eq_recAct r
  rw [s.raisedRec_outside hdomain] at hpost
  exact ⟨u, hu, hpost⟩

/-- Below the FATAL severities such a record acts on nothing, whatever partition it names. -/
theorem State.post_noted_outside (s : State) {r : Rec} (hdomain : 4 ≤ r.domain) (hsev : r.sev < 4) : Noted s (s.post r) := by
  obtain ⟨u, hu, hpost⟩ := s.post_eq_recAct_outside hdomain
  have hact : u.recAct r false = u := by
    unfold State.recAct
    rw [if_neg (by omega : ¬ r.sev = 4), if_neg (by omega : ¬ r.sev = 5)]
    rfl
  rw [hpost, hact]
  exact hu

/-- MODULE_FATAL (R449). -/
theorem State.post_fatalNow (s : State) {r : Rec} (hdomain : 4 ≤ r.domain) (hsev : r.sev = 5) : (s.post r).ig.fatalNow = true := by
  obtain ⟨u, -, hpost⟩ := s.post_eq_recAct_outside hdomain
  rw [hpost, State.recAct, if_neg (by omega : ¬ r.sev = 4), if_pos hsev]

/-! Bit errors (R206). -/

theorem tabFind_filter_of_none {α : Type} (t : List (Nat × α)) (p : Nat × α → Bool) {k : Nat} (h : tabFind t k = none) :
    tabFind (t.filter p) k = none := by
  induction t with
  | nil => rfl
  | cons e r ih =>
    obtain ⟨j, v⟩ := e
    by_cases hj : j = k
    · simp [tabFind, hj] at h
    · rw [tabFind, if_neg hj] at h
      by_cases hp : p (j, v)
      · rw [List.filter_cons_of_pos hp, tabFind, if_neg hj, ih h]
      · rw [List.filter_cons_of_neg hp, ih h]

/-- A word without a bit error in s has none in t. -/
structure State.NoNewUpset (s t : State) : Prop where
  clean : ∀ w, tabFind s.mem.upset w = none → tabFind t.mem.upset w = none

namespace State.NoNewUpset
variable {s t u : State}

theorem refl (s : State) : NoNewUpset s s := ⟨fun _ h => h⟩

theorem trans (h : NoNewUpset s t) (k : NoNewUpset t u) : NoNewUpset s u := ⟨fun w hw => k.clean w (h.clean w hw)⟩

theorem of_upset_eq (h : t.mem.upset = s.mem.upset) : NoNewUpset s t := ⟨fun _ hw => h ▸ hw⟩

theorem clearUpsets (h : NoNewUpset s t) (ws : List Nat) : NoNewUpset s (t.clearUpsets ws) :=
  h.trans ⟨fun _ hw => tabFind_filter_of_none _ _ hw⟩

theorem storeMem (h : NoNewUpset s t) (a : Nat) (d : List Byte) (bp : List Bool) : NoNewUpset s (t.storeMem a d bp) :=
  h.trans ⟨fun _ hw => tabFind_filter_of_none _ _ hw⟩

end State.NoNewUpset

/-- A word whose error is cleared carries none. -/
theorem State.clearUpsets_self (s : State) (w : Nat) : tabFind (s.clearUpsets [w]).mem.upset w = none := by
  have herase : (s.clearUpsets [w]).mem.upset = tabErase s.mem.upset w := by
    simp only [State.clearUpsets, tabErase, List.mem_singleton]
  rw [herase, tabFind_tabErase_same]

@[simp] theorem State.formChecks_upset (s : State) (step k a0 a stop : Nat) :
    (s.formChecks step k a0 a stop).mem.upset = s.mem.upset := by
  induction k generalizing s a with
  | zero => rfl
  | succ k ih =>
    rw [State.formChecks]
    split
    · rfl
    · rw [ih]

@[simp] theorem State.hbmCorrected_mem (s : State) (where_ a job : Nat) (part : Option Nat) :
    (s.hbmCorrected where_ a job part).mem = s.mem := by
  unfold State.hbmCorrected
  dsimp only
  split
  · rw [(State.post_noted_outside _ (r := recEcc 2 where_ a job part) (Nat.le_succ 4) (Nat.le_succ 3)).mem_eq]
    rfl
  · rfl

/-- A word that cannot be corrected is marked, its bytes kept. -/
@[simp] theorem State.hbmLost_mem (s : State) (where_ a job : Nat) (part : Option Nat) :
    (s.hbmLost where_ a job part).mem = (s.setMarks [a / 64] true).mem := by
  unfold State.hbmLost
  dsimp only
  rw [(State.post_noted_outside _ (r := recEcc _ where_ a job part) (Nat.le_succ 4)
    (by dsimp only [recEcc, recUnit]; split <;> decide)).mem_eq]
  rfl

namespace State.NoNewUpset
variable {s t : State}

theorem hbmErrors (h : NoNewUpset s t) (where_ a n job : Nat) (part : Option Nat) : NoNewUpset s (t.hbmErrors where_ a n job part) := by
  refine List.foldlRecOn _ _ h fun u hu w _ => ?_
  split
  · exact hu
  · dsimp only
    split
    · exact (hu.clearUpsets [w]).trans (of_upset_eq (by rw [hbmCorrected_mem]))
    · exact (hu.clearUpsets [w]).trans (of_upset_eq (by rw [hbmLost_mem]; rfl))

theorem hbmWrite (h : NoNewUpset s t) (a : Nat) (d : List Byte) (bp : List Bool) (step : Nat) :
    NoNewUpset s (t.hbmWrite a d bp step) :=
  (h.storeMem a _ _).trans (of_upset_eq (State.formChecks_upset ..))

theorem hbmUpdate (h : NoNewUpset s t) (a : Nat) (d : List Byte) : NoNewUpset s (t.hbmUpdate a d) :=
  (h.hbmErrors ..).hbmWrite ..

theorem restoreRecord (h : NoNewUpset s t) (n : Nat) : NoNewUpset s (t.restoreRecord n) := by
  have hdue : NoNewUpset s (t.trimsDue n) := h.trans (of_upset_eq rfl)
  have hrestored := hdue.hbmWrite (calAddr n) (t.storedRecord n) (allBits 12288 false) 0
  unfold State.restoreRecord
  dsimp only
  split
  · refine List.foldlRecOn _ _ hrestored fun u hu i _ => ?_
    split
    · exact hu.hbmUpdate ..
    · exact hu
  · exact hrestored

end State.NoNewUpset

/-! Completion entries (R337). -/

@[simp] theorem State.writeCpl_mem (s : State) (p k : Nat) (e : CplBody) : (s.writeCpl p k e).mem = s.mem := by
  unfold State.writeCpl
  dsimp only
  repeat' split
  all_goals rfl

@[simp] theorem State.writeCpl_se (s : State) (p k : Nat) (e : CplBody) : (s.writeCpl p k e).se = s.se := by
  unfold State.writeCpl
  dsimp only
  repeat' split
  all_goals rfl

@[simp] theorem State.doneReq_mem (s : State) (r : StageReq) (status reason handle gen tiles : Nat) :
    (s.doneReq r status reason handle gen tiles).mem = s.mem := State.writeCpl_mem ..

/-! Class 3 packets (R370 to R375). -/

@[simp] theorem State.owe_mem (s : State) (p cls vc n : Nat) : (s.owe p cls vc n).mem = s.mem := by
  unfold State.owe
  dsimp only
  split <;> rfl

theorem State.trySend_mem {s t : State} {p : Nat} {e : Egress} (h : s.trySend p e = some t) : t.mem = s.mem := by
  unfold State.trySend at h
  dsimp only at h
  split at h
  case isTrue =>
    rw [← Option.some.inj h]
    split
    · rw [State.owe_mem, State.modFport_mem]
    · rfl
  case isFalse => exact absurd h (by simp)

@[simp] theorem State.drain3_mem (s : State) (p : Nat) : (s.drain3 p).mem = s.mem := by
  have hloop (n : Nat) : (s.drain3Loop p n).mem = s.mem := by
    induction n generalizing s with
    | zero => rfl
    | succ n ih =>
      rw [State.drain3Loop]
      repeat' split
      · rfl
      · rfl
      case h_2 t hsent => rw [ih, State.modFport_mem, State.trySend_mem hsent]
  unfold State.drain3
  split
  · rfl
  · exact hloop _

@[simp] theorem State.discardAt_mem (s : State) (p : Nat) (k : Packet) (sub detail : Nat) (part : Option Nat) :
    (s.discardAt p k sub detail part).mem = s.mem :=
  (State.post_noted_outside _ (Nat.le_succ 4) (by dsimp only [recUnit]; split <;> decide)).mem_eq

@[simp] theorem State.sendClass3_mem (s : State) (k : Packet) (from_ : Option (Nat × Nat)) : (s.sendClass3 k from_).mem = s.mem := by
  unfold State.sendClass3
  split
  · rfl
  · split
    · rw [State.drain3_mem, State.modFport_mem]
    · rw [State.discardAt_mem]
      split
      · exact s.owe_mem ..
      · rfl

@[simp] theorem State.askPeer_mem (s : State) (peer id version shard : Nat) : (s.askPeer peer id version shard).mem = s.mem :=
  s.sendClass3_mem ..

/-! The shelver's answer to a poisoned word (R272). -/

@[simp] theorem State.wantRestore_mem (s : State) (sec t : Nat) : (s.wantRestore sec t).mem = s.mem := by
  unfold State.wantRestore
  split <;> rfl

@[simp] theorem State.endStager_mem (s : State) (h status reason : Nat) : (s.endStager h status reason).mem = s.mem := by
  unfold State.endStager State.doneOpt
  dsimp only
  split
  · rw [State.doneReq_mem, State.modVol_mem]
  · rfl

@[simp] theorem State.endWatch_mem (s : State) (h status reason : Nat) : (s.endWatch h status reason).mem = s.mem := by
  unfold State.endWatch
  refine List.foldlRecOn (motive := fun u : State => u.mem = s.mem) _ _ rfl fun u hu r _ => ?_
  rw [State.doneReq_mem, hu]

@[simp] theorem State.showShelver_mem (s : State) : s.showShelver.mem = s.mem := rfl

@[simp] theorem State.dropLibrary_mem (s : State) (h : Nat) : (s.dropLibrary h).mem = s.mem := by
  have hlost : (s.loseVolume h 1).mem = s.mem := by
    unfold State.loseVolume
    rw [State.showShelver_mem, State.endWatch_mem, State.endStager_mem, State.modVol_mem]
    rfl
  unfold State.dropLibrary
  split
  case h_4 => rfl
  all_goals exact hlost

@[simp] theorem State.mendShard_mem (s : State) (h i : Nat) : (s.mendShard h i).mem = s.mem := by
  unfold State.mendShard
  dsimp only
  repeat' split
  · rfl
  · exact s.dropLibrary_mem h
  · rw [State.askPeer_mem, State.modVol_mem]

/-! Arrivals that a failed engine cuts short (R158). -/

@[simp] theorem State.flushGap_se (s : State) (l q : Nat) : (s.flushGap l q).se = s.se := by
  unfold State.flushGap
  split <;> rfl

@[simp] theorem State.postNotice_se (s : State) (l q : Nat) (w : W64) : (s.postNotice l q w).se = s.se := s.flushGap_se l q

@[simp] theorem State.showQueue_se (s : State) (l q : Nat) : (s.showQueue l q).se = s.se := rfl

@[simp] theorem State.poisonCells_se (s : State) (l : Nat) (cells : List Nat) : (s.poisonCells l cells).se = s.se := rfl

@[simp] theorem State.writeCell_se (s : State) (l : Nat) (p : QPacket) (data : List Byte) (poison : List Bool) (check : BitVec 32)
    (i : Nat) : (s.writeCell l p data poison check i).se = s.se := by
  unfold State.writeCell
  dsimp only
  rw [State.draw_se, State.storeMem_se]

@[simp] theorem State.writeCells_se (s : State) (l : Nat) (p : QPacket) (data : List Byte) (poison : List Bool) (check : BitVec 32)
    (a b : Nat) : (s.writeCells l p data poison check a b).se = s.se := by
  unfold State.writeCells
  refine List.foldlRecOn (motive := fun u : State => u.se = s.se) _ _ rfl fun u hu _ _ => ?_
  rw [State.writeCell_se, hu]

@[simp] theorem State.latchArrival_se (s : State) (l q : Nat) : (s.latchArrival l q).se = s.se := by
  unfold State.latchArrival
  repeat' split
  all_goals rfl

@[simp] theorem State.cutArrival_se (s : State) (l q : Nat) : (s.cutArrival l q).se = s.se := by
  unfold State.cutArrival
  repeat' split
  · rfl
  · rfl
  · simp

@[simp] theorem State.stopArrival_se (s : State) (l q n : Nat) : (s.stopArrival l q n).se = s.se := by
  unfold State.stopArrival
  extract_lets latched cut
  have hcut : cut.se = s.se := by
    unfold cut
    repeat' split
    all_goals simp [latched]
  split
  · exact hcut
  · simp [hcut]

@[simp] theorem State.endArrival_se (s : State) (l q : Nat) : (s.endArrival l q).se = s.se := by
  unfold State.endArrival
  extract_lets latched cut
  split
  · exact s.latchArrival_se l q
  · extract_lets n a written clean bad checked w noticed
    have hwritten : written.se = s.se := by simp [written, cut, latched]
    have hchecked : checked.se = s.se := by
      unfold checked
      split
      · rw [(State.post_noted _ (r := recQueueCheck ..) (Nat.le_refl 2) fun _ hn => State.partOf_lt hn).se_eq, State.poisonCells_se,
          hwritten]
      · exact hwritten
    simp [noticed, hchecked]

@[simp] theorem State.finishArrival_se (s : State) (l q : Nat) : (s.finishArrival l q).se = s.se := by
  unfold State.finishArrival
  repeat' split
  · rfl
  · exact s.stopArrival_se l q _
  · exact s.endArrival_se l q

@[simp] theorem State.abortArrival_se (s : State) (l q : Nat) : (s.abortArrival l q).se = s.se := by
  unfold State.abortArrival
  split
  · rfl
  · dsimp only
    split
    · exact s.finishArrival_se l q
    · exact s.stopArrival_se l q _

@[simp] theorem State.cutEngine_se (s : State) (i : Nat) : (s.cutEngine i).se = s.se := by
  unfold State.cutEngine
  refine List.foldlRecOn (motive := fun u : State => u.se = s.se) _ _ rfl fun u hu k _ => ?_
  repeat' split
  · rw [State.abortArrival_se, hu]
  all_goals exact hu

end Sys2Proof.Machine
end

section
/-! PROOFS. Stream engines and memory stacks (R204 to R216): SCRUB, the temperature of a stack, and the failure of a stack and of a stream
engine. -/
namespace Sys2Proof.Machine
open Sys2Proof

/-! SCRUB (R206, R208). -/

/-- What SCRUB does to the word at a, by the error it finds there. -/
def State.scrubWord (s : State) (a : Nat) (found : Option Upset) (part : Option Nat) : State :=
  match found with
  | none => s
  | some .corrected => s.hbmCorrected 5 a 0 part
  | some .uncorrectable => (s.hbmLost 5 a 0 part).reportWord a

/-- The scrub position moves on from pos, and back to 0 at the end of the stack. -/
def State.scrubOn (s : State) (i pos : Nat) : State :=
  if pos + 1 = stackWords then (s.setFld (seScrubPos i) 0).incSat (seScrubPasses i) 1 else s.setFld (seScrubPos i) (pos + 1)

/-- SCRUB in its parts; an error that the command brings is the one found. -/
theorem exec_scrub (s : State) (i : Fin 16) (u : Option Upset) :
    ∃ found part, (∀ e, u = some e → found = some e) ∧
      exec (.scrub i u) s = .next (((s.clearUpsets [hbmAddr i (64 * s.fld (seScrubPos i)) / 64]).scrubWord
        (hbmAddr i (64 * s.fld (seScrubPos i))) found part).scrubOn i (s.fld (seScrubPos i))) := by
  cases u with
  | none => exact ⟨tabFind s.mem.upset (hbmAddr i (64 * s.fld (seScrubPos i)) / 64), _, by simp, rfl⟩
  | some e => exact ⟨some e, _, fun _ h => h, rfl⟩

theorem State.scrubOn_pos (s : State) (i pos : Nat) :
    (s.scrubOn i pos).fld (seScrubPos i) = if pos + 1 = stackWords then 0 else (pos + 1) % 2 ^ (seScrubPos i).w := by
  unfold State.scrubOn
  split
  · have hpasses := State.fld_setFld_apart (s.setFld (seScrubPos i) 0) (seScrubPasses i) (seScrubPos i)
      (satAdd (seScrubPasses i).w ((s.setFld (seScrubPos i) 0).fld (seScrubPasses i)) 1) rfl (by simp [seScrubPos])
      (.inl (by simp [seScrubPos, seScrubPasses]))
    rw [State.incSat, hpasses, State.fld_setFld_same _ _ _ (by simp [seScrubPos]), Nat.zero_mod]
  · exact State.fld_setFld_same _ _ _ (by simp [seScrubPos])

@[simp] theorem State.scrubOn_mem (s : State) (i pos : Nat) : (s.scrubOn i pos).mem = s.mem := by
  unfold State.scrubOn
  split <;> rfl

/-- Is the address one of a calibration record (R459)? -/
abbrev inCalibration (a : Nat) : Prop := 0x30000000 ≤ a ∧ a < 0x30000000 + 0x3000 * 83232

/-- Outside the calibration area a word found poisoned is reported, and restored later if at all (R208, R272). -/
theorem State.reportWord_mem (s : State) {a : Nat} (h : ¬ inCalibration a) : (s.reportWord a).mem = s.mem := by
  unfold State.reportWord
  rw [if_neg h]
  repeat' split
  · exact s.wantRestore_mem ..
  · exact s.mendShard_mem ..
  · rfl

/-- The restore of a calibration record writes it (R461). -/
theorem State.NoNewUpset.reportWord (s : State) (a : Nat) : NoNewUpset s (s.reportWord a) := by
  by_cases h : inCalibration a
  · unfold State.reportWord
    rw [if_pos h]
    have hpost := State.post_noted_outside (s.restoreRecord ((a - 0x30000000) / 0x3000))
      (r := s.recCal ((a - 0x30000000) / 0x3000) 3 (bitNat !(s.hasSnapshot ((a - 0x30000000) / 0x3000)))) (Nat.le_succ 4) (by decide : 1 < 4)
    exact ((NoNewUpset.refl s).restoreRecord _).trans (of_upset_eq (by rw [hpost.mem_eq]))
  · exact of_upset_eq (by rw [s.reportWord_mem h])

theorem State.NoNewUpset.scrubWord (s : State) (a : Nat) (found : Option Upset) (part : Option Nat) :
    NoNewUpset s (s.scrubWord a found part) := by
  unfold State.scrubWord
  split
  · exact refl s
  · exact of_upset_eq (by rw [State.hbmCorrected_mem])
  · exact (of_upset_eq (by rw [State.hbmLost_mem]; rfl)).trans (NoNewUpset.reportWord _ a)

theorem State.scrubWord_bytes (s : State) {a : Nat} (h : ¬ inCalibration a) (found : Option Upset) (part : Option Nat) :
    (s.scrubWord a found part).mem.bytes = s.mem.bytes := by
  unfold State.scrubWord
  split
  · rfl
  · rw [State.hbmCorrected_mem]
  · rw [State.reportWord_mem _ h, State.hbmLost_mem]
    rfl

/-- The bytes of one word touch that word alone. -/
theorem wordsOf_word (w : Nat) : wordsOf (w * 64) 64 = [w] := by
  have hlast : (w * 64 + 64 - 1) / 64 - w * 64 / 64 + 1 = 1 := by omega
  rw [wordsOf, if_neg (by decide), hlast, Nat.mul_div_cancel w (by decide)]
  rfl

theorem State.scrubWord_poisons (s : State) {a : Nat} (h : ¬ inCalibration a) (part : Option Nat) :
    (s.scrubWord a (some .uncorrectable) part).anyPoison (a / 64 * 64) 64 = true := by
  have hmem : (s.scrubWord a (some .uncorrectable) part).mem = (s.setMarks [a / 64] true).mem := by
    rw [State.scrubWord, State.reportWord_mem _ h, State.hbmLost_mem]
  rw [State.anyPoison, hmem, wordsOf_word]
  simp [State.setMarks]

theorem State.anyPoison_congr {s t : State} (h : t.mem = s.mem) (a n : Nat) : t.anyPoison a n = s.anyPoison a n := by
  rw [State.anyPoison, h, State.anyPoison]

/-- SCRUB clears the error of the word it visits, marks what it cannot correct, and moves on (R206, R208). -/
theorem exec_scrub_visits (s : State) (i : Fin 16) (u : Option Upset) :
    let a := hbmAddr i (64 * s.fld (seScrubPos i))
    ∃ t, exec (.scrub i u) s = .next t ∧ tabFind t.mem.upset (a / 64) = none
      ∧ t.fld (seScrubPos i) = (if s.fld (seScrubPos i) + 1 = stackWords then 0 else (s.fld (seScrubPos i) + 1) % 2 ^ (seScrubPos i).w)
      ∧ (¬ inCalibration a →
        t.mem.bytes = s.mem.bytes ∧ (u = some .uncorrectable → t.anyPoison (a / 64 * 64) 64 = true)) := by
  intro a
  obtain ⟨found, part, hfound, hexec⟩ := exec_scrub s i u
  refine ⟨_, hexec, ?_, State.scrubOn_pos .., fun ha => ⟨?_, fun hu => ?_⟩⟩
  · rw [State.scrubOn_mem]
    exact (State.NoNewUpset.scrubWord _ a found part).clean _ (s.clearUpsets_self (a / 64))
  · rw [State.scrubOn_mem, State.scrubWord_bytes _ ha]
    rfl
  · rw [State.anyPoison_congr (State.scrubOn_mem ..), hfound _ hu]
    exact State.scrubWord_poisons _ ha part

/-! HBM_STACK_HOT (R204). -/

/-- What a reading does to the limit of a stack's controller: it comes into force at 95.0 °C and is lifted below 92.0 °C. -/
def State.limitStack (s : State) (n : Nat) (temp : Int) : State :=
  if !tabGet false s.se.limited n && decide (380 ≤ temp) then
    { s with
      se := { s.se with limited := tabSet false s.se.limited n true }
      pw := { s.pw with
        hot := tabInsert (tabErase s.pw.hot n) n (s.now + 1), hotDone := s.pw.hotDone.filter fun m => decide (m ≠ n) } }.post
      (recUnit 4 n 1 14 1 0 0 none)
  else if tabGet false s.se.limited n && decide (temp < 368) then
    { s with
      se := { s.se with limited := tabSet false s.se.limited n false }
      pw := { s.pw with hot := tabErase s.pw.hot n } }
  else s

/-- Below 105 °C a reading does nothing else (R514). -/
theorem exec_hbmStackHot (s : State) (i : Fin 16) {temp : Int} (h : temp < 420) :
    exec (.hbmStackHot i temp) s =
      .next ((({ s with se := { s.se with temp := tabSet 0 s.se.temp i temp } }.limitStack i temp).showSe i)) := by
  have hcritical (b : Prop) : ¬ (420 ≤ temp ∧ b) := fun hb => absurd hb.1 (Int.not_le.mpr h)
  show execHbmStackHot i temp s = _
  unfold execHbmStackHot
  dsimp only
  rw [if_neg (hcritical _)]
  rfl

@[simp] theorem State.showSe_mem (s : State) (n : Nat) : (s.showSe n).mem = s.mem := rfl
@[simp] theorem State.showSe_se (s : State) (n : Nat) : (s.showSe n).se = s.se := rfl

/-- A reading leaves memory and the temperatures, and limits the stack by its hysteresis. -/
theorem State.limitStack_spec (s : State) (n : Nat) (temp : Int) :
    (s.limitStack n temp).mem = s.mem ∧ (s.limitStack n temp).se.temp = s.se.temp
      ∧ tabGet false (s.limitStack n temp).se.limited n =
        (if tabGet false s.se.limited n then decide (368 ≤ temp) else decide (380 ≤ temp)) := by
  unfold State.limitStack
  cases hwas : tabGet false s.se.limited n with
  | false =>
    by_cases hhot : 380 ≤ temp
    · rw [if_pos (by simp [hhot])]
      have hpost (u : State) : State.Noted u (u.post (recUnit 4 n 1 14 1 0 0 none)) :=
        u.post_noted_outside (Nat.le_succ 4) (by decide : 1 < 4)
      rw [(hpost _).mem_eq, (hpost _).se_eq]
      exact ⟨rfl, rfl, by simp [hhot]⟩
    · simp [hhot, hwas]
  | true =>
    by_cases hcool : temp < 368
    · have hlow : ¬ 368 ≤ temp := Int.not_le.mpr hcool
      simp [hcool, hlow]
    · have hhigh : 368 ≤ temp := Int.not_lt.mp hcool
      simp [hcool, hhigh, hwas]

theorem exec_hbmStackHot_limits (s : State) (i : Fin 16) {temp : Int} (h : temp < 420) :
    ∃ t, exec (.hbmStackHot i temp) s = .next t ∧ tabGet 0 t.se.temp i = temp ∧ t.mem = s.mem
      ∧ tabGet false t.se.limited i = (if tabGet false s.se.limited i then decide (368 ≤ temp) else decide (380 ≤ temp)) := by
  obtain ⟨hmem, htemp, hlimited⟩ :=
    State.limitStack_spec { s with se := { s.se with temp := tabSet 0 s.se.temp i temp } } i temp
  refine ⟨_, exec_hbmStackHot s i h, ?_, hmem, hlimited⟩
  rw [State.showSe_se, htemp, tabGet_tabSet_same]

/-! STACK_FAILURE (R216). -/

theorem exec_stackFailure_fatal (s : State) (i : Fin 16) :
    ∃ t, exec (.stackFailure i) s = .next t ∧ t.ig.fatalNow = true ∧ t.mem = s.mem :=
  ⟨_, rfl, s.post_fatalNow (Nat.le_refl 4) rfl, (s.post_noted (by decide : 2 ≤ 4) (by simp)).mem_eq⟩

/-! STREAM_ENGINE_FAILURE (R214, R216). -/

@[simp] theorem State.closeSlot_failed (s : State) (i k : Nat) : (s.closeSlot i k).se.failed = s.se.failed := by
  unfold State.closeSlot
  repeat' split
  all_goals rfl

/-- A request that ends leaves the engines running or failed as they are (R357). -/
@[simp] theorem State.endReqAt_failed (s : State) (t n status reason : Nat) (final : Bool) :
    (s.endReqAt t n status reason final).se.failed = s.se.failed := by
  unfold State.endReqAt
  split
  · rfl
  · split
    · rfl
    · extract_lets told ended freed
      have htold : told.se = s.se := by
        unfold told
        split
        · exact s.writeCpl_se ..
        · rfl
      have hfreed : freed.se.failed = s.se.failed := by
        change told.se.failed = _
        rw [htold]
      repeat' split
      · rw [State.closeSlot_failed, hfreed]
      all_goals exact hfreed

@[simp] theorem State.endReqs_failed (s : State) (f : Request → Bool) (status reason : Nat) (final : Bool) :
    (s.endReqs f status reason final).se.failed = s.se.failed :=
  List.foldlRecOn (motive := fun u : State => u.se.failed = s.se.failed) _ _ rfl fun u hu _ _ => by
    rw [State.endReq, State.endReqAt_failed, hu]

/-- A slot in use becomes STOPPED. -/
def State.stopSlot (s : State) (i k : Nat) : State :=
  if s.fld (seSlotStatState i k) = 0 then s else s.setFld (seSlotStatState i k) slotStopped

/-- The first n slots of a stream engine stop. -/
def State.stopSlots (s : State) (i n : Nat) : State := (List.range n).foldl (fun s k => s.stopSlot i k) s

/-- Is a slot unassigned or STOPPED? -/
def State.SlotStopped (s : State) (i k : Nat) : Prop := s.fld (seSlotStatState i k) = 0 ∨ s.fld (seSlotStatState i k) = slotStopped

theorem State.stopSlot_same (s : State) (i k : Nat) : (s.stopSlot i k).SlotStopped i k := by
  unfold State.stopSlot
  split
  case isTrue hnone => exact .inl hnone
  case isFalse => exact .inr (State.fld_setFld_same _ _ _ (by simp [seSlotStatState]))

theorem State.stopSlot_ne (s : State) (i : Nat) {k j : Nat} (h : j ≠ k) :
    (s.stopSlot i k).fld (seSlotStatState i j) = s.fld (seSlotStatState i j) := by
  unfold State.stopSlot
  split
  · rfl
  · refine State.fld_setFld_off _ _ _ _ ?_
    simp only [seSlotStatState, seSlotStatReg]
    omega

theorem State.stopSlots_stopped (s : State) (i n : Nat) {k : Nat} (hk : k < n) : (s.stopSlots i n).SlotStopped i k := by
  induction n with
  | zero => exact absurd hk (Nat.not_lt_zero k)
  | succ n ih =>
    rw [State.stopSlots, List.range_succ, List.foldl_append, List.foldl_cons, List.foldl_nil]
    change ((s.stopSlots i n).stopSlot i n).SlotStopped i k
    by_cases hlast : k = n
    · rw [hlast]
      exact State.stopSlot_same ..
    · rw [State.SlotStopped, State.stopSlot_ne _ _ hlast]
      exact ih (by omega)

@[simp] theorem State.stopSlots_se (s : State) (i n : Nat) : (s.stopSlots i n).se = s.se :=
  List.foldlRecOn (motive := fun u : State => u.se = s.se) _ _ rfl fun u hu k _ => by
    unfold State.stopSlot
    split
    all_goals exact hu

/-- What SE_STATUS shows is no slot's state. -/
theorem State.showSlots_state (s : State) (i k : Nat) :
    (s.showSlots i).fld (seSlotStatState i k) = s.fld (seSlotStatState i k) := by
  refine State.fld_setFld_off _ _ _ _ ?_
  simp only [seSlotStatState, seSlotStatReg, seStatusOpen, seStatusReg]
  omega

/-- An engine that fails is marked failed before its slots stop. -/
theorem exec_streamEngineFailure {s : State} {i : Fin 16} (h : tabGet false s.se.failed i = false) :
    ∃ u : State, exec (.streamEngineFailure i) s = .next ((u.stopSlots i 256).showSlots i) ∧ tabGet false u.se.failed i = true := by
  show ∃ u : State, execStreamEngineFailure i s = _ ∧ _
  unfold execStreamEngineFailure
  rw [h, if_neg Bool.false_ne_true]
  refine ⟨_, rfl, ?_⟩
  have hpost (u : State) : State.Noted u (u.post (recUnit 3 i 3 14 2 0 0 none)) :=
    u.post_noted_outside (Nat.le_succ 4) (by decide : 3 < 4)
  rw [State.endReqs_failed, State.cutEngine_se, (hpost _).se_eq, State.showSe_se, tabGet_tabSet_same]

theorem exec_streamEngineFailure_stops {s : State} {i : Fin 16} (h : tabGet false s.se.failed i = false) :
    ∃ t, exec (.streamEngineFailure i) s = .next t ∧ tabGet false t.se.failed i = true
      ∧ (∀ k, k < 256 → t.fld (seSlotStatState i k) = 0 ∨ t.fld (seSlotStatState i k) = slotStopped) := by
  obtain ⟨u, hexec, hfailed⟩ := exec_streamEngineFailure h
  refine ⟨_, hexec, ?_, fun k hk => ?_⟩
  · rw [State.showSlots, State.setFld_se, State.stopSlots_se, hfailed]
  · rw [State.showSlots_state]
    exact u.stopSlots_stopped i 256 hk

/-- An engine fails once. -/
theorem exec_streamEngineFailure_again {s : State} {i : Fin 16} (h : tabGet false s.se.failed i = true) :
    exec (.streamEngineFailure i) s = .next s := by
  show execStreamEngineFailure i s = _
  rw [execStreamEngineFailure, if_pos h]

/-- Settles O38: a report of a lost word writes memory in the calibration area alone, a record outside the chain touches no stack and no engine,
and a failed engine stops its slots after its requests have ended. -/
theorem stacksAreScrubbedAndGuarded : Obligations.StacksAreScrubbedAndGuarded :=
  fun s i => ⟨exec_scrub_visits s i, fun _ => exec_hbmStackHot_limits s i, exec_stackFailure_fatal s i, exec_streamEngineFailure_stops,
    exec_streamEngineFailure_again⟩

end Sys2Proof.Machine
end
